-- ==== Sys2Proof/Word.lean ====
section
/-! DEFINITION. The words of the part: a character's byte on a command link and a 16-bit audio sample. -/

namespace Sys2Proof

/-- The eight data bits of a character on a command link (R163). -/
abbrev Byte := BitVec 8

/-- An audio sample: 16-bit two's complement (00, Conventions: Samples; R149). -/
abbrev Sample := BitVec 16

end Sys2Proof
end

