-- ==== Sys2Proof/Config.lean ====
section
/-! DEFINITION. What the spec fixes as constants of the part, and the two values it leaves open. -/

namespace Sys2Proof.Config

/-- FREE VALUE, log 7: whether an alert byte 0xF6 received inside a frame advances the character count. R165 counts "each
character on the line" and also bounds every position by 133, which only an uncounted 0xF6 allows. Nothing is known of it. -/
opaque alertByteCounts : Bool

/-- FREE VALUE, log 13: the code a console image gives for a standing that no row of R138 describes. Nothing is known of it. -/
opaque unstatedStanding : Nat

/-- Characters that delimit and escape frames, and the alert byte (R164). -/
def openByte : Byte := 0xF3#8
def closeByte : Byte := 0xF4#8
def escapeByte : Byte := 0xF5#8
def alertByte : Byte := 0xF6#8
/-- The value exclusive-ORed into an escaped byte (R164). -/
def escapeMask : Byte := 0x20#8

/-- The most unescaped bytes a frame stores: a payload of 64 and the check byte (R164, R166). -/
def maxStored : Nat := 65
/-- The most bytes of a payload (R164). -/
def maxPayload : Nat := 64
/-- Milliseconds without a character that close an open frame (R166, R167). -/
def frameTimeoutMs : Nat := 100
/-- Responses a link's queue holds (R169). -/
def queueCapacity : Nat := 4
/-- Entries a pending notice set holds (R180). -/
def noticeCapacity : Nat := 32
/-- Milliseconds an input must hold a new value before a glitch filter takes it (R6, R132). -/
def filterHoldMs : Nat := 3
/-- What the start window adds to the key-up delay, and the length of the loss window (R107, R108). -/
def senseWindowMs : Nat := 250
/-- The effective priority of a console, and of a port in emergency (R18, R69). -/
def consolePriority : Nat := 9
def emergencyPriority : Nat := 8
/-- The highest talk elapsed (R116). -/
def maxElapsed : Nat := 600000
/-- The highest gain, and unity (00, Conventions: Levels). -/
def maxGain : Nat := 1023
def unityGain : Nat := 256
/-- The identity characters "IW2416" and the revision byte of the unit image (R177). -/
def identity : List Nat := [0x49, 0x57, 0x32, 0x34, 0x31, 0x36]
def revision : Nat := 1
/-- The notice mask after power-on and the RESET line: every kind but FLOOR CHANGE, bit 7 set (R173, R181). -/
def defaultMask : Byte := 0xBF#8
/-- Carrier events one action hands on before it ends; more would stay in State.raised for the next step (log 6). -/
def carrierEventBound : Nat := 256

end Sys2Proof.Config
end

