-- ==== Sys2Proof/Syntax.lean ====
section
/-! DEFINITION. The commands and events of the part: one constructor of Instr for each row of spec/opcode_table.json. -/

namespace Sys2Proof

/-- A radio port. Port number k of the spec (1..16) is the index k - 1 (R1). -/
abbrev PortId := Fin 16
/-- A patch slot. Slot number k of the spec (1..12) is the index k - 1 (R24). -/
abbrev SlotId := Fin 12

/-- An operator console position (00, Conventions: Consoles). -/
inductive Console where
  | A
  | B
  deriving DecidableEq, Repr

/-- The electrical level of a pin. -/
inductive Level where
  | low
  | high
  deriving DecidableEq, Repr

/-- A source of talk: source numbers 1..16 are ports, 17 console A, 18 console B (00, Terms). -/
inductive Source where
  | port (p : PortId)
  | console (c : Console)
  deriving DecidableEq, Repr

/-- The two filtered inputs of a port (R6). -/
inductive FilterInput where
  | cor
  | emg
  deriving DecidableEq, Repr

/-- The first fault found in a frame (R166). -/
inductive FaultReason where
  | character
  | check
  | length
  | timeout
  deriving DecidableEq, Repr

/-- A character as it stands on a command link: its eight data bits, its parity bit and its stop bit, true for a 1 (R163). -/
structure LineChar where
  data : Byte
  parity : Bool
  stop : Bool
  deriving DecidableEq, Repr

/-- The selection of SET PORT, each marked item with the number the frame carries for it, in the order of R1 (R20, R173). -/
structure PortSelection where
  kind : Option Nat
  corPolarity : Option Nat
  glitchFilter : Option Nat
  qualifyTime : Option Nat
  dropTime : Option Nat
  keyUpDelay : Option Nat
  turnaround : Option Nat
  basePriority : Option Nat
  transmitSense : Option Nat
  emgMode : Option Nat
  receiveTrim : Option Nat
  transmitTrim : Option Nat
  deriving DecidableEq, Repr

/-- The selection of SET PATCH, in the order of its row of the command table (R61, R173). -/
structure PatchSelection where
  label : Option (List Byte)
  mode : Option Nat
  style : Option Nat
  threshold : Option Nat
  level : Option Nat
  hangTime : Option Nat
  timeOutLimit : Option Nat
  lockoutTime : Option Nat
  deriving DecidableEq, Repr

/-- The conditions CLEAR PORT CONDITIONS selects (R23). -/
structure ConditionSelection where
  fault : Bool
  emergency : Bool
  lockout : Bool
  deriving DecidableEq, Repr

/-- One entry of SET LISTEN as the frame carries it (R140). -/
structure ListenArg where
  patch : Nat
  level : Nat
  deriving DecidableEq, Repr

/-- What a good frame asks for: a command of the table of R173 with its arguments, as numbers the frame carries. -/
inductive Request where
  | queryUnit
  | restart
  | setLink (supervision : Option Nat) (mask : Option Byte)
  | readNotice
  | setPort (port : Nat) (sel : PortSelection)
  | queryPort (port : Nat)
  | clearPortConditions (port : Nat) (sel : ConditionSelection)
  | reservePort (port : Nat)
  | releasePort (port : Nat)
  | createPatch (slot : Nat) (label : List Byte) (ports : List Nat)
  | addMembers (patch : Nat) (ports : List Nat)
  | removeMembers (patch : Nat) (ports : List Nat)
  | moveMember (port : Nat) (dest : Nat)
  | mergePatches (survivor : Nat) (absorbed : Nat)
  | setPatch (patch : Nat) (sel : PatchSelection)
  | dissolve (patch : Nat) (kind : Nat)
  | queryPatch (patch : Nat)
  | listPatches
  | setSharing (patch : Nat) (value : Nat)
  | takeOver (patch : Nat)
  | setConsole (micTrim : Option Nat) (sidetone : Option Nat)
  | setListen (entries : List ListenArg)
  | setTalkTarget (kind : Nat) (number : Nat)
  | seize
  | unseize
  deriving DecidableEq, Repr

/-- One whole, indivisible event or command of the part: a row of spec/opcode_table.json (95). A command row is the closing,
on the link of console c, of a good frame that carries the command (log 18). -/
inductive Instr where
  -- resets (R177)
  | powerOn
  | resetLineAsserted
  | resetLineReleased
  -- the lines and timers of a port
  | corLineChange (p : PortId) (l : Level)
  | emgLineChange (p : PortId) (l : Level)
  | glitchFilterExpiry (p : PortId) (input : FilterInput)
  | qualifyTimerExpiry (p : PortId)
  | dropTimerExpiry (p : PortId)
  | guardExpiry (p : PortId)
  | lockoutExpiry (p : PortId)
  | txsChange (p : PortId) (l : Level)
  | keyUpExpiry (p : PortId)
  | startWindowExpiry (p : PortId)
  | lossExpiry (p : PortId)
  -- the timers of a patch
  | hangExpiry (n : SlotId)
  | timeOut (n : SlotId)
  -- the lines and timers of a console
  | consolePttLineChange (c : Console) (l : Level)
  | pttFilterExpiry (c : Console)
  | silenceExpiry (c : Console)
  | alertByteSent (c : Console)
  -- audio: the eighteen samples of the frame just ended (R150)
  | audioFrame (samples : Vector Sample 18)
  -- frames on a link
  | partialFrameDropped (c : Console)
  | badFrame (c : Console) (reason : FaultReason) (position : Nat)
  | frameTimeout (c : Console)
  | unknownCommand (c : Console) (code : Nat)
  | responseTransmissionStart (c : Console)
  | responseSent (c : Console)
  -- commands
  | queryUnit (c : Console)
  | restart (c : Console)
  | setLink (c : Console) (supervision : Option Nat) (mask : Option Byte)
  | readNotice (c : Console)
  | setPort (c : Console) (port : Nat) (sel : PortSelection)
  | queryPort (c : Console) (port : Nat)
  | clearPortConditions (c : Console) (port : Nat) (sel : ConditionSelection)
  | reservePort (c : Console) (port : Nat)
  | releasePort (c : Console) (port : Nat)
  | createPatch (c : Console) (slot : Nat) (label : List Byte) (ports : List Nat)
  | addMembers (c : Console) (patch : Nat) (ports : List Nat)
  | removeMembers (c : Console) (patch : Nat) (ports : List Nat)
  | moveMember (c : Console) (port : Nat) (dest : Nat)
  | mergePatches (c : Console) (survivor : Nat) (absorbed : Nat)
  | setPatch (c : Console) (patch : Nat) (sel : PatchSelection)
  | dissolveNow (c : Console) (patch : Nat)
  | dissolveWhenClear (c : Console) (patch : Nat)
  | queryPatch (c : Console) (patch : Nat)
  | listPatches (c : Console)
  | setSharing (c : Console) (patch : Nat) (value : Nat)
  | takeOver (c : Console) (patch : Nat)
  | setConsole (c : Console) (micTrim : Option Nat) (sidetone : Option Nat)
  | setListen (c : Console) (entries : List ListenArg)
  | setTalkTarget (c : Console) (kind : Nat) (number : Nat)
  | seize (c : Console)
  | unseize (c : Console)
  -- a character on a link
  | characterReceived (c : Console) (ch : LineChar)
  deriving DecidableEq, Repr

/-- The request a command row carries, with its console; none for an event row. -/
def Instr.request? : Instr → Option (Console × Request)
  | .queryUnit c => some (c, .queryUnit)
  | .restart c => some (c, .restart)
  | .setLink c t m => some (c, .setLink t m)
  | .readNotice c => some (c, .readNotice)
  | .setPort c p sel => some (c, .setPort p sel)
  | .queryPort c p => some (c, .queryPort p)
  | .clearPortConditions c p sel => some (c, .clearPortConditions p sel)
  | .reservePort c p => some (c, .reservePort p)
  | .releasePort c p => some (c, .releasePort p)
  | .createPatch c n l ps => some (c, .createPatch n l ps)
  | .addMembers c n ps => some (c, .addMembers n ps)
  | .removeMembers c n ps => some (c, .removeMembers n ps)
  | .moveMember c p n => some (c, .moveMember p n)
  | .mergePatches c a b => some (c, .mergePatches a b)
  | .setPatch c n sel => some (c, .setPatch n sel)
  | .dissolveNow c n => some (c, .dissolve n 0)
  | .dissolveWhenClear c n => some (c, .dissolve n 1)
  | .queryPatch c n => some (c, .queryPatch n)
  | .listPatches c => some (c, .listPatches)
  | .setSharing c n v => some (c, .setSharing n v)
  | .takeOver c n => some (c, .takeOver n)
  | .setConsole c m t => some (c, .setConsole m t)
  | .setListen c es => some (c, .setListen es)
  | .setTalkTarget c k n => some (c, .setTalkTarget k n)
  | .seize c => some (c, .seize)
  | .unseize c => some (c, .unseize)
  | .powerOn | .resetLineAsserted | .resetLineReleased
  | .corLineChange _ _ | .emgLineChange _ _ | .glitchFilterExpiry _ _
  | .qualifyTimerExpiry _ | .dropTimerExpiry _ | .guardExpiry _ | .lockoutExpiry _
  | .txsChange _ _ | .keyUpExpiry _ | .startWindowExpiry _ | .lossExpiry _
  | .hangExpiry _ | .timeOut _
  | .consolePttLineChange _ _ | .pttFilterExpiry _ | .silenceExpiry _ | .alertByteSent _
  | .audioFrame _
  | .partialFrameDropped _ | .badFrame _ _ _ | .frameTimeout _ | .unknownCommand _ _
  | .responseTransmissionStart _ | .responseSent _ | .characterReceived _ _ => none

end Sys2Proof
end

