-- ==== Sys2Proof/WellFormed.lean ====
section
/-! DEFINITION. Which terms of Instr stand for something that can reach the part: numbers that fit the bytes the frame carries
them in, a payload that fits a frame, a fault position that can be reported, and an unknown code that is unknown. -/

namespace Sys2Proof

/-- A number one byte of a frame carries. -/
def isByte (n : Nat) : Bool := n < 256
/-- A number two bytes of a frame carry (R173). -/
def isWord (n : Nat) : Bool := n < 65536
def optByte (o : Option Nat) : Bool := o.all isByte
def optWord (o : Option Nat) : Bool := o.all isWord

/-- The codes of the command table (R173). -/
def commandCodes : List Nat :=
  [0x01, 0x02, 0x03, 0x04, 0x10, 0x11, 0x12, 0x13, 0x14, 0x20, 0x21, 0x22, 0x23, 0x24, 0x25, 0x26, 0x27, 0x28, 0x29, 0x2A,
   0x30, 0x31, 0x32, 0x33, 0x34]

/-- How many bytes a marked item of k bytes takes. -/
def markedSize (k : Nat) (o : Option Nat) : Nat := if o.isSome then k else 0

def PortSelection.size (s : PortSelection) : Nat :=
  markedSize 1 s.kind + markedSize 1 s.corPolarity + markedSize 1 s.glitchFilter + markedSize 2 s.qualifyTime
    + markedSize 2 s.dropTime + markedSize 2 s.keyUpDelay + markedSize 2 s.turnaround + markedSize 1 s.basePriority
    + markedSize 1 s.transmitSense + markedSize 1 s.emgMode + markedSize 2 s.receiveTrim + markedSize 2 s.transmitTrim

def PortSelection.fits (s : PortSelection) : Bool :=
  optByte s.kind && optByte s.corPolarity && optByte s.glitchFilter && optWord s.qualifyTime && optWord s.dropTime
    && optWord s.keyUpDelay && optWord s.turnaround && optByte s.basePriority && optByte s.transmitSense && optByte s.emgMode
    && optWord s.receiveTrim && optWord s.transmitTrim

def PatchSelection.labelSize (s : PatchSelection) : Nat :=
  match s.label with
  | some l => l.length + 1
  | none => 0

def PatchSelection.size (s : PatchSelection) : Nat :=
  s.labelSize + markedSize 1 s.mode + markedSize 1 s.style + markedSize 1 s.threshold + markedSize 2 s.level
    + markedSize 2 s.hangTime + markedSize 2 s.timeOutLimit + markedSize 1 s.lockoutTime

def PatchSelection.fits (s : PatchSelection) : Bool :=
  optByte s.mode && optByte s.style && optByte s.threshold && optWord s.level && optWord s.hangTime
    && optWord s.timeOutLimit && optByte s.lockoutTime

/-- The bytes of the payload a request takes, its code included (R173). -/
def Request.size : Request → Nat
  | .queryUnit | .restart | .readNotice | .listPatches | .seize | .unseize => 1
  | .setLink t m => 2 + markedSize 1 t + (if m.isSome then 1 else 0)
  | .setPort _ sel => 4 + sel.size
  | .queryPort _ | .reservePort _ | .releasePort _ | .queryPatch _ | .takeOver _ => 2
  | .clearPortConditions _ _ | .moveMember _ _ | .mergePatches _ _ | .dissolve _ _ | .setSharing _ _ | .setTalkTarget _ _ => 3
  | .createPatch _ l ps => 4 + l.length + ps.length
  | .addMembers _ ps | .removeMembers _ ps => 3 + ps.length
  | .setPatch _ sel => 3 + sel.size
  | .setConsole m t => 2 + markedSize 2 m + markedSize 2 t
  | .setListen es => 2 + 3 * es.length

/-- Every number of the request fits the bytes the frame carries it in. -/
def Request.numbersFit : Request → Bool
  | .queryUnit | .restart | .readNotice | .listPatches | .seize | .unseize => true
  | .setLink t _ => optByte t
  | .setPort p sel => isByte p && sel.fits
  | .queryPort n | .reservePort n | .releasePort n | .queryPatch n | .takeOver n => isByte n
  | .clearPortConditions p _ => isByte p
  | .createPatch n _ ps => isByte n && ps.all isByte
  | .addMembers n ps | .removeMembers n ps => isByte n && ps.all isByte
  | .moveMember a b | .mergePatches a b | .dissolve a b | .setSharing a b | .setTalkTarget a b => isByte a && isByte b
  | .setPatch n sel => isByte n && sel.fits
  | .setConsole m t => optWord m && optWord t
  | .setListen es => es.all (fun e => isByte e.patch && isWord e.level)

/-- A request a frame can carry: its numbers fit and its payload holds at most 64 bytes (R164). -/
def Request.wellFormed (r : Request) : Bool := r.numbersFit && r.size ≤ Config.maxPayload

/-- A reason and a position that R166 lets a fault report. -/
def faultReportable (reason : FaultReason) (position : Nat) : Bool :=
  match reason with
  | .check => position == 0
  | .character | .length | .timeout => 1 ≤ position && position ≤ 133

def Instr.wellFormed (i : Instr) : Bool :=
  match i with
  | .badFrame _ reason position => faultReportable reason position
  | .unknownCommand _ code => isByte code && !commandCodes.contains code
  | _ => i.request?.all (fun cr => cr.2.wellFormed)

end Sys2Proof
end

