-- ==== Sys2Proof/Decode.lean ====
section
/-! DEFINITION. The words of the part: the payload of a frame read as a request, the encoder that writes it, the characters a
frame takes on the line (R163, R164), and decodeTableWord (the table gives no row bits, so it answers none). -/

namespace Sys2Proof

/-! ### Reading a payload -/

def takeByte : List Byte → Option (Nat × List Byte)
  | b :: bs => some (b.toNat, bs)
  | [] => none

/-- Two bytes, the most significant first (R173). -/
def takeWord : List Byte → Option (Nat × List Byte)
  | h :: l :: bs => some (h.toNat * 256 + l.toNat, bs)
  | _ => none

def takeMany (k : Nat) (bs : List Byte) : Option (List Byte × List Byte) :=
  if k ≤ bs.length then some (bs.take k, bs.drop k) else none

/-- An item that is sent only when its bit of the selection is set (R173). -/
def takeMarked (mark : Bool) (take : List Byte → Option (Nat × List Byte)) (bs : List Byte) :
    Option (Option Nat × List Byte) :=
  if mark then (take bs).map (fun vr => (some vr.1, vr.2)) else some (none, bs)

/-- A count and that many bytes. -/
def takeCounted (bs : List Byte) : Option (List Byte × List Byte) :=
  (takeByte bs).bind (fun kr => takeMany kr.1 kr.2)

/-- The label of SET PATCH, sent as its length and its characters. -/
def takeLabel (mark : Bool) (bs : List Byte) : Option (Option (List Byte) × List Byte) :=
  if mark then (takeCounted bs).map (fun vr => (some vr.1, vr.2)) else some (none, bs)

/-- k entries of SET LISTEN: a patch and a level of two bytes. -/
def takeEntries : Nat → List Byte → Option (List ListenArg × List Byte)
  | 0, bs => some ([], bs)
  | k + 1, bs =>
    (takeByte bs).bind fun p => (takeWord p.2).bind fun l =>
      (takeEntries k l.2).map fun es => (⟨p.1, l.1⟩ :: es.1, es.2)

def takePortSelection (w : Nat) (bs : List Byte) : Option (PortSelection × List Byte) := do
  let (kind, bs) ← takeMarked (w.testBit 0) takeByte bs
  let (corPolarity, bs) ← takeMarked (w.testBit 1) takeByte bs
  let (glitchFilter, bs) ← takeMarked (w.testBit 2) takeByte bs
  let (qualifyTime, bs) ← takeMarked (w.testBit 3) takeWord bs
  let (dropTime, bs) ← takeMarked (w.testBit 4) takeWord bs
  let (keyUpDelay, bs) ← takeMarked (w.testBit 5) takeWord bs
  let (turnaround, bs) ← takeMarked (w.testBit 6) takeWord bs
  let (basePriority, bs) ← takeMarked (w.testBit 7) takeByte bs
  let (transmitSense, bs) ← takeMarked (w.testBit 8) takeByte bs
  let (emgMode, bs) ← takeMarked (w.testBit 9) takeByte bs
  let (receiveTrim, bs) ← takeMarked (w.testBit 10) takeWord bs
  let (transmitTrim, bs) ← takeMarked (w.testBit 11) takeWord bs
  some (⟨kind, corPolarity, glitchFilter, qualifyTime, dropTime, keyUpDelay, turnaround, basePriority, transmitSense, emgMode,
    receiveTrim, transmitTrim⟩, bs)

def takePatchSelection (w : Nat) (bs : List Byte) : Option (PatchSelection × List Byte) := do
  let (label, bs) ← takeLabel (w.testBit 0) bs
  let (mode, bs) ← takeMarked (w.testBit 1) takeByte bs
  let (style, bs) ← takeMarked (w.testBit 2) takeByte bs
  let (threshold, bs) ← takeMarked (w.testBit 3) takeByte bs
  let (level, bs) ← takeMarked (w.testBit 4) takeWord bs
  let (hangTime, bs) ← takeMarked (w.testBit 5) takeWord bs
  let (timeOutLimit, bs) ← takeMarked (w.testBit 6) takeWord bs
  let (lockoutTime, bs) ← takeMarked (w.testBit 7) takeByte bs
  some (⟨label, mode, style, threshold, level, hangTime, timeOutLimit, lockoutTime⟩, bs)

/-- The request, when nothing is left over: the payload must hold exactly the arguments (R168). -/
def finish (rb : Request × List Byte) : Option Request :=
  if rb.2 = [] then some rb.1 else none

def parseUnitArgs (code : Nat) (bs : List Byte) : Option Request :=
  match code with
  | 0x01 => finish (.queryUnit, bs)
  | 0x02 => finish (.restart, bs)
  | 0x03 => do
    let (w, bs) ← takeByte bs
    let (t, bs) ← takeMarked (w.testBit 0) takeByte bs
    let (m, bs) ← takeMarked (w.testBit 1) takeByte bs
    finish (.setLink t (m.map (BitVec.ofNat 8)), bs)
  | 0x04 => finish (.readNotice, bs)
  | _ => none

def parsePortArgs (code : Nat) (bs : List Byte) : Option Request :=
  match code with
  | 0x10 => do
    let (p, bs) ← takeByte bs
    let (w, bs) ← takeWord bs
    let (sel, bs) ← takePortSelection w bs
    finish (.setPort p sel, bs)
  | 0x11 => do
    let (p, bs) ← takeByte bs
    finish (.queryPort p, bs)
  | 0x12 => do
    let (p, bs) ← takeByte bs
    let (w, bs) ← takeByte bs
    finish (.clearPortConditions p ⟨w.testBit 0, w.testBit 1, w.testBit 2⟩, bs)
  | 0x13 => do
    let (p, bs) ← takeByte bs
    finish (.reservePort p, bs)
  | 0x14 => do
    let (p, bs) ← takeByte bs
    finish (.releasePort p, bs)
  | _ => none

def parsePatchArgs (code : Nat) (bs : List Byte) : Option Request :=
  match code with
  | 0x20 => do
    let (n, bs) ← takeByte bs
    let (l, bs) ← takeCounted bs
    let (ps, bs) ← takeCounted bs
    finish (.createPatch n l (ps.map BitVec.toNat), bs)
  | 0x21 => do
    let (n, bs) ← takeByte bs
    let (ps, bs) ← takeCounted bs
    finish (.addMembers n (ps.map BitVec.toNat), bs)
  | 0x22 => do
    let (n, bs) ← takeByte bs
    let (ps, bs) ← takeCounted bs
    finish (.removeMembers n (ps.map BitVec.toNat), bs)
  | 0x23 => do
    let (p, bs) ← takeByte bs
    let (n, bs) ← takeByte bs
    finish (.moveMember p n, bs)
  | 0x24 => do
    let (a, bs) ← takeByte bs
    let (b, bs) ← takeByte bs
    finish (.mergePatches a b, bs)
  | 0x25 => do
    let (n, bs) ← takeByte bs
    let (w, bs) ← takeByte bs
    let (sel, bs) ← takePatchSelection w bs
    finish (.setPatch n sel, bs)
  | 0x26 => do
    let (n, bs) ← takeByte bs
    let (k, bs) ← takeByte bs
    finish (.dissolve n k, bs)
  | 0x27 => do
    let (n, bs) ← takeByte bs
    finish (.queryPatch n, bs)
  | 0x28 => finish (.listPatches, bs)
  | 0x29 => do
    let (n, bs) ← takeByte bs
    let (v, bs) ← takeByte bs
    finish (.setSharing n v, bs)
  | 0x2A => do
    let (n, bs) ← takeByte bs
    finish (.takeOver n, bs)
  | _ => none

def parseConsoleArgs (code : Nat) (bs : List Byte) : Option Request :=
  match code with
  | 0x30 => do
    let (w, bs) ← takeByte bs
    let (m, bs) ← takeMarked (w.testBit 0) takeWord bs
    let (t, bs) ← takeMarked (w.testBit 1) takeWord bs
    finish (.setConsole m t, bs)
  | 0x31 => do
    let (k, bs) ← takeByte bs
    let (es, bs) ← takeEntries k bs
    finish (.setListen es, bs)
  | 0x32 => do
    let (k, bs) ← takeByte bs
    let (n, bs) ← takeByte bs
    finish (.setTalkTarget k n, bs)
  | 0x33 => finish (.seize, bs)
  | 0x34 => finish (.unseize, bs)
  | _ => none

/-- The arguments of a known code; none where the payload is shorter or longer than its layout calls for (R168). -/
def parseArgs (code : Nat) (bs : List Byte) : Option Request :=
  if code < 0x10 then parseUnitArgs code bs
  else if code < 0x20 then parsePortArgs code bs
  else if code < 0x30 then parsePatchArgs code bs
  else parseConsoleArgs code bs

/-- What the payload of a good frame is (R168). -/
inductive Parsed where
  | unknown (code : Nat)
  | badLength
  | request (r : Request)
  deriving DecidableEq, Repr

/-- R168: the first byte is the command code; a code not in the table, or a payload of the wrong length, is answered so. A good
frame's payload holds at least one byte (R166); the empty list answers as a payload too short. -/
def parsePayload : List Byte → Parsed
  | [] => .badLength
  | code :: args =>
    if commandCodes.contains code.toNat then
      match parseArgs code.toNat args with
      | some r => .request r
      | none => .badLength
    else .unknown code.toNat

/-! ### Writing a payload -/

def byteOf (n : Nat) : Byte := BitVec.ofNat 8 n
/-- One byte, two bytes and three bytes of a number, the most significant first (R173). -/
def putByte (n : Nat) : List Byte := [byteOf n]
def putWord (n : Nat) : List Byte := [byteOf (n / 256), byteOf n]
def putThree (n : Nat) : List Byte := [byteOf (n / 65536), byteOf (n / 256), byteOf n]

def putMarked (put : Nat → List Byte) (o : Option Nat) : List Byte :=
  match o with
  | some n => put n
  | none => []

def putCounted (bs : List Byte) : List Byte := byteOf bs.length :: bs

def putLabel (o : Option (List Byte)) : List Byte :=
  match o with
  | some l => putCounted l
  | none => []

/-- The selection bits of a list of marks, bit 0 for the first (R173). -/
def markBits : List Bool → Nat
  | [] => 0
  | b :: bs => (if b then 1 else 0) + 2 * markBits bs

def PortSelection.marks (s : PortSelection) : List Bool :=
  [s.kind.isSome, s.corPolarity.isSome, s.glitchFilter.isSome, s.qualifyTime.isSome, s.dropTime.isSome, s.keyUpDelay.isSome,
   s.turnaround.isSome, s.basePriority.isSome, s.transmitSense.isSome, s.emgMode.isSome, s.receiveTrim.isSome,
   s.transmitTrim.isSome]

def PortSelection.values (s : PortSelection) : List Byte :=
  putMarked putByte s.kind ++ putMarked putByte s.corPolarity ++ putMarked putByte s.glitchFilter
    ++ putMarked putWord s.qualifyTime ++ putMarked putWord s.dropTime ++ putMarked putWord s.keyUpDelay
    ++ putMarked putWord s.turnaround ++ putMarked putByte s.basePriority ++ putMarked putByte s.transmitSense
    ++ putMarked putByte s.emgMode ++ putMarked putWord s.receiveTrim ++ putMarked putWord s.transmitTrim

def PatchSelection.marks (s : PatchSelection) : List Bool :=
  [s.label.isSome, s.mode.isSome, s.style.isSome, s.threshold.isSome, s.level.isSome, s.hangTime.isSome, s.timeOutLimit.isSome,
   s.lockoutTime.isSome]

def PatchSelection.values (s : PatchSelection) : List Byte :=
  putLabel s.label ++ putMarked putByte s.mode ++ putMarked putByte s.style ++ putMarked putByte s.threshold
    ++ putMarked putWord s.level ++ putMarked putWord s.hangTime ++ putMarked putWord s.timeOutLimit
    ++ putMarked putByte s.lockoutTime

def putEntry (e : ListenArg) : List Byte := putByte e.patch ++ putWord e.level

/-- The payload of the frame that carries a request: its code and its arguments (R173). -/
def encodeRequest : Request → List Byte
  | .queryUnit => [0x01#8]
  | .restart => [0x02#8]
  | .setLink t m =>
    [0x03#8, byteOf (markBits [t.isSome, m.isSome])] ++ putMarked putByte t ++ m.toList
  | .readNotice => [0x04#8]
  | .setPort p sel => [0x10#8, byteOf p] ++ putWord (markBits sel.marks) ++ sel.values
  | .queryPort p => [0x11#8, byteOf p]
  | .clearPortConditions p sel => [0x12#8, byteOf p, byteOf (markBits [sel.fault, sel.emergency, sel.lockout])]
  | .reservePort p => [0x13#8, byteOf p]
  | .releasePort p => [0x14#8, byteOf p]
  | .createPatch n l ps => [0x20#8, byteOf n] ++ putCounted l ++ putCounted (ps.map byteOf)
  | .addMembers n ps => [0x21#8, byteOf n] ++ putCounted (ps.map byteOf)
  | .removeMembers n ps => [0x22#8, byteOf n] ++ putCounted (ps.map byteOf)
  | .moveMember p n => [0x23#8, byteOf p, byteOf n]
  | .mergePatches a b => [0x24#8, byteOf a, byteOf b]
  | .setPatch n sel => [0x25#8, byteOf n, byteOf (markBits sel.marks)] ++ sel.values
  | .dissolve n k => [0x26#8, byteOf n, byteOf k]
  | .queryPatch n => [0x27#8, byteOf n]
  | .listPatches => [0x28#8]
  | .setSharing n v => [0x29#8, byteOf n, byteOf v]
  | .takeOver n => [0x2A#8, byteOf n]
  | .setConsole m t => [0x30#8, byteOf (markBits [m.isSome, t.isSome])] ++ putMarked putWord m ++ putMarked putWord t
  | .setListen es => [0x31#8, byteOf es.length] ++ es.flatMap putEntry
  | .setTalkTarget k n => [0x32#8, byteOf k, byteOf n]
  | .seize => [0x33#8]
  | .unseize => [0x34#8]

/-! ### A frame on the line -/

/-- The sum of unescaped bytes, modulo 256 (R164). -/
def byteSum (bs : List Byte) : Byte := bs.foldl (· + ·) 0

/-- The check byte: the sum of payload and check is 0 modulo 256 (R164). -/
def checkByte (payload : List Byte) : Byte := - byteSum payload

/-- The four values with a meaning of their own on the line (R164). -/
def isReserved (b : Byte) : Bool :=
  b == Config.openByte || b == Config.closeByte || b == Config.escapeByte || b == Config.alertByte

/-- The characters that carry one unescaped byte (R164). -/
def escapeOne (b : Byte) : List Byte :=
  if isReserved b then [Config.escapeByte, b ^^^ Config.escapeMask] else [b]

/-- The characters of the frame that carries a payload (R164). -/
def frameChars (payload : List Byte) : List Byte :=
  Config.openByte :: (payload ++ [checkByte payload]).flatMap escapeOne ++ [Config.closeByte]

/-! ### A character on the line (R163) -/

/-- The ones among the data bits of a character. -/
def onesCount (b : Byte) : Nat := (List.range 8).countP (fun k => b.getLsbD k)

/-- A character error: the parity bit does not make the count of ones even, or the stop bit is not found (R163). -/
def LineChar.error (ch : LineChar) : Bool := (onesCount ch.data + ch.parity.toNat) % 2 != 0 || !ch.stop

/-- A character as the part sends it: even parity and one stop bit (R163). -/
def LineChar.sent (b : Byte) : LineChar := ⟨b, onesCount b % 2 == 1, true⟩

/-! ### The host's decoder of table words -/

/-- spec/opcode_table.json gives no row any bits, so no word spells a command. -/
def decodeTableWord (_nbits _w : Nat) : Option Instr := none

end Sys2Proof
end

