-- ==== Sys2Proof/Machine/State.lean ====
section
/-! DEFINITION. The state of the part as plain data: every record and field the spec names (INVENTORY.md, State), the two
outcomes besides a next state, and the state right after power-on. -/

namespace Sys2Proof.Machine

/-! ### Ports (chapter 1, R96) -/

inductive PortKind where
  | half
  | full
  | listenOnly
  deriving DecidableEq, Repr

inductive Polarity where
  | activeLow
  | activeHigh
  deriving DecidableEq, Repr

inductive EmgMode where
  | latch
  | level
  deriving DecidableEq, Repr

/-- The twelve settings of R1. Durations are milliseconds. -/
structure PortSettings where
  kind : PortKind
  corPolarity : Polarity
  glitchFilter : Bool
  qualifyTime : Nat
  dropTime : Nat
  keyUpDelay : Nat
  turnaround : Nat
  basePriority : Nat
  transmitSense : Bool
  emgMode : EmgMode
  receiveTrim : Nat
  transmitTrim : Nat
  deriving DecidableEq, Repr

/-- The defaults of R1. -/
def PortSettings.default : PortSettings where
  kind := .half
  corPolarity := .activeLow
  glitchFilter := true
  qualifyTime := 40
  dropTime := 250
  keyUpDelay := 150
  turnaround := 100
  basePriority := 2
  transmitSense := false
  emgMode := .latch
  receiveTrim := 256
  transmitTrim := 256

/-- The state field of a port (R4). -/
inductive PortState where
  | detached
  | idle
  | talker
  | keyUp
  | relay
  | parked
  | parkedKeyUp
  | parkedRelay
  deriving DecidableEq, Repr

inductive CarrierState where
  | clear
  | qualifying
  | present
  | dropping
  deriving DecidableEq, Repr

inductive StartCheck where
  | pending
  | passed
  deriving DecidableEq, Repr

/-- The record of one port: its settings (R1), its state (R2), its timers (R6, R7) and its keying supervision (R96). -/
structure PortRec where
  cfg : PortSettings
  /-- The input pins of the port (R6). -/
  corPin : Level
  emgPin : Level
  txsPin : Level
  /-- The filtered inputs, true when asserted, and the milliseconds a new value must still hold (0: none is held) (R6). -/
  filteredCor : Bool
  filteredEmg : Bool
  corHold : Nat
  emgHold : Nat
  patch : Option SlotId
  state : PortState
  carrier : CarrierState
  /-- The qualify and drop timers, in milliseconds left; 0 when stopped (R7). -/
  qualifyLeft : Nat
  dropLeft : Nat
  emergency : Bool
  fault : Bool
  guardLeft : Nat
  lockoutLeft : Nat
  reservedBy : Option Console
  /-- The keying unit's supervision (R96). -/
  keyUpLeft : Nat
  startWindow : Nat
  startCheck : StartCheck
  lossLeft : Nat
  deriving DecidableEq, Repr

/-- A port's record as the power-on values of R1, R2 and R96 leave it, its pins high (log 3). -/
def PortRec.reset : PortRec where
  cfg := PortSettings.default
  corPin := .high
  emgPin := .high
  txsPin := .high
  filteredCor := false
  filteredEmg := false
  corHold := 0
  emgHold := 0
  patch := none
  state := .detached
  carrier := .clear
  qualifyLeft := 0
  dropLeft := 0
  emergency := false
  fault := false
  guardLeft := 0
  lockoutLeft := 0
  reservedBy := none
  keyUpLeft := 0
  startWindow := 0
  startCheck := .pending
  lossLeft := 0

/-! ### Patches (chapter 2) -/

inductive PatchState where
  | unused
  | quiet
  | talk
  | hang
  | closing
  deriving DecidableEq, Repr

inductive PatchMode where
  | live
  | rehearse
  deriving DecidableEq, Repr

inductive PatchStyle where
  | preempt
  | mix
  deriving DecidableEq, Repr

/-- The record of one slot (R25) with the arbiter's fields beside it (R26, R117). -/
structure PatchRec where
  state : PatchState
  label : List Byte
  owner : Option Console
  shared : Bool
  members : List PortId
  mode : PatchMode
  style : PatchStyle
  threshold : Nat
  level : Nat
  hangTime : Nat
  timeOutLimit : Nat
  lockoutTime : Nat
  talker : Option Source
  partner : Option Console
  bids : List Source
  hangLeft : Nat
  elapsed : Nat
  /-- The limit in force: none where the patch has none, 0 where the talker is not timed (R117). -/
  limit : Option Nat
  deriving DecidableEq, Repr

/-- An UNUSED slot (R24). Its settings keep no meaning; the model writes the defaults there (log 5). -/
def PatchRec.unused : PatchRec where
  state := .unused
  label := []
  owner := none
  shared := false
  members := []
  mode := .live
  style := .preempt
  threshold := 8
  level := 256
  hangTime := 1500
  timeOutLimit := 120
  lockoutTime := 10
  talker := none
  partner := none
  bids := []
  hangLeft := 0
  elapsed := 0
  limit := none

/-! ### Consoles (chapter 7) -/

inductive LinkState where
  | up
  | lost
  deriving DecidableEq, Repr

/-- What a console talks to (R134). -/
inductive Target where
  | none
  | patch (n : SlotId)
  | port (p : PortId)
  deriving DecidableEq, Repr

structure ListenEntry where
  patch : SlotId
  level : Nat
  deriving DecidableEq, Repr

/-- The console record (R131). -/
structure ConsoleRec where
  link : LinkState
  supervision : Nat
  silence : Nat
  pttPin : Level
  filteredPtt : Bool
  pttHold : Nat
  seize : Bool
  target : Target
  listen : List ListenEntry
  micTrim : Nat
  sidetone : Nat
  deriving DecidableEq, Repr

/-- A console's record after power-on (R131), its PTT pin high (log 3). -/
def ConsoleRec.reset : ConsoleRec where
  link := .up
  supervision := 0
  silence := 0
  pttPin := .high
  filteredPtt := false
  pttHold := 0
  seize := false
  target := .none
  listen := []
  micTrim := 256
  sidetone := 0

/-! ### Command links and notices (chapter 9) -/

/-- The statuses of R173. -/
inductive Status where
  | ok
  | clamped
  | badFrame
  | unknownCommand
  | badArgument
  | notPermitted
  | noSuchPatch
  | notOwner
  | portInUse
  | notMember
  | tableFull
  | patchFull
  | patchClosing
  | floorConflict
  | portReserved
  deriving DecidableEq, Repr

/-- A response as it waits in a queue: its status and its data; the flags byte is written as it is sent (R171). -/
structure Response where
  status : Status
  data : List Byte
  deriving DecidableEq, Repr

/-- The first fault of a frame (R166). -/
structure FrameFault where
  reason : FaultReason
  position : Nat
  deriving DecidableEq, Repr

/-- The receiving half of a link (R165, R166). -/
structure Receiver where
  isOpen : Bool
  count : Nat
  stored : List Byte
  escaped : Bool
  /-- The 66th unescaped byte has been seen: no byte is stored and no position counted any more (R166). -/
  full : Bool
  fault : Option FrameFault
  timeLeft : Nat
  deriving DecidableEq, Repr

/-- Outside a frame (R165). -/
def Receiver.outside : Receiver where
  isOpen := false
  count := 0
  stored := []
  escaped := false
  full := false
  fault := none
  timeLeft := 0

/-- A command link unit (R165, R169, R178, R183). -/
structure LinkUnit where
  rx : Receiver
  queue : List Response
  /-- The head response is on the line: the transmitting half is not between frames (R169, R183). -/
  sending : Bool
  /-- The characters the transmitting half last put on the line: the model's own observation (log 15). -/
  txLine : List LineChar
  overrun : Bool
  restartPending : Bool
  alertWaiting : Bool
  deriving DecidableEq, Repr

/-- A link unit right after a reset has taken effect (R179), with the alert that UNIT RESET starts (R184). -/
def LinkUnit.reset : LinkUnit where
  rx := Receiver.outside
  queue := []
  sending := false
  txLine := []
  overrun := false
  restartPending := false
  alertWaiting := true

/-- The kinds of notice, in their order of priority (R182). -/
inductive NoticeKind where
  | emergency
  | portFault
  | timeOut
  | preempted
  | patchRetired
  | linkLost
  | floorChange
  | unitReset
  deriving DecidableEq, Repr

/-- A pending entry: a kind and a subject (R180). -/
structure Notice where
  kind : NoticeKind
  subject : Nat
  deriving DecidableEq, Repr

/-- The notice unit's state for one console (R180, R181). -/
structure NoticeUnit where
  mask : Byte
  entries : List Notice
  overflow : Bool
  deriving DecidableEq, Repr

/-- After power-on: the default mask and the one entry UNIT RESET (R181, R184). -/
def NoticeUnit.reset : NoticeUnit where
  mask := Config.defaultMask
  entries := [⟨.unitReset, 0⟩]
  overflow := false

/-- One of each for console A and console B. -/
structure Pair (α : Type) where
  a : α
  b : α
  deriving DecidableEq, Repr

/-- The reset cause (R177). -/
inductive ResetCause where
  | powerOn
  | resetLine
  | restartA
  | restartB
  deriving DecidableEq, Repr

/-- What a carrier machine raises for the arbiter and the keying unit (R7, R9). -/
inductive CarrierNews where
  | qualified
  | lost
  /-- carrier-qualified, raised as masking ended with a qualify time of 0 (R12): nothing is reported where masking begins again before
  it is handed on (R13). -/
  | unmasked
  deriving DecidableEq, Repr

structure CarrierEvent where
  news : CarrierNews
  port : PortId
  deriving DecidableEq, Repr

/-! ### The whole part -/

/-- Everything the spec gives the part, and the model's own three fields: pending, raised and the links' txLine. -/
structure State where
  /-- The commands that wait, first in, first out: the model's own queue. -/
  pending : List Instr
  ports : Vector PortRec 16
  patches : Vector PatchRec 12
  consoles : Pair ConsoleRec
  links : Pair LinkUnit
  notices : Pair NoticeUnit
  /-- The held input samples and the output slots of the audio bus (R149, R150): ports 1..16, console A, console B. -/
  inputs : Vector Sample 18
  outputs : Vector Sample 18
  resetCause : ResetCause
  /-- The RESET line is asserted: the part is held in reset (R177). -/
  resetLine : Bool
  /-- Power came up while the RESET line was asserted, so that its release keeps the cause POWER-ON (R177). -/
  coldStart : Bool
  /-- The console whose RESTART was carried out first, while a RESTART is pending (R178). -/
  restartFirst : Option Console
  /-- Carrier events raised and not yet handed on: the model's own (R9; log 6). -/
  raised : List CarrierEvent
  deriving DecidableEq, Repr

/-- The part right after power-on (R177): every block at its power-on values, every input pin inactive (log 3), UNIT RESET in
each pending set and its alert waiting (R184), the reset cause POWER-ON, and no command waiting (log 4). -/
def State.reset : State where
  pending := []
  ports := Vector.replicate 16 PortRec.reset
  patches := Vector.replicate 12 PatchRec.unused
  consoles := ⟨ConsoleRec.reset, ConsoleRec.reset⟩
  links := ⟨LinkUnit.reset, LinkUnit.reset⟩
  notices := ⟨NoticeUnit.reset, NoticeUnit.reset⟩
  inputs := Vector.replicate 18 0#16
  outputs := Vector.replicate 18 0#16
  resetCause := .powerOn
  resetLine := false
  coldStart := false
  restartFirst := none
  raised := []

/-- Why the machine stops. The spec describes nothing that stops the part (INVENTORY, Faults), so there is no constructor:
no meaning can raise a fault. Safe. -/
inductive Fault where
  deriving DecidableEq, Repr

/-- Why a command has no meaning. -/
inductive Refusal where
  /-- Raised by an arm of exec whose command has no meaning yet. Safe: the machine stops. No arm of this model raises it. -/
  | notModelled (mnemonic : String)
  deriving DecidableEq, Repr

end Sys2Proof.Machine
end

