-- ==== Sys2Proof/Machine/Ops.lean ====
section
/-! DEFINITION. Reading and writing the records of State, what the spec computes from a record (keyed, masked, qualified,
effective priority, talk request, PTT, NOTICE), raising carrier events and offering notices. Every other file goes through these. -/

namespace Sys2Proof.Machine

/-! ### Numbers and lists of all ports, slots and consoles -/

def allPorts : List PortId := [0, 1, 2, 3, 4, 5, 6, 7, 8, 9, 10, 11, 12, 13, 14, 15]
def allSlots : List SlotId := [0, 1, 2, 3, 4, 5, 6, 7, 8, 9, 10, 11]

/-- The number the spec gives a port or a slot (R1, R24). -/
def portNumber (p : PortId) : Nat := p.val + 1
def slotNumber (n : SlotId) : Nat := n.val + 1
/-- The source number of a console (00, Terms). -/
def consoleNumber : Console → Nat
  | .A => 17
  | .B => 18
def sourceNumber : Source → Nat
  | .port p => portNumber p
  | .console c => consoleNumber c

def otherConsole : Console → Console
  | .A => .B
  | .B => .A

/-- A vector with f at every place. -/
def mapVec {α β : Type} {k : Nat} (f : α → β) (v : Vector α k) : Vector β k :=
  ⟨⟨v.toList.map f⟩, by simp⟩

/-! ### Records -/

def Pair.get {α : Type} (x : Pair α) : Console → α
  | .A => x.a
  | .B => x.b

def Pair.set {α : Type} (x : Pair α) (c : Console) (v : α) : Pair α :=
  match c with
  | .A => { x with a := v }
  | .B => { x with b := v }

def State.port (s : State) (p : PortId) : PortRec := s.ports[p.val]
def State.patch (s : State) (n : SlotId) : PatchRec := s.patches[n.val]
def State.console (s : State) (c : Console) : ConsoleRec := s.consoles.get c
def State.link (s : State) (c : Console) : LinkUnit := s.links.get c
def State.notice (s : State) (c : Console) : NoticeUnit := s.notices.get c

def State.setPort (s : State) (p : PortId) (r : PortRec) : State := { s with ports := s.ports.set p.val r }
def State.setPatch (s : State) (n : SlotId) (r : PatchRec) : State := { s with patches := s.patches.set n.val r }
def State.setConsole (s : State) (c : Console) (r : ConsoleRec) : State := { s with consoles := s.consoles.set c r }
def State.setLink (s : State) (c : Console) (u : LinkUnit) : State := { s with links := s.links.set c u }
def State.setNotice (s : State) (c : Console) (u : NoticeUnit) : State := { s with notices := s.notices.set c u }

def State.modPatch (s : State) (n : SlotId) (f : PatchRec → PatchRec) : State := s.setPatch n (f (s.patch n))
def State.modConsole (s : State) (c : Console) (f : ConsoleRec → ConsoleRec) : State := s.setConsole c (f (s.console c))
def State.modLink (s : State) (c : Console) (f : LinkUnit → LinkUnit) : State := s.setLink c (f (s.link c))
def State.modNotice (s : State) (c : Console) (f : NoticeUnit → NoticeUnit) : State := s.setNotice c (f (s.notice c))

/-! ### What a port's record says -/

/-- TXS and EMG are active-low (R6). -/
def Level.isLow : Level → Bool
  | .low => true
  | .high => false

/-- COR at the pin, corrected for polarity (R6). -/
def PortRec.correctedCor (r : PortRec) : Bool :=
  match r.cfg.corPolarity with
  | .activeLow => Level.isLow r.corPin
  | .activeHigh => !Level.isLow r.corPin

def PortRec.correctedEmg (r : PortRec) : Bool := Level.isLow r.emgPin
def PortRec.txsActive (r : PortRec) : Bool := Level.isLow r.txsPin

/-- The port's PTT line is asserted (R5). -/
def PortRec.ptt (r : PortRec) : Bool :=
  match r.state with
  | .keyUp | .relay | .parkedKeyUp | .parkedRelay => true
  | .detached | .idle | .talker | .parked => false

/-- Keyed for its reserving console (R4). -/
def PortRec.parkedKeyed (r : PortRec) : Bool :=
  match r.state with
  | .parkedKeyUp | .parkedRelay => true
  | _ => false

/-- In the relay set of its patch (chapter 5). -/
def PortRec.inRelaySet (r : PortRec) : Bool :=
  match r.state with
  | .keyUp | .relay => true
  | _ => false

/-- Reserved, in one of the three parked states (R4). -/
def PortRec.isParked (r : PortRec) : Bool :=
  match r.state with
  | .parked | .parkedKeyUp | .parkedRelay => true
  | _ => false

/-- In RELAY or PARKED-RELAY, the states R108 supervises. -/
def PortRec.relaying (r : PortRec) : Bool :=
  match r.state with
  | .relay | .parkedRelay => true
  | _ => false

/-- The carrier machine is masked (R10). -/
def PortRec.masked (r : PortRec) : Bool :=
  (r.cfg.kind == .half && r.ptt) || r.parkedKeyed || decide (0 < r.guardLeft)

/-- The carrier is qualified: PRESENT or DROPPING (R7). -/
def PortRec.qualified (r : PortRec) : Bool :=
  match r.carrier with
  | .present | .dropping => true
  | .clear | .qualifying => false

/-- The effective priority of a port (R18). -/
def PortRec.priority (r : PortRec) : Nat :=
  if r.emergency then Config.emergencyPriority else r.cfg.basePriority

/-- The effective priority of a source (R69). -/
def State.priority (s : State) : Source → Nat
  | .port p => (s.port p).priority
  | .console _ => Config.consolePriority

/-! ### What a patch's and a console's record say -/

def PatchRec.inUse (r : PatchRec) : Bool := r.state != .unused

/-- A patch that takes bids (R71, R73). -/
def PatchRec.takesBids (r : PatchRec) : Bool :=
  match r.state with
  | .quiet | .talk | .hang => true
  | .unused | .closing => false

def PatchRec.portTalker (r : PatchRec) : Option PortId :=
  match r.talker with
  | some (.port p) => some p
  | _ => none

/-- Edit permission (R34). -/
def PatchRec.mayEdit (r : PatchRec) (c : Console) : Bool := r.owner == some c || r.shared

/-- The number of patches in use (R42, R177). -/
def State.patchesInUse (s : State) : List SlotId := allSlots.filter (fun n => (s.patch n).inUse)

/-- The talk request (R132). -/
def ConsoleRec.request (r : ConsoleRec) : Bool := (r.link == .up && r.filteredPtt) || r.seize

/-! ### Carrier events -/

/-- A carrier machine's news of a port, to be handed on when the action is complete (R9; log 6). -/
def State.raise (s : State) (p : PortId) (news : List CarrierNews) : State :=
  { s with raised := s.raised ++ news.map (fun k => ⟨k, p⟩) }

/-! ### Notices (section 9.6) -/

/-- The codes of the notice kinds, 1 to 8 in order of priority (R173, R182). -/
def NoticeKind.code : NoticeKind → Nat
  | .emergency => 1
  | .portFault => 2
  | .timeOut => 3
  | .preempted => 4
  | .patchRetired => 5
  | .linkLost => 6
  | .floorChange => 7
  | .unitReset => 8

/-- Bit k - 1 of a mask enables kind k; bit 7, for UNIT RESET, is held set (R173, R181). -/
def maskEnables (mask : Byte) (k : NoticeKind) : Bool := mask.getLsbD (k.code - 1)

/-- What one offer does to a console's unit: dropped by the mask, merged, dropped with OVERFLOW, or added (R180). -/
def NoticeUnit.offer (u : NoticeUnit) (n : Notice) : NoticeUnit :=
  if !maskEnables u.mask n.kind then u
  else if u.entries.contains n then u
  else if Config.noticeCapacity ≤ u.entries.length then { u with overflow := true }
  else { u with entries := u.entries ++ [n] }

/-- An alert starts where a pending set has gone from empty to not empty (R183). -/
def State.startAlert (s : State) (c : Console) (before : NoticeUnit) : State :=
  if before.entries.isEmpty && !(s.notice c).entries.isEmpty then s.modLink c (fun u => { u with alertWaiting := true }) else s

/-- A notice offered for one console (R180, R183). -/
def State.offer (s : State) (c : Console) (n : Notice) : State :=
  (s.modNotice c (fun u => u.offer n)).startAlert c (s.notice c)

/-- A notice offered for both consoles, each set separately (R180). -/
def State.offerBoth (s : State) (n : Notice) : State := (s.offer .A n).offer .B n

/-- The NOTICE line of a console is asserted (R183). -/
def State.noticeLine (s : State) (c : Console) : Bool := !(s.notice c).entries.isEmpty

end Sys2Proof.Machine
end

