-- ==== Sys2Proof/Machine/Flags.lean ====
section
/-! DEFINITION. Codes and packed bytes: the codes of statuses, states and enumerated values, and the bytes whose bits are flags
(R171, R173, R174, R176, R177). -/

namespace Sys2Proof.Machine

/-! ### Codes (R173) -/

def Status.code : Status → Nat
  | .ok => 0x00
  | .clamped => 0x01
  | .badFrame => 0x10
  | .unknownCommand => 0x11
  | .badArgument => 0x12
  | .notPermitted => 0x13
  | .noSuchPatch => 0x14
  | .notOwner => 0x15
  | .portInUse => 0x16
  | .notMember => 0x17
  | .tableFull => 0x18
  | .patchFull => 0x19
  | .patchClosing => 0x1A
  | .floorConflict => 0x1B
  | .portReserved => 0x1C

def PortKind.code : PortKind → Nat
  | .half => 0
  | .full => 1
  | .listenOnly => 2

def Polarity.code : Polarity → Nat
  | .activeLow => 0
  | .activeHigh => 1

def EmgMode.code : EmgMode → Nat
  | .latch => 0
  | .level => 1

/-- Off or clear or no 0; on or set or yes 1. -/
def flagCode (b : Bool) : Nat := if b then 1 else 0

def PortState.code : PortState → Nat
  | .detached => 0
  | .idle => 1
  | .talker => 2
  | .keyUp => 3
  | .relay => 4
  | .parked => 5
  | .parkedKeyUp => 6
  | .parkedRelay => 7

def CarrierState.code : CarrierState → Nat
  | .clear => 0
  | .qualifying => 1
  | .present => 2
  | .dropping => 3

def PatchState.code : PatchState → Nat
  | .unused => 0
  | .quiet => 1
  | .talk => 2
  | .hang => 3
  | .closing => 4

def LinkState.code : LinkState → Nat
  | .up => 0
  | .lost => 1

def ResetCause.code : ResetCause → Nat
  | .powerOn => 1
  | .resetLine => 2
  | .restartA => 3
  | .restartB => 4

def faultReasonCode : FaultReason → Nat
  | .character => 1
  | .check => 2
  | .length => 3
  | .timeout => 4

/-- A source, an owner, a slot or a port as a byte; none is 0 (R173). -/
def sourceCode (o : Option Source) : Nat := (o.map sourceNumber).getD 0
def ownerCode (o : Option Console) : Nat := (o.map consoleNumber).getD 0
def slotCode (o : Option SlotId) : Nat := (o.map slotNumber).getD 0

def Target.kindCode : Target → Nat
  | .none => 0
  | .patch _ => 1
  | .port _ => 2

def Target.number : Target → Nat
  | .none => 0
  | .patch n => slotNumber n
  | .port p => portNumber p

/-! ### Bytes of flags -/

/-- The mode and style byte: bit 0 REHEARSE, bit 1 MIX (R173). -/
def PatchRec.modeStyleByte (r : PatchRec) : Nat :=
  markBits [r.mode == .rehearse, r.style == .mix]

/-- The ownership byte: the owner in bits 0 to 6, bit 7 shared (R173). -/
def PatchRec.ownershipByte (r : PatchRec) : Nat := ownerCode r.owner + 128 * flagCode r.shared

/-- The lines byte of the port image: filtered COR, filtered EMG, TXS (R174). -/
def PortRec.linesByte (r : PortRec) : Nat := markBits [r.filteredCor, r.filteredEmg, r.txsActive]

/-- Byte 7 of the console image: filtered PTT, latched SEIZE, talk request (R176). -/
def ConsoleRec.requestByte (r : ConsoleRec) : Nat := markBits [r.filteredPtt, r.seize, r.request]

/-- The link states of the unit image: bit 0 A LOST, bit 1 B LOST (R177). -/
def State.linkStatesByte (s : State) : Nat :=
  markBits [(s.console .A).link == .lost, (s.console .B).link == .lost]

/-- The reserved ports of the console image: bit n - 1 for port n (R176). -/
def State.reservedWord (s : State) (c : Console) : Nat :=
  markBits (allPorts.map (fun p => (s.port p).reservedBy == some c))

/-- The flags byte of a response, as its transmission begins: OVERRUN, NOTICE-PENDING (R171). -/
def State.flagsByte (s : State) (c : Console) : Nat :=
  markBits [(s.link c).overrun, !(s.notice c).entries.isEmpty]

/-- A notice mask as stored and returned: bit 7 set (R173, R181). -/
def storedMask (m : Byte) : Byte := m ||| 0x80#8

end Sys2Proof.Machine
end

