-- ==== Sys2Proof/Machine/Images.lean ====
section
/-! DEFINITION. The data of responses: patch lists, the port, patch, console and unit images, and a console's standing
(R46, R138, R174 to R177). -/

namespace Sys2Proof.Machine

/-! ### Ports -/

/-- Bytes 4 to 21 of the port image (R174). -/
def PortSettings.block (c : PortSettings) : List Byte :=
  putByte c.kind.code ++ putByte c.corPolarity.code ++ putByte (flagCode c.glitchFilter) ++ putWord c.qualifyTime
    ++ putWord c.dropTime ++ putWord c.keyUpDelay ++ putWord c.turnaround ++ putByte c.basePriority
    ++ putByte (flagCode c.transmitSense) ++ putByte c.emgMode.code ++ putWord c.receiveTrim ++ putWord c.transmitTrim

/-- The port image from byte 3 (R174). -/
def State.portImage (s : State) (p : PortId) : List Byte :=
  let r := s.port p
  putByte (portNumber p) ++ r.cfg.block ++ putByte (slotCode r.patch) ++ putByte r.state.code ++ putByte r.carrier.code
    ++ putByte (flagCode r.emergency) ++ putByte (flagCode r.fault) ++ putWord r.guardLeft ++ putThree r.lockoutLeft
    ++ putByte (ownerCode r.reservedBy) ++ putByte r.priority ++ putByte r.linesByte

/-- Port, settings block: the data of SET PORT (R173). -/
def State.settingsImage (s : State) (p : PortId) : List Byte := putByte (portNumber p) ++ (s.port p).cfg.block

/-- The data of CLEAR PORT CONDITIONS (R173). -/
def State.conditionsImage (s : State) (p : PortId) : List Byte :=
  putByte (flagCode (s.port p).emergency) ++ putByte (flagCode (s.port p).fault) ++ putThree (s.port p).lockoutLeft

/-- Port, state, reserved by, patch: the data of RESERVE PORT and RELEASE PORT (R173). -/
def State.reservationImage (s : State) (p : PortId) : List Byte :=
  putByte (portNumber p) ++ putByte (s.port p).state.code ++ putByte (ownerCode (s.port p).reservedBy)
    ++ putByte (slotCode (s.port p).patch)

/-! ### Patches -/

/-- Number, state and member count of a patch as an action left it (R46). -/
def State.patchEntry (s : State) (n : SlotId) : List Byte :=
  putByte (slotNumber n) ++ putByte (s.patch n).state.code ++ putByte (s.patch n).members.length

/-- A patch list: a count, then three bytes for each patch (R173). -/
def State.patchList (s : State) (ns : List SlotId) : List Byte := putByte ns.length ++ ns.flatMap s.patchEntry

def putLabelBytes (l : List Byte) : List Byte := putByte l.length ++ l

/-- Label and seven settings: what SET PATCH returns after its patch list (R173). -/
def PatchRec.settingsBlock (r : PatchRec) : List Byte :=
  putLabelBytes r.label ++ putByte r.modeStyleByte ++ putByte r.threshold ++ putWord r.level ++ putWord r.hangTime
    ++ putWord r.timeOutLimit ++ putByte r.lockoutTime

/-- The patch image from byte 3 (R175). -/
def State.patchImage (s : State) (n : SlotId) : List Byte :=
  let r := s.patch n
  putByte (slotNumber n) ++ putByte r.state.code ++ putByte r.ownershipByte ++ putByte r.modeStyleByte ++ putByte r.threshold
    ++ putWord r.level ++ putWord r.hangTime ++ putWord r.timeOutLimit ++ putByte r.lockoutTime ++ putLabelBytes r.label
    ++ putByte r.members.length ++ r.members.flatMap (fun p => putByte (portNumber p))
    ++ putByte (sourceCode r.talker) ++ putByte (ownerCode r.partner)
    ++ putByte r.bids.length ++ r.bids.flatMap (fun b => putByte (sourceNumber b))
    ++ putWord r.hangLeft ++ putWord (r.elapsed / 1000)

/-- One entry of LIST PATCHES (R42, R173). -/
def State.summaryEntry (s : State) (n : SlotId) : List Byte :=
  putByte (slotNumber n) ++ putByte (s.patch n).state.code ++ putByte (s.patch n).ownershipByte
    ++ putByte (s.patch n).members.length ++ putByte (sourceCode (s.patch n).talker)

/-- The data of LIST PATCHES: every patch in use in ascending order (R42). -/
def State.summary (s : State) : List Byte := putByte s.patchesInUse.length ++ s.patchesInUse.flatMap s.summaryEntry

/-- Patch, ownership byte: the data of SET SHARING and TAKE OVER (R173). -/
def State.ownershipImage (s : State) (n : SlotId) : List Byte := putByte (slotNumber n) ++ putByte (s.patch n).ownershipByte

/-! ### Consoles -/

inductive Standing where
  | idle
  | talker
  | partner
  | listed
  | held
  | portKeyed
  | portWaiting
  /-- A standing no row of R138 gives (log 13). -/
  | unstated
  deriving DecidableEq, Repr

def Standing.code : Standing → Nat
  | .idle => 0
  | .talker => 1
  | .partner => 2
  | .listed => 3
  | .held => 4
  | .portKeyed => 5
  | .portWaiting => 6
  | .unstated => Config.unstatedStanding

/-- The standing of a console whose request is active with patch n as target (R138; log 13 for the last line). -/
def PatchRec.standingOf (r : PatchRec) (c : Console) : Standing :=
  if r.talker = some (.console c) then .talker
  else if r.partner = some c then .partner
  else if r.bids.contains (.console c) then .listed
  else if r.state = .closing then .held
  else .unstated

/-- A console's standing (R138; log 13 for the last line). -/
def State.standing (s : State) (c : Console) : Standing :=
  if !(s.console c).request then .idle
  else match (s.console c).target with
    | .none => .idle
    | .patch n => (s.patch n).standingOf c
    | .port p =>
      if (s.port p).parkedKeyed then .portKeyed
      else if (s.port p).cfg.kind = .listenOnly ∨ (s.port p).fault then .portWaiting
      else .unstated

/-- The standing block: bytes 7 to 10 of the console image (R176). -/
def State.standingBlock (s : State) (c : Console) : List Byte :=
  putByte (s.console c).requestByte ++ putByte (s.console c).target.kindCode ++ putByte (s.console c).target.number
    ++ putByte (s.standing c).code

def ListenEntry.bytes (e : ListenEntry) : List Byte := putByte (slotNumber e.patch) ++ putWord e.level

def ConsoleRec.listenImage (r : ConsoleRec) : List Byte := putByte r.listen.length ++ r.listen.flatMap ListenEntry.bytes

/-- The console image from byte 3 (R176). -/
def State.consoleImage (s : State) (c : Console) : List Byte :=
  let r := s.console c
  putByte r.link.code ++ putByte r.supervision ++ putWord r.silence ++ s.standingBlock c ++ putWord r.micTrim
    ++ putWord r.sidetone ++ putWord (s.reservedWord c) ++ r.listenImage

/-! ### The part -/

/-- The unit image (R177). -/
def State.unitImage (s : State) : List Byte :=
  Config.identity.map byteOf ++ putByte Config.revision ++ putByte s.resetCause.code ++ putByte s.patchesInUse.length
    ++ putByte s.linkStatesByte

end Sys2Proof.Machine
end

