-- ==== Sys2Proof/Machine/Operands.lean ====
section
/-! DEFINITION. The operands of commands: numbers that name ports, slots and enumerated values, the limits numeric values are
stored at, and the responses that refuse a command with the offender they name (R20, R45, R61, R172, R173). -/

namespace Sys2Proof.Machine

/-! ### Numbers that name records -/

/-- Port number 1..16. -/
def portOf? (k : Nat) : Option PortId :=
  if h : 1 ≤ k ∧ k ≤ 16 then some ⟨k - 1, by omega⟩ else none

/-- Patch number 1..12. -/
def slotOf? (k : Nat) : Option SlotId :=
  if h : 1 ≤ k ∧ k ≤ 12 then some ⟨k - 1, by omega⟩ else none

def portsOf (ks : List Nat) : List PortId := ks.filterMap portOf?

/-- The first number of a list that names no port. -/
def firstNoPort (ks : List Nat) : Option Nat := ks.find? (fun k => (portOf? k).isNone)

/-- The first number of a list that stands in it more than once (log 9). -/
def firstRepeated (ks : List Nat) : Option Nat := ks.find? (fun k => 1 < ks.count k)

/-- The first port of a list that fails a check. -/
def firstPort (ks : List Nat) (fails : PortId → Bool) : Option Nat :=
  ks.find? (fun k => (portOf? k).any fails)

/-! ### Enumerated values (R173) -/

def kindOf? : Nat → Option PortKind
  | 0 => some .half
  | 1 => some .full
  | 2 => some .listenOnly
  | _ => none

def polarityOf? : Nat → Option Polarity
  | 0 => some .activeLow
  | 1 => some .activeHigh
  | _ => none

def onOff? : Nat → Option Bool
  | 0 => some false
  | 1 => some true
  | _ => none

def emgModeOf? : Nat → Option EmgMode
  | 0 => some .latch
  | 1 => some .level
  | _ => none

def modeOf? : Nat → Option PatchMode
  | 0 => some .live
  | 1 => some .rehearse
  | _ => none

def styleOf? : Nat → Option PatchStyle
  | 0 => some .preempt
  | 1 => some .mix
  | _ => none

/-- A label R25 admits: at most 8 characters, each of code 0x20..0x7E. -/
def labelAdmitted (l : List Byte) : Bool :=
  decide (l.length ≤ 8) && l.all (fun b => decide (0x20 ≤ b.toNat) && decide (b.toNat ≤ 0x7E))

/-! ### Selected values -/

/-- A selected value as stored: at the upper limit where it is above it; the present value where it is not selected (R20). -/
def storeUpTo (limit : Nat) (sel : Option Nat) (present : Nat) : Nat :=
  match sel with
  | some v => min v limit
  | none => present

/-- A selected enumerated value as stored. -/
def storeCode {α : Type} (code? : Nat → Option α) (sel : Option Nat) (present : α) : α :=
  match sel with
  | some v => (code? v).getD present
  | none => present

/-- A selected value is above its limit, so that it is stored other than as sent. -/
def clampedBy (limit : Nat) (sel : Option Nat) : Bool := sel.any (fun v => limit < v)

/-- A selected value is outside its enumeration. -/
def outside {α : Type} (code? : Nat → Option α) (sel : Option Nat) : Bool := sel.any (fun v => (code? v).isNone)

/-- A pre-empt threshold as stored: 1..10 (R61). -/
def storeThreshold (sel : Option Nat) (present : Nat) : Nat :=
  match sel with
  | some v => max 1 (min v 10)
  | none => present

/-- A time-out limit as stored: 0, or 10..600 (R61). -/
def storeTimeOut (sel : Option Nat) (present : Nat) : Nat :=
  match sel with
  | some v => if v = 0 then 0 else max 10 (min v 600)
  | none => present

/-! ### Responses that refuse (R172) -/

/-- Names nothing: offender kind 0. -/
def refuse (st : Status) : Response := ⟨st, [0#8, 0#8]⟩
/-- Names a port: offender kind 1. -/
def refusePort (st : Status) (k : Nat) : Response := ⟨st, [1#8, byteOf k]⟩
/-- Names a patch: offender kind 2. -/
def refusePatch (st : Status) (k : Nat) : Response := ⟨st, [2#8, byteOf k]⟩
/-- Names an item of the command's selection by its place: offender kind 3. -/
def refuseItem (st : Status) (k : Nat) : Response := ⟨st, [3#8, byteOf k]⟩

/-- OK, or CLAMPED where a value was stored other than as sent. -/
def okOrClamped (clamped : Bool) (data : List Byte) : Response := ⟨if clamped then .clamped else .ok, data⟩

def ok (data : List Byte) : Response := ⟨.ok, data⟩

/-! ### Checks (R20, R45) -/

/-- One check of a command: the response it refuses with, where it fails. -/
def check (fails : Bool) (r : Response) : Option Response := if fails then some r else none

/-- The first check of a list that fails decides the response (R45). -/
def firstRefusal (checks : List (Option Response)) : Option Response := checks.findSome? id

/-- A command checked whole: refused with nothing changed, or carried out in full (R20, R45). -/
def State.checked (s : State) (checks : List (Option Response)) (act : State → State × Response) : State × Response :=
  match firstRefusal checks with
  | some r => (s, r)
  | none => act s

/-- A command on a port by its number; out of range, it is refused with nothing changed. -/
def State.onPort (s : State) (k : Nat) (refusal : Response) (act : PortId → State × Response) : State × Response :=
  match portOf? k with
  | some p => act p
  | none => (s, refusal)

/-- A command on a patch by its number; out of range, it is refused with nothing changed. -/
def State.onPatch (s : State) (k : Nat) (refusal : Response) (act : SlotId → State × Response) : State × Response :=
  match slotOf? k with
  | some n => act n
  | none => (s, refusal)

end Sys2Proof.Machine
end

