-- ==== Sys2Proof/Machine/Carrier.lean ====
section
/-! DEFINITION. Line conditioning (R6), the carrier machine (R7, R8) and its masking (R10 to R12), and the one update of a port
record through which every request of another block goes. -/

namespace Sys2Proof.Machine

/-! ### The carrier machine, unmasked -/

/-- COR asserting (R7, R8). -/
def PortRec.corAsserts (r : PortRec) : PortRec × List CarrierNews :=
  match r.carrier with
  | .clear =>
    if r.cfg.qualifyTime = 0 then ({ r with carrier := .present }, [.qualified])
    else ({ r with carrier := .qualifying, qualifyLeft := r.cfg.qualifyTime }, [])
  | .dropping => ({ r with carrier := .present, dropLeft := 0 }, [])
  | .qualifying | .present => (r, [])

/-- COR deasserting (R7, R8). -/
def PortRec.corDeasserts (r : PortRec) : PortRec × List CarrierNews :=
  match r.carrier with
  | .qualifying => ({ r with carrier := .clear, qualifyLeft := 0 }, [])
  | .present =>
    if r.cfg.dropTime = 0 then ({ r with carrier := .clear }, [.lost])
    else ({ r with carrier := .dropping, dropLeft := r.cfg.dropTime }, [])
  | .clear | .dropping => (r, [])

/-- The qualify timer expiring (R7). -/
def PortRec.qualifyExpires (r : PortRec) : PortRec × List CarrierNews :=
  if r.carrier = .qualifying then ({ r with carrier := .present, qualifyLeft := 0 }, [.qualified]) else (r, [])

/-- The drop timer expiring (R7). -/
def PortRec.dropExpires (r : PortRec) : PortRec × List CarrierNews :=
  if r.carrier = .dropping then ({ r with carrier := .clear, dropLeft := 0 }, [.lost]) else (r, [])

/-! ### Masking -/

/-- Masking begins (R11). -/
def PortRec.maskBegins (r : PortRec) : PortRec × List CarrierNews :=
  ({ r with carrier := .clear, qualifyLeft := 0, dropLeft := 0 }, if r.qualified then [.lost] else [])

/-- Masking ends: an asserted filtered COR is taken as COR asserting, and the carrier-qualified of a qualify time of 0 stays marked
until it is handed on (R12, R13). -/
def PortRec.maskEnds (r : PortRec) : PortRec × List CarrierNews :=
  if r.filteredCor then (r.corAsserts.1, r.corAsserts.2.map (fun _ => .unmasked)) else (r, [])

/-- The carrier machine's part in a change of the record that may begin or end masking. -/
def PortRec.remask (old new : PortRec) : PortRec × List CarrierNews :=
  if !old.masked && new.masked then new.maskBegins
  else if old.masked && !new.masked then new.maskEnds
  else (new, [])

/-- A new value of the filtered COR: it reaches the machine unless that is masked (R6, R10). -/
def PortRec.takeFilteredCor (r : PortRec) (v : Bool) : PortRec × List CarrierNews :=
  let r' := { r with filteredCor := v, corHold := 0 }
  if r.filteredCor = v ∨ r.masked then (r', []) else if v then r'.corAsserts else r'.corDeasserts

/-! ### Updates of a port in the state -/

/-- Write a record with the news its carrier machine raised. -/
def State.writePort (s : State) (p : PortId) (rn : PortRec × List CarrierNews) : State := (s.setPort p rn.1).raise p rn.2

/-- Masking begins on port p while the carrier-qualified of the end of its masking waits to be handed on (R13, last row). -/
def State.maskedAgain (s : State) (p : PortId) (old new : PortRec) : Bool :=
  !old.masked && new.masked && new.qualified && s.raised.contains ⟨.unmasked, p⟩

/-- A request on a port record: f writes what the request asks for, and the carrier machine acts on any start or end of masking
that follows from it. A release of PTT and its guard start are one f (R12). Where masking begins again before the carrier-qualified of
its end is handed on, the machine is CLEAR and neither is reported (R13; log 26). -/
def State.updPort (s : State) (p : PortId) (f : PortRec → PortRec) : State :=
  if s.maskedAgain p (s.port p) (f (s.port p)) then
    { s.setPort p (f (s.port p)).maskBegins.1 with raised := s.raised.erase ⟨.unmasked, p⟩ }
  else s.writePort p (PortRec.remask (s.port p) (f (s.port p)))

/-! ### Line conditioning (R6) -/

/-- The hold of an input after its corrected value may have changed: a new value must hold for 3 ms, a return to the filtered
value ends the hold, and a corrected value that has not changed leaves the hold as it runs. -/
def holdAfter (changed : Bool) (corrected filtered : Bool) (hold : Nat) : Nat :=
  if corrected = filtered then 0 else if changed then Config.filterHoldMs else hold

/-- The COR input after a change of the pin or of the settings: with the filter on the 3 ms hold, with it off at once.
old is the corrected COR before. -/
def PortRec.conditionCor (r : PortRec) (old : Bool) : PortRec × List CarrierNews :=
  if r.cfg.glitchFilter then
    ({ r with corHold := holdAfter (old != r.correctedCor) r.correctedCor r.filteredCor r.corHold }, [])
  else r.takeFilteredCor r.correctedCor

/-- The COR pin takes a level (R6). -/
def PortRec.corPinTo (r : PortRec) (l : Level) : PortRec × List CarrierNews :=
  { r with corPin := l }.conditionCor r.correctedCor

end Sys2Proof.Machine
end

