-- ==== Sys2Proof/Machine/Keying.lean ====
section
/-! DEFINITION. The keying unit: eligibility (R97), key-up, relay and unkeying (R99 to R102), the supervision of TXS
(R107, R108, R110), parked keying (R112, R113) and the evaluation of ports and patches (R98). -/

namespace Sys2Proof.Machine

/-! ### Supervision (R96, R107, R108) -/

/-- Every supervision field at its unkeyed value (R96). -/
def PortRec.stopSupervision (r : PortRec) : PortRec :=
  { r with keyUpLeft := 0, startWindow := 0, startCheck := .pending, lossLeft := 0 }

/-- The start check set pending with a window, or passed at once where TXS is active; with transmit sense off, nothing (R107). -/
def PortRec.startSupervision (r : PortRec) (window : Nat) : PortRec :=
  if !r.cfg.transmitSense then { r with startWindow := 0, startCheck := .pending, lossLeft := 0 }
  else if r.txsActive then { r with startWindow := 0, startCheck := .passed, lossLeft := 0 }
  else { r with startWindow := window, startCheck := .pending, lossLeft := 0 }

/-- Loss supervision at the entry to RELAY or PARKED-RELAY (R108). -/
def PortRec.lossAtEntry (r : PortRec) : Nat :=
  if r.cfg.transmitSense && r.startCheck == .passed && !r.txsActive then Config.senseWindowMs else 0

/-! ### Requests on one port record -/

/-- PTT asserted: the state up while the key-up delay runs, the state on at once with a delay of 0 (R99, R112). -/
def PortRec.keyInto (r : PortRec) (up on : PortState) : PortRec :=
  { r with state := if r.cfg.keyUpDelay = 0 then on else up, keyUpLeft := r.cfg.keyUpDelay }.startSupervision
    (r.cfg.keyUpDelay + Config.senseWindowMs)

/-- The end of a key-up (R100, R112). -/
def PortRec.keyUpEnds (r : PortRec) (on : PortState) : PortRec :=
  { r with state := on, keyUpLeft := 0, lossLeft := r.lossAtEntry }

/-- PTT released with the guard started and supervision stopped (R101). -/
def PortRec.unkeyInto (r : PortRec) (st : PortState) : PortRec :=
  { r.stopSupervision with state := st, guardLeft := r.cfg.turnaround }

/-- A state in which the port is not keyed, entered without a guard: TALKER at a grant (R78), IDLE, DETACHED, PARKED. -/
def PortRec.restInto (r : PortRec) (st : PortState) : PortRec := { r.stopSupervision with state := st }

/-! ### Requests of the keying unit -/

def State.keyMember (s : State) (p : PortId) : State := s.updPort p (fun r => r.keyInto .keyUp .relay)
def State.unkeyMember (s : State) (p : PortId) : State := s.updPort p (fun r => r.unkeyInto .idle)
def State.keyParked (s : State) (p : PortId) : State := s.updPort p (fun r => r.keyInto .parkedKeyUp .parkedRelay)
def State.unkeyParked (s : State) (p : PortId) : State := s.updPort p (fun r => r.unkeyInto .parked)

/-! ### Eligibility -/

/-- The conditions of R97 that R102 keeps in HANG: LIVE, not LISTEN-ONLY, not parked, not faulted. -/
def State.holdable (s : State) (n : SlotId) (p : PortId) : Bool :=
  (s.patch n).mode == .live && (s.port p).cfg.kind != .listenOnly && !(s.port p).isParked && !(s.port p).fault

/-- Eligible for the relay set of patch n (R97). -/
def State.eligible (s : State) (n : SlotId) (p : PortId) : Bool :=
  s.holdable n p
    && ((s.patch n).state == .talk || (s.patch n).state == .closing)
    && (s.patch n).talker != some (.port p)
    && ((s.port p).cfg.kind != .half || (!(s.patch n).bids.contains (.port p) && !(s.port p).qualified))

/-- A keyed member stays keyed: in HANG while it is holdable, otherwise while it is eligible (R98, R102). -/
def State.staysKeyed (s : State) (n : SlotId) (p : PortId) : Bool :=
  if (s.patch n).state = .hang then s.holdable n p else s.eligible n p

inductive KeyDecision where
  | key
  | unkey
  | leave
  deriving DecidableEq, Repr

/-- What the keying unit does with member p of patch n, from the records as they stand (R98, R102). -/
def State.keyDecision (s : State) (n : SlotId) (p : PortId) : KeyDecision :=
  if (s.port p).inRelaySet then (if s.staysKeyed n p then .leave else .unkey)
  else if s.eligible n p then .key
  else .leave

def State.applyKey (s : State) (p : PortId) : KeyDecision → State
  | .key => s.keyMember p
  | .unkey => s.unkeyMember p
  | .leave => s

/-- A patch handed to the keying unit: every member evaluated against the same records (R98). Members that raise carrier events in one
evaluation raise them in the order of the member list, and R94 lets either of two be taken first (DESIGN CHOICE, log 27). -/
def State.evalPatch (s : State) (n : SlotId) : State :=
  (s.patch n).members.foldl (fun acc p => acc.applyKey p (s.keyDecision n p)) s

/-! ### Parked keying -/

/-- The four conditions of R112 for the console that reserved the port. -/
def State.keyedFor (s : State) (p : PortId) : Bool :=
  match (s.port p).reservedBy with
  | none => false
  | some c =>
    (s.console c).target == .port p && (s.console c).request && (s.port p).cfg.kind != .listenOnly && !(s.port p).fault

/-- A parked port handed to the keying unit (R112, R113). -/
def State.evalParked (s : State) (p : PortId) : State :=
  if (s.port p).state = .parked then (if s.keyedFor p then s.keyParked p else s)
  else if (s.port p).parkedKeyed then (if s.keyedFor p then s else s.unkeyParked p)
  else s

/-- A port handed to the keying unit: as a parked port, as a member, or, DETACHED, not at all (R98, R112). -/
def State.evalPort (s : State) (p : PortId) : State :=
  if (s.port p).isParked then s.evalParked p
  else match (s.port p).patch with
    | some n => s.applyKey p (s.keyDecision n p)
    | none => s

/-! ### Events of the keying unit -/

/-- The key-up of a keyed port has run out (R100, R112). -/
def State.keyUpRunsOut (s : State) (p : PortId) : State :=
  match (s.port p).state with
  | .keyUp => s.updPort p (fun r => r.keyUpEnds .relay)
  | .parkedKeyUp => s.updPort p (fun r => r.keyUpEnds .parkedRelay)
  | _ => s

/-- A transmit fault: the flag, the unkeying and the notice, in one action (R109). -/
def State.transmitFault (s : State) (p : PortId) : State :=
  (s.updPort p (fun r => { r with fault := true }.unkeyInto (if r.parkedKeyed then .parked else .idle))).offerBoth
    ⟨.portFault, portNumber p⟩

/-- A port whose loss of TXS is supervised: transmit sense on, in RELAY or PARKED-RELAY, its start check passed (R108). -/
def PortRec.lossSupervised (r : PortRec) : Bool := r.cfg.transmitSense && r.relaying && r.startCheck == .passed

/-- The TXS pin takes a level; with transmit sense on, an active TXS passes a pending start check of a keyed port and abandons a
loss count, and an inactive one starts the loss count of a relaying port whose check has passed (R107, R108). -/
def PortRec.txsTo (r : PortRec) (l : Level) : PortRec :=
  let r' := { r with txsPin := l }
  if r.txsPin = l ∨ !r.cfg.transmitSense then r'
  else if Level.isLow l then
    if r.ptt && r.startCheck == .pending then { r' with startCheck := .passed, startWindow := 0, lossLeft := 0 }
    else { r' with lossLeft := 0 }
  else if r.lossSupervised then { r' with lossLeft := Config.senseWindowMs }
  else r'

/-- A change of transmit sense on a record that already holds the new setting (R110). -/
def PortRec.senseChanges (r : PortRec) (old : Bool) : PortRec :=
  if r.cfg.transmitSense = old then r
  else if !r.cfg.transmitSense then { r with startWindow := 0, startCheck := .pending, lossLeft := 0 }
  else if r.ptt then r.startSupervision ((if r.relaying then 0 else r.keyUpLeft) + Config.senseWindowMs)
  else r

end Sys2Proof.Machine
end

