-- ==== Sys2Proof/Machine/Arbiter.lean ====
section
/-! DEFINITION. The talk-right arbiter (chapter 4, R116 to R120) and retirement (R65). The operations here write the arbiter's
fields and ask the port line units for states; whoever calls them hands the patch to the keying unit when the action is complete
(R98). -/

namespace Sys2Proof.Machine

/-! ### Bid lists (R70, R76, R80) -/

/-- A bid enters after every entry of at least its own priority. -/
def State.insertBid (s : State) (src : Source) (l : List Source) : List Source :=
  l.takeWhile (fun e => decide (s.priority src ≤ s.priority e)) ++
    src :: l.dropWhile (fun e => decide (s.priority src ≤ s.priority e))

/-- A pre-empted talker enters ahead of its equals, after every entry of greater priority (R80). -/
def State.insertAhead (s : State) (src : Source) (l : List Source) : List Source :=
  l.takeWhile (fun e => decide (s.priority src < s.priority e)) ++
    src :: l.dropWhile (fun e => decide (s.priority src < s.priority e))

def isConsole : Source → Bool
  | .console _ => true
  | .port _ => false

/-- The first console entry of a bid list. -/
def firstConsole : List Source → Option Console
  | [] => none
  | .console c :: _ => some c
  | .port _ :: l => firstConsole l

/-! ### Grant and pre-emption (R77 to R80) -/

/-- A grant (R77, R117). The keying unit recomputes afterwards. -/
def State.grant (s : State) (n : SlotId) (src : Source) : State :=
  let granted := s.modPatch n (fun r => { r with
    state := .talk
    talker := some src
    partner := if r.partner.map Source.console = some src then none else r.partner
    bids := r.bids.erase src
    hangLeft := 0
    elapsed := 0
    limit := if isConsole src then none else some (r.timeOutLimit * 1000) })
  let asked := match src with
    | .port p => granted.updPort p (fun r => r.restInto .talker)
    | .console _ => granted
  asked.offerBoth ⟨.floorChange, slotNumber n⟩

/-- The former talker is asked for IDLE where it is still an unparked member: where its state is TALKER (R79, R84). -/
def State.idleTalker (s : State) : Option Source → State
  | some (.port t) => if (s.port t).state = .talker then s.updPort t (fun r => r.restInto .idle) else s
  | _ => s

/-- The talker field cleared and its count stopped (R79, R84, R117). -/
def State.dropTalker (s : State) (n : SlotId) : State :=
  (s.modPatch n (fun r => { r with talker := none, limit := none })).idleTalker (s.patch n).talker

/-- A bidder of sufficient standing takes the talk right from the port talker t (R79, R80). -/
def State.preempt (s : State) (n : SlotId) (src : Source) (t : PortId) : State :=
  let taken := (s.dropTalker n).grant n src
  (taken.modPatch n (fun r => { r with bids := taken.insertAhead (.port t) r.bids })).offerBoth ⟨.preempted, portNumber t⟩

/-- Priority enough to pre-empt talker t in patch n: at least the threshold and greater than the talker's (R79). -/
def State.outranks (s : State) (n : SlotId) (src : Source) (t : PortId) : Bool :=
  decide ((s.patch n).threshold ≤ s.priority src) && decide (s.priority (.port t) < s.priority src)

/-! ### Taking a bid (R75) -/

def State.listBid (s : State) (n : SlotId) (src : Source) : State :=
  s.modPatch n (fun r => { r with bids := s.insertBid src r.bids })

/-- A bid on a patch in TALK, by its style (R75). -/
def State.bidOnTalk (s : State) (n : SlotId) (src : Source) : State :=
  match (s.patch n).style, (s.patch n).portTalker with
  | .preempt, some t => if s.outranks n src t then s.preempt n src t else s.listBid n src
  | .preempt, none => s.listBid n src
  | .mix, some _ =>
    match src, (s.patch n).partner with
    | .console c, none => s.modPatch n (fun r => { r with partner := some c })
    | _, _ => s.listBid n src
  | .mix, none => s.listBid n src

/-- A bid taken on a patch by its state (R75). -/
def State.takeBid (s : State) (n : SlotId) (src : Source) : State :=
  match (s.patch n).state with
  | .quiet | .hang => s.grant n src
  | .talk => s.bidOnTalk n src
  | .unused | .closing => s

/-- The source has a standing in the patch already: talker, partner or listed (R71, R73). -/
def PatchRec.stands (r : PatchRec) (src : Source) : Bool :=
  r.talker == some src || r.partner.map Source.console == some src || r.bids.contains src

/-- The patch a port may bid on, under the conditions of R71. -/
def State.bidsOn? (s : State) (p : PortId) : Option SlotId :=
  match (s.port p).patch with
  | some n =>
    if !(s.port p).isParked && (s.port p).lockoutLeft == 0 && !(s.patch n).stands (.port p) && (s.patch n).takesBids then some n
    else none
  | none => none

/-- A port's bid under R71, and the keying unit's evaluation after it. -/
def State.portBids (s : State) (p : PortId) : State :=
  match s.bidsOn? p with
  | some n => (s.takeBid n (.port p)).evalPatch n
  | none => s

/-- A port's bid at a moment of R72: only if its carrier is qualified. -/
def State.portBidsIfQualified (s : State) (p : PortId) : State := if (s.port p).qualified then s.portBids p else s

/-- A console's bid on a patch (R73), and the keying unit's evaluation after it. -/
def State.consoleBids (s : State) (c : Console) (n : SlotId) : State :=
  if (s.patch n).takesBids && !(s.patch n).stands (.console c) then (s.takeBid n (.console c)).evalPatch n else s

/-! ### Retirement (R65, R66) -/

/-- PATCH RETIRED for each console but the one whose own command it is the outcome of (R66). -/
def State.offerRetired (s : State) (n : SlotId) (but : Option Console) : State :=
  let a := if but = some .A then s else s.offer .A ⟨.patchRetired, slotNumber n⟩
  if but = some .B then a else a.offer .B ⟨.patchRetired, slotNumber n⟩

/-- Step 2 of R65 for one member: unkeyed if it is in the relay set. -/
def State.unkeyIfRelaying (s : State) (p : PortId) : State := if (s.port p).inRelaySet then s.unkeyMember p else s

/-- Step 3 of R65 for one member: patch none, and DETACHED unless it is parked. -/
def PortRec.leavePatch (r : PortRec) : PortRec := if r.isParked then { r with patch := none } else { r.restInto .detached with patch := none }

/-- Step 4 of R65 for one console: its listen entry and its target go. -/
def ConsoleRec.forgetPatch (r : ConsoleRec) (n : SlotId) : ConsoleRec :=
  { r with
    listen := r.listen.filter (fun e => e.patch != n)
    target := if r.target = .patch n then .none else r.target }

/-- Retirement of a patch, steps 1 to 6 of R65. -/
def State.retire (s : State) (n : SlotId) (but : Option Console) : State :=
  let members := (s.patch n).members
  let emptied := s.modPatch n (fun r => { r with bids := [], talker := none, partner := none, limit := none })
  let unkeyed := members.foldl State.unkeyIfRelaying emptied
  let detached := members.foldl (fun a p => a.updPort p PortRec.leavePatch) unkeyed
  let forgotten := (detached.modConsole .A (fun r => r.forgetPatch n)).modConsole .B (fun r => r.forgetPatch n)
  (forgotten.setPatch n PatchRec.unused).offerRetired n but

/-! ### Withdrawal and release (R83 to R89) -/

/-- A waiting bid taken out without a grant (R83). -/
def State.withdraw (s : State) (n : SlotId) (src : Source) : State :=
  s.modPatch n (fun r => { r with bids := r.bids.erase src })

/-- The outcome of a release in TALK, in the order of preference of R85. -/
def State.releaseOutcome (s : State) (n : SlotId) : State :=
  match (s.patch n).partner, (s.patch n).bids with
  | some c, _ => s.grant n (.console c)
  | none, b :: _ => s.grant n b
  | none, [] =>
    s.modPatch n (fun r =>
      if r.hangTime = 0 then { r with state := .quiet } else { r with state := .hang, hangLeft := r.hangTime })

/-- The talker's loss of the talk right (R84), with its outcome (R85), or the retirement of a CLOSING patch (R86). but is the
console whose own command made it, where one did (R66). -/
def State.release (s : State) (n : SlotId) (but : Option Console) : State :=
  let dropped := s.dropTalker n
  if (s.patch n).state = .closing then dropped.retire n but else dropped.releaseOutcome n

/-- The partner leaves, and in TALK with a port talker the first listed console takes its place (R89). -/
def PatchRec.vacatePartner (r : PatchRec) : PatchRec :=
  match (if r.state = .talk ∧ r.portTalker.isSome then firstConsole r.bids else none) with
  | some d => { r with partner := some d, bids := r.bids.erase (.console d) }
  | none => { r with partner := none }

/-- A console leaves a patch: release, vacating, withdrawal, or nothing (R74). -/
def State.consoleLeaves (s : State) (c : Console) (n : SlotId) : State :=
  let left :=
    if (s.patch n).talker = some (.console c) then s.release n none
    else if (s.patch n).partner = some c then s.modPatch n PatchRec.vacatePartner
    else if (s.patch n).bids.contains (.console c) then s.withdraw n (.console c)
    else s
  left.evalPatch n

/-! ### Changes of effective priority (R81, R82) -/

/-- The pre-emption check of a listed port whose emergency flag has set (R82). -/
def State.checkEmergency (s : State) (n : SlotId) (p : PortId) : State :=
  match (s.patch n).style, (s.patch n).portTalker with
  | .preempt, some t =>
    if (s.patch n).state = .talk && s.outranks n (.port p) t then (s.preempt n (.port p) t).evalPatch n else s
  | _, _ => s

/-- A report of a port's new effective priority: a listed entry is placed again, and checked after a rise by the emergency flag
(R81, R82, R128). -/
def State.priorityChanged (s : State) (p : PortId) (rise : Bool) : State :=
  match (s.port p).patch with
  | none => s
  | some n =>
    if (s.patch n).bids.contains (.port p) then
      let placed := s.modPatch n (fun r => { r with bids := s.insertBid (.port p) (r.bids.erase (.port p)) })
      if rise then placed.checkEmergency n p else placed
    else s

/-! ### Expiries of the arbiter -/

/-- A hang has run out (R93). -/
def State.hangRunsOut (s : State) (n : SlotId) : State :=
  if (s.patch n).state = .hang then (s.modPatch n (fun r => { r with state := .quiet, hangLeft := 0 })).evalPatch n else s

/-- The time-out of port talker t (R118 to R120). -/
def State.timesOut (s : State) (n : SlotId) (t : PortId) : State :=
  let locked := s.updPort t (fun r => { r with lockoutLeft := (s.patch n).lockoutTime * 1000 })
  ((locked.offerBoth ⟨.timeOut, portNumber t⟩).release n none).evalPatch n

end Sys2Proof.Machine
end

