-- ==== Sys2Proof/Machine/Traffic.lean ====
section
/-! DEFINITION. What passes between the blocks: carrier events handed on (R9), the emergency flag (R16, R17), the talk request and
the talk target (R133, R74), reservations (R143, R144), joining and leaving patches (R47, R48), and the loss of a link (R146). -/

namespace Sys2Proof.Machine

/-! ### Carrier events (R9) -/

/-- A carrier-qualified event: the arbiter, then the keying unit (R9, R71). -/
def State.carrierQualified (s : State) (p : PortId) : State := (s.portBids p).evalPort p

/-- The arbiter's part of a carrier-lost event: the talker is released, a listed port withdrawn (R83, R84). -/
def State.portLosesPlace (s : State) (p : PortId) : State :=
  match (s.port p).patch with
  | none => s
  | some n =>
    if (s.patch n).talker = some (.port p) then (s.release n none).evalPatch n
    else if (s.patch n).bids.contains (.port p) then (s.withdraw n (.port p)).evalPatch n
    else s

/-- A carrier-lost event: the arbiter, then the keying unit (R9). -/
def State.carrierLost (s : State) (p : PortId) : State := (s.portLosesPlace p).evalPort p

def State.handOn (s : State) (e : CarrierEvent) : State :=
  match e.news with
  | .qualified | .unmasked => s.carrierQualified e.port
  | .lost => s.carrierLost e.port

/-- Hand on the raised events, oldest first, each taken whole, up to a bound (R9, R40, R87; logs 6 and 27). -/
def settleN : Nat → State → State
  | 0, s => s
  | k + 1, s =>
    match s.raised with
    | [] => s
    | e :: rest => settleN k (({ s with raised := rest } : State).handOn e)

/-- The end of an action: what it raised is handed on. -/
def State.settle (s : State) : State := settleN Config.carrierEventBound s

/-! ### The emergency flag (R16 to R18) -/

/-- The flag sets with its notice and the report of a rise (R16, R17). -/
def State.emergencySets (s : State) (p : PortId) : State :=
  ((s.updPort p (fun r => { r with emergency := true })).offerBoth ⟨.emergency, portNumber p⟩).priorityChanged p true

/-- The flag clears with the report of a fall (R17, R23). -/
def State.emergencyClears (s : State) (p : PortId) : State :=
  (s.updPort p (fun r => { r with emergency := false })).priorityChanged p false

/-- A change of the filtered EMG, by the EMG mode (R16, R17). -/
def State.emgChanges (s : State) (p : PortId) (v : Bool) : State :=
  match (s.port p).cfg.emgMode, v with
  | .latch, true => if (s.port p).emergency then s.offerBoth ⟨.emergency, portNumber p⟩ else s.emergencySets p
  | .latch, false => s
  | .level, true => if (s.port p).emergency then s.offerBoth ⟨.emergency, portNumber p⟩ else s.emergencySets p
  | .level, false => if (s.port p).emergency then s.emergencyClears p else s

/-- The filtered EMG takes a value (R6). -/
def State.takeFilteredEmg (s : State) (p : PortId) (v : Bool) : State :=
  let taken := s.updPort p (fun r => { r with filteredEmg := v, emgHold := 0 })
  if (s.port p).filteredEmg = v then taken else taken.emgChanges p v

/-- The EMG input after a change of the pin or of the filter: with the filter on the 3 ms hold, with it off at once (R6). old is
the corrected EMG before. -/
def State.conditionEmg (s : State) (p : PortId) (old : Bool) : State :=
  if (s.port p).cfg.glitchFilter then
    s.updPort p (fun r => { r with emgHold := holdAfter (old != r.correctedEmg) r.correctedEmg r.filteredEmg r.emgHold })
  else s.takeFilteredEmg p (s.port p).correctedEmg

/-- A change of EMG mode, the new mode stored: LATCH to LEVEL, the flag takes the filtered EMG; LEVEL to LATCH, it keeps its
value (R17). -/
def State.emgModeChanges (s : State) (p : PortId) (old : EmgMode) : State :=
  match old, (s.port p).cfg.emgMode with
  | .latch, .level =>
    if (s.port p).filteredEmg = (s.port p).emergency then s
    else if (s.port p).filteredEmg then s.emergencySets p else s.emergencyClears p
  | _, _ => s

/-! ### The talk request and the talk target (R74, R133) -/

/-- A rise of the talk request, by the target (R133). -/
def State.requestRises (s : State) (c : Console) : State :=
  match (s.console c).target with
  | .none => s
  | .patch n => s.consoleBids c n
  | .port p => s.evalParked p

/-- A fall of the talk request, by the target (R133). -/
def State.requestFalls (s : State) (c : Console) : State :=
  match (s.console c).target with
  | .none => s
  | .patch n => s.consoleLeaves c n
  | .port p => s.evalParked p

/-- A change of the console record that may make its talk request rise or fall: handed on as one action with it (R133). -/
def State.changeRequest (s : State) (c : Console) (f : ConsoleRec → ConsoleRec) : State :=
  let changed := s.modConsole c f
  if (s.console c).request = (changed.console c).request then changed
  else if (changed.console c).request then changed.requestRises c
  else changed.requestFalls c

/-- A change of the talk target: with the request active, the console leaves the old target and then bids on, or keys, the new
one (R74). -/
def State.changeTarget (s : State) (c : Console) (t : Target) : State :=
  let changed := s.modConsole c (fun r => { r with target := t })
  if (s.console c).target = t ∨ !(s.console c).request then changed
  else
    let left := match (s.console c).target with
      | .none => changed
      | .patch n => changed.consoleLeaves c n
      | .port p => changed.evalParked p
    left.requestRises c

/-! ### Reservations (R143, R144) -/

/-- Steps 1 to 5 of R143 for console c. -/
def State.reserve (s : State) (c : Console) (p : PortId) : State :=
  let r := s.port p
  let wasTalker : Bool := match r.patch with
    | some n => (s.patch n).talker == some (.port p)
    | none => false
  let withdrawn := match r.patch with
    | some n => s.withdraw n (.port p)
    | none => s
  let unkeyed := withdrawn.unkeyIfRelaying p
  let parked := unkeyed.updPort p (fun q => { q.restInto .parked with reservedBy := some c })
  let released := match r.patch with
    | some n => (if wasTalker then parked.release n (some c) else parked).evalPatch n
    | none => parked
  released.evalParked p

/-- Steps 2 to 4 of R144; wasKeyed says whether the port was keyed for the console when the command or the loss began. -/
def State.endReservation (s : State) (p : PortId) (wasKeyed : Bool) : State :=
  let freed := s.updPort p (fun r => { r.restInto (if r.patch.isSome then .idle else .detached) with reservedBy := none })
  (if wasKeyed then freed else freed.portBidsIfQualified p).evalPort p

/-- Steps 1 to 4 of R144 for console c. -/
def State.releaseReservation (s : State) (c : Console) (p : PortId) : State :=
  let untargeted := if (s.console c).target = .port p then s.changeTarget c .none else s
  let unkeyed := if (untargeted.port p).parkedKeyed then untargeted.unkeyParked p else untargeted
  unkeyed.endReservation p (s.port p).parkedKeyed

/-! ### Joining and leaving (R47, R48, R54) -/

/-- A port joins a patch (R47). -/
def State.join (s : State) (n : SlotId) (p : PortId) : State :=
  let listed := s.modPatch n (fun r => { r with members := r.members ++ [p] })
  let joined := listed.updPort p (fun r =>
    if r.isParked then { r with patch := some n } else { r.restInto .idle with patch := some n })
  if (joined.port p).isParked then joined else (joined.portBidsIfQualified p).evalPort p

def State.joinAll (s : State) (n : SlotId) (ps : List PortId) : State := ps.foldl (fun a p => a.join n p) s

/-- Named ports leave a patch together: withdrawals, unkeyings, entries out, DETACHED, and one release (R48, R54). -/
def State.leaveAll (s : State) (n : SlotId) (ps : List PortId) (c : Console) : State :=
  let hadTalker := ps.any (fun p => (s.patch n).talker == some (.port p))
  let withdrawn := ps.foldl (fun a p => a.withdraw n (.port p)) s
  let unkeyed := ps.foldl State.unkeyIfRelaying withdrawn
  let out := unkeyed.modPatch n (fun r => { r with members := r.members.filter (fun p => !ps.contains p) })
  let detached := ps.foldl (fun a p => a.updPort p PortRec.leavePatch) out
  (if hadTalker then detached.release n (some c) else detached).evalPatch n

/-! ### Link supervision (R146) -/

def State.shareOwned (s : State) (c : Console) : State :=
  { s with patches := mapVec (fun r => if r.inUse && r.owner == some c then { r with shared := true } else r) s.patches }

/-- The ports a console has reserved, in ascending order. -/
def State.reservedPorts (s : State) (c : Console) : List PortId := allPorts.filter (fun p => (s.port p).reservedBy == some c)

/-- The loss of a console's link, steps 1 to 5 of R146. -/
def State.linkLost (s : State) (c : Console) : State :=
  let fallen := s.changeRequest c (fun r => { r with link := .lost, seize := false })
  let untargeted := fallen.modConsole c (fun r => { r with target := .none })
  let freed := (s.reservedPorts c).foldl (fun a p =>
    (if (a.port p).parkedKeyed then a.unkeyParked p else a).endReservation p (s.port p).parkedKeyed) untargeted
  (freed.shareOwned c).offer (otherConsole c) ⟨.linkLost, consoleNumber c⟩

/-! ### Timers of a port, a console and a link running out -/

/-- The guard of a port has run out: if that ends masking, an asserted filtered COR is taken (R12, R14). -/
def State.guardRunsOut (s : State) (p : PortId) : State :=
  if !(s.port p).masked && (s.port p).carrier == .clear then s.writePort p (s.port p).maskEnds else s

/-- The filtered COR takes the corrected COR (R6). -/
def State.corFilterRunsOut (s : State) (p : PortId) : State :=
  s.writePort p ((s.port p).takeFilteredCor (s.port p).correctedCor)

def State.emgFilterRunsOut (s : State) (p : PortId) : State := s.takeFilteredEmg p (s.port p).correctedEmg

/-- The filtered PTT takes the line's value (R132). -/
def State.pttFilterRunsOut (s : State) (c : Console) : State :=
  s.changeRequest c (fun r => { r with filteredPtt := Level.isLow r.pttPin, pttHold := 0 })

end Sys2Proof.Machine
end

