-- ==== Sys2Proof/Machine/Frames.lean ====
section
/-! DEFINITION. The command link units: the receiving half character by character (R165, R166), frames that close, the response
queue (R166, R168, R169), and the transmitting half (R170, R171, R183). -/

namespace Sys2Proof.Machine

/-! ### The receiving half -/

/-- A frame has opened: count and store start empty, and the 100 ms run from the opening byte (R165, R167). -/
def Receiver.opened : Receiver := { Receiver.outside with isOpen := true, timeLeft := Config.frameTimeoutMs }

/-- Record a fault, unless an earlier one stands (R166). -/
def Receiver.note (rx : Receiver) (f : FrameFault) : Receiver :=
  match rx.fault with
  | some _ => rx
  | none => { rx with fault := some f }

/-- A character inside the frame is counted, until the 66th byte stops the count, and restarts the 100 ms (R165 to R167). -/
def Receiver.counted (rx : Receiver) : Receiver :=
  { rx with count := if rx.full then rx.count else rx.count + 1, timeLeft := Config.frameTimeoutMs }

/-- An unescaped byte: stored, or, as the 66th, a LENGTH fault at the character that carried it (R166). -/
def Receiver.store (rx : Receiver) (b : Byte) : Receiver :=
  if rx.stored.length < Config.maxStored then { rx with stored := rx.stored ++ [b], escaped := false }
  else { rx.note ⟨.length, rx.count⟩ with full := true, escaped := false }

/-- A character inside a frame that neither opens nor closes one (R165, R166; log 7 for the alert byte). -/
def Receiver.take (rx : Receiver) (ch : LineChar) : Receiver :=
  let r := rx.counted
  if ch.error then { r.note ⟨.character, r.count⟩ with escaped := false }
  else if rx.escaped then r.store (ch.data ^^^ Config.escapeMask)
  else if ch.data = Config.escapeByte then { r with escaped := true }
  else if ch.data = Config.alertByte then (if Config.alertByteCounts then r else { r with count := rx.count })
  else r.store ch.data

/-- The first fault of a frame whose closing byte has arrived (R166). -/
def Receiver.closingFault (rx : Receiver) : Option FrameFault :=
  match rx.fault with
  | some f => some f
  | none =>
    if rx.stored.length < 2 then some ⟨.length, rx.count + 1⟩
    else if byteSum rx.stored ≠ 0 then some ⟨.check, 0⟩
    else none

/-- The fault of a frame that has timed out: the first recorded, or TIMEOUT at the next position (R166, R167). -/
def Receiver.timeoutFault (rx : Receiver) : FrameFault := rx.fault.getD ⟨.timeout, rx.count + 1⟩

/-! ### Frames that close -/

/-- The receiving half goes outside a frame. -/
def State.closeFrame (s : State) (c : Console) : State := s.modLink c (fun u => { u with rx := Receiver.outside })

/-- A good frame restarts supervision and makes the link UP, whether or not it is executed (R145, R147, R166). -/
def State.linkHeard (s : State) (c : Console) : State :=
  s.modConsole c (fun r => { r with link := .up, silence := r.supervision * 1000 })

/-- A closed frame is answered where the queue has room: OVERRUN where 4 responses wait; nothing where a RESTART is pending;
otherwise its effect, and its response at the tail (R166, R168, R169, R178; log 12). -/
def State.answer (s : State) (c : Console) (act : State → State × Response) : State :=
  if Config.queueCapacity ≤ (s.link c).queue.length then s.modLink c (fun u => { u with overrun := true })
  else if (s.link c).restartPending then s
  else (act s).1.modLink c (fun u => { u with queue := u.queue ++ [(act s).2] })

/-- A good frame closes on the link of console c; while the RESET line is asserted, characters are ignored (R177). -/
def State.goodFrame (s : State) (c : Console) (act : State → State × Response) : State :=
  if s.resetLine then s else ((s.closeFrame c).linkHeard c).answer c act

/-- The response to a bad frame (R166, R172). -/
def badFrameResponse (f : FrameFault) : Response := ⟨.badFrame, [byteOf (faultReasonCode f.reason), byteOf f.position]⟩

/-- A bad frame closes (R166). -/
def State.badFrameCloses (s : State) (c : Console) (f : FrameFault) : State :=
  if s.resetLine then s else (s.closeFrame c).answer c (fun t => (t, badFrameResponse f))

/-- The 100 ms of an open frame run out (R167). -/
def State.frameTimesOut (s : State) (c : Console) : State :=
  if (s.link c).rx.isOpen then s.badFrameCloses c (s.link c).rx.timeoutFault else s

/-! ### The transmitting half -/

/-- The payload of the head response with its flags byte (R171). -/
def State.responsePayload (s : State) (c : Console) (r : Response) : List Byte :=
  [byteOf r.status.code, byteOf (s.flagsByte c)] ++ r.data

/-- The head response begins transmission: the flags byte is written, and OVERRUN cleared with it (R170, R171). An alert that
waits goes first (R183; log 14); every character goes with even parity and one stop bit (R163). With a response already on the line, or none waiting, nothing begins. -/
def State.startResponse (s : State) (c : Console) : State :=
  match (s.link c).queue with
  | [] => s
  | r :: _ =>
    if (s.link c).sending then s
    else s.modLink c (fun u => { u with
      sending := true
      overrun := false
      alertWaiting := false
      txLine := ((if u.alertWaiting then [Config.alertByte] else []) ++ frameChars (s.responsePayload c r)).map LineChar.sent })

/-- The closing byte of the head response has been sent: it leaves the queue (R169). -/
def State.finishResponse (s : State) (c : Console) : State :=
  (s.startResponse c).modLink c (fun u => { u with queue := u.queue.tail, sending := false })

/-- Every pending RESTART has had its OK sent: the queue of each restart-pending link is empty (R178). -/
def State.restartDue (s : State) : Bool :=
  ((s.link .A).restartPending || (s.link .B).restartPending)
    && (!(s.link .A).restartPending || (s.link .A).queue.isEmpty)
    && (!(s.link .B).restartPending || (s.link .B).queue.isEmpty)

/-- The alert byte goes, where one waits and the transmitting half is between frames; not after the OK of a RESTART (R178,
R183). -/
def State.sendAlert (s : State) (c : Console) : State :=
  let u := s.link c
  if u.alertWaiting && !u.sending && !(u.restartPending && u.queue.isEmpty) then
    s.modLink c (fun u => { u with alertWaiting := false, txLine := [LineChar.sent Config.alertByte] })
  else s

end Sys2Proof.Machine
end

