-- ==== Sys2Proof/Machine/UnitCommands.lean ====
section
/-! DEFINITION. The unit commands (section 9.5) and READ NOTICE (R182). -/

namespace Sys2Proof.Machine

/-- A command's action is over: the carrier events it raised are handed on, and the response shows the records as they then stand
(R40, R46, R95; log 21). -/
def State.finished (s : State) (reply : State → Response) : State × Response := (s.settle, reply s.settle)

/-- QUERY UNIT (R177). -/
def doQueryUnit (s : State) : State × Response := (s, ok s.unitImage)

/-- RESTART (R178): its OK is queued, and the reset waits for it to be sent. -/
def doRestart (c : Console) (s : State) : State × Response :=
  if c = .B ∧ (s.console .A).link = .up then (s, refuse .notPermitted)
  else
    ({ s.modLink c (fun u => { u with restartPending := true }) with restartFirst := some (s.restartFirst.getD c) }, ok [])

/-- The longest supervision time (R131, R179). -/
def maxSupervision : Nat := 60

/-- A supervision time stored restarts the silence with it, or stops supervision (R145, R179). -/
def ConsoleRec.superviseFor (r : ConsoleRec) (t : Option Nat) : ConsoleRec :=
  match t with
  | some v => { r with supervision := min v maxSupervision, silence := min v maxSupervision * 1000 }
  | none => r

/-- A mask stored: bit 7 held set, and the pending entries of every disabled kind removed (R173, R181). -/
def NoticeUnit.maskWith (u : NoticeUnit) (m : Option Byte) : NoticeUnit :=
  match m with
  | some b => { u with mask := storedMask b, entries := u.entries.filter (fun e => maskEnables (storedMask b) e.kind) }
  | none => u

/-- SET LINK (R179). -/
def doSetLink (c : Console) (supervision : Option Nat) (mask : Option Byte) (s : State) : State × Response :=
  let stored := (s.modConsole c (fun r => r.superviseFor supervision)).modNotice c (fun u => u.maskWith mask)
  (stored, okOrClamped (clampedBy maxSupervision supervision)
    (putByte (stored.console c).supervision ++ [(stored.notice c).mask]))

/-- Entry a is read before entry b: by its kind, then by its subject (R182). -/
def Notice.before (a b : Notice) : Bool :=
  decide (a.kind.code < b.kind.code) || (a.kind.code == b.kind.code && decide (a.subject < b.subject))

/-- The entry READ NOTICE takes (R182). -/
def highestNotice : List Notice → Option Notice
  | [] => none
  | e :: es =>
    match highestNotice es with
    | some h => some (if h.before e then h else e)
    | none => some e

/-- The unit after READ NOTICE: the entry taken out, OVERFLOW cleared (R182). -/
def NoticeUnit.readOne (u : NoticeUnit) : NoticeUnit :=
  match highestNotice u.entries with
  | some e => { u with entries := u.entries.erase e, overflow := false }
  | none => { u with overflow := false }

/-- Kind and subject of the entry taken, NONE and 0 where there is none (R182). -/
def noticeBytes : Option Notice → List Byte
  | some e => putByte e.kind.code ++ putByte e.subject
  | none => putByte 0 ++ putByte 0

/-- READ NOTICE (R182). -/
def doReadNotice (c : Console) (s : State) : State × Response :=
  let read := s.modNotice c NoticeUnit.readOne
  (read, ok (noticeBytes (highestNotice (s.notice c).entries) ++ putByte (flagCode (s.notice c).overflow)
    ++ putByte (read.notice c).entries.length))

end Sys2Proof.Machine
end

