-- ==== Sys2Proof/Machine/ConsoleCommands.lean ====
section
/-! DEFINITION. The commands on a console's own record: SET CONSOLE, SET LISTEN (section 7.4), SET TALK TARGET, SEIZE and UNSEIZE
(section 7.3). -/

namespace Sys2Proof.Machine

/-- SET CONSOLE (R139). -/
def doSetConsole (c : Console) (micTrim sidetone : Option Nat) (s : State) : State × Response :=
  let stored := s.modConsole c (fun r => { r with
    micTrim := storeUpTo Config.maxGain micTrim r.micTrim
    sidetone := storeUpTo Config.maxGain sidetone r.sidetone })
  (stored, okOrClamped (clampedBy Config.maxGain micTrim || clampedBy Config.maxGain sidetone) (stored.consoleImage c))

/-- The entry a listen argument stores for patch n (R140). -/
def entryFor (entries : List ListenArg) (n : SlotId) : Option ListenEntry :=
  (entries.find? (fun e => e.patch == slotNumber n)).map (fun e => ⟨n, min e.level Config.maxGain⟩)

/-- The listen set stored: ascending by patch number whatever the order sent, levels at most 1023 (R140). -/
def listenSet (entries : List ListenArg) : List ListenEntry := allSlots.filterMap (entryFor entries)

/-- The checks of SET LISTEN: the first patch outside 1..12 or named twice, then the first not in use (R140; log 9). More than 12
entries always hold one of the first. -/
def State.listenChecks (s : State) (entries : List ListenArg) : List (Option Response) :=
  let ks := entries.map ListenArg.patch
  [(ks.find? (fun k => (slotOf? k).isNone || decide (1 < ks.count k))).map (refusePatch .badArgument),
   (ks.find? (fun k => (slotOf? k).any (fun n => !(s.patch n).inUse))).map (refusePatch .noSuchPatch)]

/-- SET LISTEN (R140). -/
def doSetListen (c : Console) (entries : List ListenArg) (s : State) : State × Response :=
  s.checked (s.listenChecks entries) fun t =>
    let stored := t.modConsole c (fun r => { r with listen := listenSet entries })
    (stored, okOrClamped (entries.any (fun e => decide (Config.maxGain < e.level))) (stored.console c).listenImage)

/-- The target SET TALK TARGET names, or the refusal of its checks (R137; log 8). -/
def State.targetNamed (s : State) (c : Console) (kind number : Nat) : Except Response Target :=
  match kind with
  | 0 => .ok .none
  | 1 =>
    match slotOf? number with
    | none => .error (refuse .badArgument)
    | some n => if (s.patch n).inUse then .ok (.patch n) else .error (refuse .noSuchPatch)
  | 2 =>
    match portOf? number with
    | none => .error (refuse .badArgument)
    | some p =>
      if (s.port p).reservedBy = some (otherConsole c) then .error (refuse .portReserved)
      else if (s.port p).reservedBy = some c then .ok (.port p)
      else .error (refuse .notPermitted)
  | _ => .error (refuse .badArgument)

/-- SET TALK TARGET (R137, R74). -/
def doSetTalkTarget (c : Console) (kind number : Nat) (s : State) : State × Response :=
  match s.targetNamed c kind number with
  | .error r => (s, r)
  | .ok t => (s.changeTarget c t).finished (fun u => ok (u.standingBlock c))

/-- SEIZE (R135). -/
def doSeize (c : Console) (s : State) : State × Response :=
  (s.changeRequest c (fun r => { r with seize := true })).finished (fun u => ok (u.standingBlock c))

/-- UNSEIZE (R136). -/
def doUnseize (c : Console) (s : State) : State × Response :=
  (s.changeRequest c (fun r => { r with seize := false })).finished (fun u => ok (u.standingBlock c))

end Sys2Proof.Machine
end

