-- ==== Sys2Proof/Machine/PatchCommands.lean ====
section
/-! DEFINITION. The commands on patches: ownership and reading (chapter 2), and building, reshaping and retiring (chapter 3). Refusals
of chapter 3 name their offender by R45, those of chapter 2 name none (R172; log 8). DEDUCED (unsafe, log 29): the conditions of one row
of a check table of chapter 3 are taken in the order the row gives them. -/

namespace Sys2Proof.Machine

/-! ### Checks that several commands share -/

/-- The slot named is not in use. -/
def State.notInUse (s : State) (n : SlotId) : Option Response :=
  check (!(s.patch n).inUse) (refusePatch .noSuchPatch (slotNumber n))

/-- The issuing console has no edit permission (R34). -/
def State.notOwner (s : State) (c : Console) (n : SlotId) : Option Response :=
  check (!(s.patch n).mayEdit c) (refusePatch .notOwner (slotNumber n))

/-- The patch is in CLOSING. -/
def State.isClosing (s : State) (n : SlotId) : Option Response :=
  check ((s.patch n).state == .closing) (refusePatch .patchClosing (slotNumber n))

/-- Port number k is a member of patch n. -/
def State.memberOf (s : State) (n : SlotId) (k : Nat) : Bool := (portOf? k).any (fun p => (s.port p).patch == some n)

/-! ### CREATE PATCH -/

/-- The slot CREATE PATCH takes: the lowest free one for 0, otherwise the one named if it is free (R49). -/
def State.freeSlot (s : State) (k : Nat) : Option SlotId :=
  if k = 0 then allSlots.find? (fun n => !(s.patch n).inUse)
  else (slotOf? k).filter (fun n => !(s.patch n).inUse)

/-- The checks of CREATE PATCH, row by row (R49; the order within the first row, log 29). -/
def State.createChecks (s : State) (slot : Nat) (label : List Byte) (ports : List Nat) : List (Option Response) :=
  [check (decide (12 < slot)) (refusePatch .badArgument slot),
   check (!labelAdmitted label) (refuse .badArgument),
   (firstNoPort ports).map (refusePort .badArgument),
   check (decide (16 < ports.length)) (refuse .patchFull),
   (firstRepeated ports).map (refusePort .badArgument),
   check (slot == 0 && (s.freeSlot 0).isNone) (refuse .tableFull),
   check (slot != 0 && (s.freeSlot slot).isNone) (refusePatch .tableFull slot),
   (firstPort ports (fun p => (s.port p).patch.isSome)).map (refusePort .portInUse)]

/-- A slot as CREATE PATCH writes it (R25, R26, R50). -/
def PatchRec.created (c : Console) (label : List Byte) : PatchRec :=
  { PatchRec.unused with state := .quiet, label := label, owner := some c }

/-- CREATE PATCH (R49, R50). -/
def doCreatePatch (c : Console) (slot : Nat) (label : List Byte) (ports : List Nat) (s : State) : State × Response :=
  s.checked (s.createChecks slot label ports) fun t =>
    match t.freeSlot slot with
    | some n => ((t.setPatch n (PatchRec.created c label)).joinAll n (portsOf ports)).finished (fun u => ok (u.patchList [n]))
    | none => (t, refuse .tableFull)

/-! ### ADD MEMBERS, REMOVE MEMBERS and MOVE MEMBER -/

/-- The checks of ADD MEMBERS behind its patch number (R51; the order within the first row, log 29). -/
def State.addChecks (s : State) (c : Console) (n : SlotId) (ports : List Nat) : List (Option Response) :=
  [check ports.isEmpty (refuse .badArgument),
   (firstNoPort ports).map (refusePort .badArgument),
   s.notInUse n,
   s.notOwner c n,
   s.isClosing n,
   check (decide (16 < ports.length + (s.patch n).members.length)) (refusePatch .patchFull (slotNumber n)),
   (ports.find? (fun k => decide (1 < ports.count k) || s.memberOf n k)).map (refusePort .badArgument),
   (firstPort ports (fun p => (s.port p).patch.isSome)).map (refusePort .portInUse)]

/-- ADD MEMBERS (R51, R52). -/
def doAddMembers (c : Console) (k : Nat) (ports : List Nat) (s : State) : State × Response :=
  s.onPatch k (refusePatch .badArgument k) fun n =>
    s.checked (s.addChecks c n ports) fun t => (t.joinAll n (portsOf ports)).finished (fun u => ok (u.patchList [n]))

/-- The checks of REMOVE MEMBERS behind its patch number; a port number out of range and one named twice are one check over the list
(R45, R53; log 29). -/
def State.removeChecks (s : State) (c : Console) (n : SlotId) (ports : List Nat) : List (Option Response) :=
  [check ports.isEmpty (refuse .badArgument),
   (ports.find? (fun k => (portOf? k).isNone || decide (1 < ports.count k))).map (refusePort .badArgument),
   s.notInUse n,
   s.notOwner c n,
   (ports.find? (fun k => !s.memberOf n k)).map (refusePort .notMember)]

/-- REMOVE MEMBERS (R53, R54). -/
def doRemoveMembers (c : Console) (k : Nat) (ports : List Nat) (s : State) : State × Response :=
  s.onPatch k (refusePatch .badArgument k) fun n =>
    s.checked (s.removeChecks c n ports) fun t => (t.leaveAll n (portsOf ports) c).finished (fun u => ok (u.patchList [n]))

/-- The checks of MOVE MEMBER behind its first two rows (R55). -/
def State.moveChecks (s : State) (c : Console) (source dest : SlotId) : List (Option Response) :=
  [s.notInUse dest,
   check (dest == source) (refusePatch .badArgument (slotNumber dest)),
   s.notOwner c source,
   s.notOwner c dest,
   s.isClosing dest]

/-- MOVE MEMBER (R55, R56); the port number is checked before the destination (log 29). -/
def doMoveMember (c : Console) (port dest : Nat) (s : State) : State × Response :=
  s.onPort port (refusePort .badArgument port) fun p =>
    s.onPatch dest (refusePatch .badArgument dest) fun d =>
      match (s.port p).patch with
      | none => (s, refusePort .notMember port)
      | some n =>
        s.checked (s.moveChecks c n d) fun t =>
          ((t.leaveAll n [p] c).join d p).finished (fun u => ok (u.patchList [n, d]))

/-! ### MERGE PATCHES -/

/-- The checks of MERGE PATCHES behind its two numbers (R57). -/
def State.mergeChecks (s : State) (c : Console) (a b : SlotId) : List (Option Response) :=
  [check (a == b) (refusePatch .badArgument (slotNumber b)),
   s.notInUse a, s.notInUse b,
   s.notOwner c a, s.notOwner c b,
   s.isClosing a, s.isClosing b,
   check ((s.patch a).talker.isSome && (s.patch b).talker.isSome) (refuse .floorConflict)]

/-- The two bid lists joined: within each priority the survivor's entries first (R59). -/
def State.joinedBids (s : State) (a b : SlotId) : List Source :=
  (s.patch b).bids.foldl (fun l src => s.insertBid src l) (s.patch a).bids

/-- The hang remaining of a patch, one not in HANG counting 0 (R59). -/
def PatchRec.hangCount (r : PatchRec) : Nat := if r.state = .hang then r.hangLeft else 0

/-- The survivor's record before partners are settled: members, talker with its count and limit, list, hang and state (R58, R59,
R116, R117). -/
def State.joinedRecord (s : State) (a b : SlotId) : PatchRec :=
  let ra := s.patch a
  let rb := s.patch b
  let talker := ra.talker.or rb.talker
  let hang := if talker.isSome then 0 else max ra.hangCount rb.hangCount
  { ra with
    members := ra.members ++ rb.members
    talker := talker
    elapsed := if rb.talker.isSome then rb.elapsed else ra.elapsed
    limit := if rb.talker.isSome then rb.limit else ra.limit
    bids := s.joinedBids a b
    hangLeft := hang
    state := if talker.isSome then .talk else if 0 < hang then .hang else .quiet }

/-- The absorbed partner carried into a MIX survivor, or listed at priority 9 in a PREEMPT one (R59; log 10). -/
def State.carryPartner (s : State) (r : PatchRec) (partner : Option Console) : PatchRec :=
  match partner with
  | none => r
  | some d =>
    if r.style = .mix then { r with partner := some d } else { r with bids := s.insertBid (.console d) r.bids }

/-- In a MIX survivor with a port talker and an empty slot, the first listed console becomes partner (R59). -/
def PatchRec.promotePartner (r : PatchRec) : PatchRec :=
  match (if r.style = .mix ∧ r.portTalker.isSome ∧ r.partner = none then firstConsole r.bids else none) with
  | some d => { r with partner := some d, bids := r.bids.erase (.console d) }
  | none => r

/-- The survivor's whole record (R58, R59). -/
def State.mergedRecord (s : State) (a b : SlotId) : PatchRec :=
  (s.carryPartner (s.joinedRecord a b) (s.patch b).partner).promotePartner

/-- A listen entry put at its place in ascending order of patch number (R140). -/
def insertEntry (e : ListenEntry) (l : List ListenEntry) : List ListenEntry :=
  l.takeWhile (fun x => decide (x.patch < e.patch)) ++ e :: l.dropWhile (fun x => decide (x.patch < e.patch))

/-- The listen set with the absorbed patch renamed, or its entry dropped where the survivor has one (R60). -/
def renameListen (b a : SlotId) (l : List ListenEntry) : List ListenEntry :=
  let others := l.filter (fun e => e.patch != b)
  match l.find? (fun e => e.patch == b) with
  | none => l
  | some e => if others.any (fun x => x.patch == a) then others else insertEntry ⟨a, e.level⟩ others

/-- The absorbed patch renamed in a console's record (R60). -/
def ConsoleRec.renamePatch (r : ConsoleRec) (b a : SlotId) : ConsoleRec :=
  { r with target := if r.target = .patch b then .patch a else r.target, listen := renameListen b a r.listen }

/-- A merge of b into a for console c, in the order of R58 to R60. -/
def State.merge (s : State) (c : Console) (a b : SlotId) : State :=
  let joined := (s.setPatch a (s.mergedRecord a b)).setPatch b PatchRec.unused
  let carried := (s.patch b).members.foldl (fun t p => t.updPort p (fun r => { r with patch := some a })) joined
  let keyed := carried.evalPatch a
  let renamed := (keyed.modConsole .A (fun r => r.renamePatch b a)).modConsole .B (fun r => r.renamePatch b a)
  renamed.offer (otherConsole c) ⟨.patchRetired, slotNumber b⟩

/-- MERGE PATCHES (R57 to R60); the survivor's number is checked before the absorbed one's (log 29). -/
def doMergePatches (c : Console) (survivor absorbed : Nat) (s : State) : State × Response :=
  s.onPatch survivor (refusePatch .badArgument survivor) fun a =>
    s.onPatch absorbed (refusePatch .badArgument absorbed) fun b =>
      s.checked (s.mergeChecks c a b) fun t => (t.merge c a b).finished (fun u => ok (u.patchList [a, b]))

/-! ### SET PATCH -/

def State.setPatchChecks (s : State) (c : Console) (n : SlotId) (sel : PatchSelection) : List (Option Response) :=
  [check (outside modeOf? sel.mode) (refuseItem .badArgument 2),
   check (outside styleOf? sel.style) (refuseItem .badArgument 3),
   check (sel.label.any (fun l => !labelAdmitted l)) (refuseItem .badArgument 1),
   s.notInUse n,
   s.notOwner c n]

/-- The label and the seven settings as a selection stores them (R61). -/
def PatchRec.store (r : PatchRec) (sel : PatchSelection) : PatchRec :=
  { r with
    label := sel.label.getD r.label
    mode := storeCode modeOf? sel.mode r.mode
    style := storeCode styleOf? sel.style r.style
    threshold := storeThreshold sel.threshold r.threshold
    level := storeUpTo Config.maxGain sel.level r.level
    hangTime := storeUpTo 5000 sel.hangTime r.hangTime
    timeOutLimit := storeTimeOut sel.timeOutLimit r.timeOutLimit
    lockoutTime := storeUpTo 120 sel.lockoutTime r.lockoutTime }

/-- A selected value is stored other than as sent (R61). -/
def PatchSelection.clamped (sel : PatchSelection) : Bool :=
  sel.threshold.any (fun v => storeThreshold (some v) v != v) || clampedBy Config.maxGain sel.level
    || clampedBy 5000 sel.hangTime || sel.timeOutLimit.any (fun v => storeTimeOut (some v) v != v)
    || clampedBy 120 sel.lockoutTime

/-- A change of mode hands the patch to the keying unit (R62, R104). -/
def State.modeChanges (s : State) (n : SlotId) (old : PatchMode) : State :=
  if (s.patch n).mode = old then s else s.evalPatch n

/-- A change of style from MIX to PREEMPT removes the partner and, in TALK, takes its bid anew (R90). -/
def State.styleChanges (s : State) (n : SlotId) (old : PatchStyle) : State :=
  match old, (s.patch n).style, (s.patch n).partner with
  | .mix, .preempt, some d =>
    let vacated := s.modPatch n (fun r => { r with partner := none })
    if (s.patch n).state = .talk then (vacated.takeBid n (.console d)).evalPatch n else vacated
  | _, _, _ => s

/-- SET PATCH (R61, R62). -/
def doSetPatch (c : Console) (k : Nat) (sel : PatchSelection) (s : State) : State × Response :=
  s.onPatch k (refusePatch .badArgument k) fun n =>
    s.checked (s.setPatchChecks c n sel) fun t =>
      (((t.modPatch n (fun r => r.store sel)).modeChanges n (t.patch n).mode).styleChanges n (t.patch n).style).finished
        (fun u => okOrClamped (PatchSelection.clamped sel) (u.patchList [n] ++ (u.patch n).settingsBlock))

/-! ### DISSOLVE -/

/-- The patch enters CLOSING: its list emptied, its talker and partner kept (R64). -/
def State.beginClosing (s : State) (n : SlotId) : State :=
  (s.modPatch n (fun r => { r with state := .closing, bids := [] })).evalPatch n

/-- The checks of DISSOLVE behind its patch number (R63). -/
def State.dissolveChecks (s : State) (c : Console) (n : SlotId) (kind : Nat) : List (Option Response) :=
  [check (decide (1 < kind)) (refuse .badArgument),
   s.notInUse n,
   s.notOwner c n,
   if kind = 1 then s.isClosing n else none]

/-- A dissolve that passes its checks: kind 0 NOW, 1 WHEN-CLEAR (R63, R64). -/
def State.dissolve (s : State) (c : Console) (n : SlotId) (kind : Nat) : State :=
  if kind = 1 ∧ (s.patch n).state = .talk then s.beginClosing n else s.retire n (some c)

/-- DISSOLVE (R63 to R66); the patch number is checked before the kind (log 29). -/
def doDissolve (c : Console) (k kind : Nat) (s : State) : State × Response :=
  s.onPatch k (refusePatch .badArgument k) fun n =>
    s.checked (s.dissolveChecks c n kind) fun t => (t.dissolve c n kind).finished (fun u => ok (u.patchList [n]))

/-! ### QUERY PATCH, LIST PATCHES, SET SHARING and TAKE OVER -/

/-- QUERY PATCH (R41). -/
def doQueryPatch (k : Nat) (s : State) : State × Response :=
  s.onPatch k (refuse .badArgument) fun n =>
    s.checked [check (!(s.patch n).inUse) (refuse .noSuchPatch)] fun t => (t, ok (t.patchImage n))

/-- LIST PATCHES (R42). -/
def doListPatches (s : State) : State × Response := (s, ok s.summary)

/-- SET SHARING (R36). -/
def doSetSharing (c : Console) (k value : Nat) (s : State) : State × Response :=
  s.onPatch k (refuse .badArgument) fun n =>
    s.checked
      [check (decide (1 < value)) (refuse .badArgument),
       check (!(s.patch n).inUse) (refuse .noSuchPatch),
       check (!(s.patch n).mayEdit c) (refuse .notOwner)]
      fun t =>
        let set := t.modPatch n (fun r => { r with shared := value == 1 })
        (set, ok (set.ownershipImage n))

/-- Console c may not take patch n over: B from A while A's link is UP (R38). -/
def State.takeOverBarred (s : State) (c : Console) (n : SlotId) : Bool :=
  c == .B && (s.patch n).owner == some .A && (s.console .A).link == .up

/-- A patch taken over by console c: a change of owner clears the shared flag (R38). -/
def PatchRec.takenBy (r : PatchRec) (c : Console) : PatchRec :=
  if r.owner = some c then r else { r with owner := some c, shared := false }

/-- TAKE OVER (R38). -/
def doTakeOver (c : Console) (k : Nat) (s : State) : State × Response :=
  s.onPatch k (refuse .badArgument) fun n =>
    s.checked
      [check (!(s.patch n).inUse) (refuse .noSuchPatch),
       check (s.takeOverBarred c n) (refuse .notPermitted)]
      fun t =>
        let taken := t.modPatch n (fun r => r.takenBy c)
        (taken, ok (taken.ownershipImage n))

end Sys2Proof.Machine
end

