-- ==== Sys2Proof/Machine/PortCommands.lean ====
section
/-! DEFINITION. The commands on ports: SET PORT, QUERY PORT, CLEAR PORT CONDITIONS (section 1.8), RESERVE PORT and RELEASE PORT
(section 7.5). -/

namespace Sys2Proof.Machine

/-! ### SET PORT -/

/-- The twelve settings as a selection stores them, numeric ones at their limits (R1, R20). -/
def PortSettings.store (c : PortSettings) (sel : PortSelection) : PortSettings where
  kind := storeCode kindOf? sel.kind c.kind
  corPolarity := storeCode polarityOf? sel.corPolarity c.corPolarity
  glitchFilter := storeCode onOff? sel.glitchFilter c.glitchFilter
  qualifyTime := storeUpTo 500 sel.qualifyTime c.qualifyTime
  dropTime := storeUpTo 1000 sel.dropTime c.dropTime
  keyUpDelay := storeUpTo 1000 sel.keyUpDelay c.keyUpDelay
  turnaround := storeUpTo 500 sel.turnaround c.turnaround
  basePriority := storeUpTo 7 sel.basePriority c.basePriority
  transmitSense := storeCode onOff? sel.transmitSense c.transmitSense
  emgMode := storeCode emgModeOf? sel.emgMode c.emgMode
  receiveTrim := storeUpTo Config.maxGain sel.receiveTrim c.receiveTrim
  transmitTrim := storeUpTo Config.maxGain sel.transmitTrim c.transmitTrim

/-- A selected value is above its limit (R20). -/
def PortSelection.clamped (sel : PortSelection) : Bool :=
  clampedBy 500 sel.qualifyTime || clampedBy 1000 sel.dropTime || clampedBy 1000 sel.keyUpDelay || clampedBy 500 sel.turnaround
    || clampedBy 7 sel.basePriority || clampedBy Config.maxGain sel.receiveTrim || clampedBy Config.maxGain sel.transmitTrim

/-- The enumerated settings, each by its place in the table of R1 (R20, R172). -/
def setPortChecks (sel : PortSelection) : List (Option Response) :=
  [check (outside kindOf? sel.kind) (refuseItem .badArgument 1),
   check (outside polarityOf? sel.corPolarity) (refuseItem .badArgument 2),
   check (outside onOff? sel.glitchFilter) (refuseItem .badArgument 3),
   check (outside onOff? sel.transmitSense) (refuseItem .badArgument 9),
   check (outside emgModeOf? sel.emgMode) (refuseItem .badArgument 10)]

/-- A change of kind: the arbiter acts on the carrier-lost of masking that begins, then the keying unit evaluates the port, and then
the carrier-qualified of masking that ended is handed on, unless the evaluation masked the port again (R21, R106; log 11). -/
def State.kindChanges (s : State) (p : PortId) (old : PortKind) : State :=
  if (s.port p).cfg.kind = old then s
  else ((if (s.port p).masked then s.settle else s).evalPort p).settle

/-- A change of COR polarity or of the glitch filter, on the filtered inputs (R6). -/
def State.inputsChange (s : State) (p : PortId) (old : PortRec) : State :=
  let cor :=
    if (s.port p).cfg.corPolarity = old.cfg.corPolarity ∧ (s.port p).cfg.glitchFilter = old.cfg.glitchFilter then s
    else (s.writePort p ((s.port p).conditionCor old.correctedCor)).settle
  if (s.port p).cfg.glitchFilter = old.cfg.glitchFilter then cor else cor.conditionEmg p old.correctedEmg

/-- A change of base priority, reported where it changes the effective priority (R18, R81). -/
def State.baseChanges (s : State) (p : PortId) (old : Nat) : State :=
  if (s.port p).cfg.basePriority = old ∨ (s.port p).emergency = true then s else s.priorityChanged p false

/-- The stored settings handed on: the base priority first, so that every later bid finds the list in order, then the others in the
order of R1 (R21, R70; log 11). old is the record before the command. -/
def State.settingsChange (s : State) (p : PortId) (old : PortRec) : State :=
  ((((s.baseChanges p old.cfg.basePriority).kindChanges p old.cfg.kind).inputsChange p old).updPort p
    (fun r => r.senseChanges old.cfg.transmitSense)).emgModeChanges p old.cfg.emgMode

/-- SET PORT (R20, R21). DESIGN CHOICE (unsafe, log 28): where the port number and an enumerated setting are both outside their ranges,
R20 orders the two checks in no way; here the port number decides, and the refusal names nothing. -/
def doSetPort (k : Nat) (sel : PortSelection) (s : State) : State × Response :=
  s.onPort k (refuse .badArgument) fun p =>
    s.checked (setPortChecks sel) fun t =>
      ((t.updPort p (fun r => { r with cfg := r.cfg.store sel })).settingsChange p (t.port p)).finished
        (fun u => okOrClamped (PortSelection.clamped sel) (u.settingsImage p))

/-! ### QUERY PORT and CLEAR PORT CONDITIONS -/

/-- QUERY PORT (R22). -/
def doQueryPort (k : Nat) (s : State) : State × Response :=
  s.onPort k (refuse .badArgument) fun p => (s, ok (s.portImage p))

/-- The selected conditions cleared together (R23). -/
def PortRec.clearConditions (r : PortRec) (sel : ConditionSelection) : PortRec :=
  { r with
    fault := r.fault && !sel.fault
    emergency := r.emergency && !(sel.emergency && r.cfg.emgMode == .latch)
    lockoutLeft := if sel.lockout then 0 else r.lockoutLeft }

/-- The consequences of a clearing, in the order of R23; old is the record before the command. -/
def State.conditionsClear (s : State) (p : PortId) (old : PortRec) : State :=
  let fallen := if old.emergency && !(s.port p).emergency then s.priorityChanged p false else s
  let expired := if decide (0 < old.lockoutLeft) && (s.port p).lockoutLeft == 0 then fallen.portBidsIfQualified p else fallen
  if old.fault && !(s.port p).fault then expired.evalPort p else expired

/-- CLEAR PORT CONDITIONS (R23, R111). -/
def doClearPortConditions (k : Nat) (sel : ConditionSelection) (s : State) : State × Response :=
  s.onPort k (refuse .badArgument) fun p =>
    ((s.updPort p (fun r => r.clearConditions sel)).conditionsClear p (s.port p)).finished (fun u => ok (u.conditionsImage p))

/-! ### RESERVE PORT and RELEASE PORT -/

/-- The patch of a member port on which a console has no edit permission (R34, R142). -/
def State.forbiddenPatch (s : State) (c : Console) (p : PortId) : Option SlotId :=
  match (s.port p).patch with
  | some n => if (s.patch n).mayEdit c then none else some n
  | none => none

/-- RESERVE PORT (R142, R143). -/
def doReservePort (c : Console) (k : Nat) (s : State) : State × Response :=
  s.onPort k (refuse .badArgument) fun p =>
    if (s.port p).reservedBy = some (otherConsole c) then (s, refuse .portReserved)
    else if (s.port p).reservedBy = some c then (s, ok (s.reservationImage p))
    else match s.forbiddenPatch c p with
      | some n => (s, refusePatch .notOwner (slotNumber n))
      | none => (s.reserve c p).finished (fun u => ok (u.reservationImage p))

/-- RELEASE PORT (R144). -/
def doReleasePort (c : Console) (k : Nat) (s : State) : State × Response :=
  s.onPort k (refuse .badArgument) fun p =>
    if (s.port p).reservedBy = some (otherConsole c) then (s, refuse .notPermitted)
    else if (s.port p).reservedBy = some c then (s.releaseReservation c p).finished (fun u => ok (u.reservationImage p))
    else (s, ok (s.reservationImage p))

end Sys2Proof.Machine
end

