-- ==== Sys2Proof/Machine/PortEvents.lean ====
section
/-! DEFINITION. The events of a port's lines and timers. A timer's expiry acts where the timer is running and changes nothing
where it is not (log 2); while the RESET line is asserted a pin only takes its level and no timer runs (R177; log 20). -/

namespace Sys2Proof.Machine

/-- An event the part takes only while it is not held in reset (R177). -/
def State.whenRunning (s : State) (f : State → State) : State := if s.resetLine then s else f s

/-- A change of a pin: in reset only the pin, otherwise f (R19, R177). -/
def State.pinEvent (s : State) (pin : State → State) (f : State → State) : State := if s.resetLine then pin s else f s

def PortRec.setCorPin (r : PortRec) (l : Level) : PortRec := { r with corPin := l }
def PortRec.setEmgPin (r : PortRec) (l : Level) : PortRec := { r with emgPin := l }
def PortRec.setTxsPin (r : PortRec) (l : Level) : PortRec := { r with txsPin := l }

/-- COR_LINE_CHANGE (R6, R7). -/
def execCorLineChange (p : PortId) (l : Level) (s : State) : Host.Outcome State Fault Refusal :=
  .next (s.pinEvent (fun t => t.setPort p ((t.port p).setCorPin l))
    (fun t => (t.writePort p ((t.port p).corPinTo l)).settle))

/-- EMG_LINE_CHANGE (R6, R16, R17). -/
def execEmgLineChange (p : PortId) (l : Level) (s : State) : Host.Outcome State Fault Refusal :=
  .next (s.pinEvent (fun t => t.setPort p ((t.port p).setEmgPin l))
    (fun t => ((t.setPort p ((t.port p).setEmgPin l)).conditionEmg p (t.port p).correctedEmg).settle))

/-- The hold of an input's filter is running (R6). -/
def PortRec.holdRuns (r : PortRec) : FilterInput → Bool
  | .cor => decide (0 < r.corHold)
  | .emg => decide (0 < r.emgHold)

/-- A filtered input takes its corrected value (R6). -/
def State.filterRunsOut (s : State) (p : PortId) : FilterInput → State
  | .cor => s.corFilterRunsOut p
  | .emg => s.emgFilterRunsOut p

/-- GLITCH_FILTER_EXPIRY (R6, R7, R16, R17). -/
def execGlitchFilterExpiry (p : PortId) (input : FilterInput) (s : State) : Host.Outcome State Fault Refusal :=
  .next (s.whenRunning (fun t => if (t.port p).holdRuns input then (t.filterRunsOut p input).settle else t))

/-- QUALIFY_TIMER_EXPIRY (R7): an expiry finds nothing to do in a state the table of R7 does not list for it. -/
def execQualifyTimerExpiry (p : PortId) (s : State) : Host.Outcome State Fault Refusal :=
  .next (s.whenRunning (fun t => (t.writePort p (t.port p).qualifyExpires).settle))

/-- DROP_TIMER_EXPIRY (R7). -/
def execDropTimerExpiry (p : PortId) (s : State) : Host.Outcome State Fault Refusal :=
  .next (s.whenRunning (fun t => (t.writePort p (t.port p).dropExpires).settle))

/-- GUARD_EXPIRY (R12, R14). -/
def execGuardExpiry (p : PortId) (s : State) : Host.Outcome State Fault Refusal :=
  .next (s.whenRunning (fun t =>
    if 0 < (t.port p).guardLeft then ((t.setPort p { t.port p with guardLeft := 0 }).guardRunsOut p).settle else t))

/-- LOCKOUT_EXPIRY (R15, R123). -/
def execLockoutExpiry (p : PortId) (s : State) : Host.Outcome State Fault Refusal :=
  .next (s.whenRunning (fun t =>
    if 0 < (t.port p).lockoutLeft then ((t.setPort p { t.port p with lockoutLeft := 0 }).portBidsIfQualified p).settle else t))

/-- TXS_CHANGE (R107, R108). -/
def execTxsChange (p : PortId) (l : Level) (s : State) : Host.Outcome State Fault Refusal :=
  .next (s.pinEvent (fun t => t.setPort p ((t.port p).setTxsPin l)) (fun t => t.setPort p ((t.port p).txsTo l)))

/-- KEY_UP_EXPIRY (R100, R112). -/
def execKeyUpExpiry (p : PortId) (s : State) : Host.Outcome State Fault Refusal :=
  .next (s.whenRunning (fun t => (t.keyUpRunsOut p).settle))

/-- The start window of a keyed port is running (R107). -/
def PortRec.startWindowRuns (r : PortRec) : Bool := r.ptt && r.startCheck == .pending && decide (0 < r.startWindow)

/-- START_WINDOW_EXPIRY (R107, R109). -/
def execStartWindowExpiry (p : PortId) (s : State) : Host.Outcome State Fault Refusal :=
  .next (s.whenRunning (fun t => if (t.port p).startWindowRuns then (t.transmitFault p).settle else t))

/-- The loss count of a supervised port is running, its TXS inactive (R108). -/
def PortRec.lossRuns (r : PortRec) : Bool := r.lossSupervised && !r.txsActive && decide (0 < r.lossLeft)

/-- LOSS_EXPIRY (R108, R109). -/
def execLossExpiry (p : PortId) (s : State) : Host.Outcome State Fault Refusal :=
  .next (s.whenRunning (fun t => if (t.port p).lossRuns then (t.transmitFault p).settle else t))

end Sys2Proof.Machine
end

