-- ==== Sys2Proof/Machine/Resets.lean ====
section
/-! DEFINITION. The three kinds of reset (R1, R2, R19, R43, R69, R96, R131, R151, R177 to R179, R184): POWER_ON, the RESET line,
and the reset a RESTART makes. -/

namespace Sys2Proof.Machine

/-- A port's record at a reset, with the settings it keeps or takes; its pins are the world's (R1, R2, R96). -/
def PortRec.atReset (r : PortRec) (cfg : PortSettings) : PortRec :=
  { PortRec.reset with cfg := cfg, corPin := r.corPin, emgPin := r.emgPin, txsPin := r.txsPin }

/-- A console's record at power-on and on the RESET line (R131). -/
def ConsoleRec.atReset (r : ConsoleRec) : ConsoleRec :=
  { ConsoleRec.reset with pttPin := r.pttPin, filteredPtt := Level.isLow r.pttPin }

/-- A console's record after RESTART (R131). -/
def ConsoleRec.atRestart (r : ConsoleRec) : ConsoleRec :=
  { r.atReset with
    supervision := r.supervision
    silence := r.supervision * 1000
    micTrim := r.micTrim
    sidetone := r.sidetone }

/-- The notice unit after RESTART: the mask kept, UNIT RESET pending (R181, R184). -/
def NoticeUnit.atRestart (u : NoticeUnit) : NoticeUnit := { NoticeUnit.reset with mask := u.mask }

def Pair.map {α β : Type} (f : α → β) (x : Pair α) : Pair β := ⟨f x.a, f x.b⟩

/-- Every block at its power-on values; pins, the RESET line and the queue of commands are left (R177). -/
def State.powerOnValues (s : State) : State :=
  { State.reset with
    pending := s.pending
    ports := mapVec (fun r => r.atReset PortSettings.default) s.ports
    consoles := s.consoles.map ConsoleRec.atReset
    resetCause := s.resetCause
    resetLine := s.resetLine
    coldStart := s.coldStart }

/-- Every block at its RESTART values: the settings of ports and consoles and the notice masks are kept (R178). -/
def State.restartValues (s : State) : State :=
  { s.powerOnValues with
    ports := mapVec (fun r => r.atReset r.cfg) s.ports
    consoles := s.consoles.map ConsoleRec.atRestart
    notices := s.notices.map NoticeUnit.atRestart }

/-- While the RESET line is asserted: both pending sets are empty and no alert waits (R177). -/
def State.held (s : State) : State :=
  { s.powerOnValues with
    links := ⟨{ LinkUnit.reset with alertWaiting := false }, { LinkUnit.reset with alertWaiting := false }⟩
    notices := ⟨{ NoticeUnit.reset with entries := [] }, { NoticeUnit.reset with entries := [] }⟩ }

/-- A port line unit takes up its inputs (R19): the filtered inputs equal the corrected ones, an asserted COR is taken as
asserting, and in LEVEL mode an asserted EMG sets the flag. -/
def State.takeUpPort (s : State) (p : PortId) : State :=
  let filtered := s.updPort p (fun r => { r with filteredCor := r.correctedCor, filteredEmg := r.correctedEmg })
  let heard := if (filtered.port p).filteredCor then filtered.writePort p (filtered.port p).corAsserts else filtered
  if (heard.port p).cfg.emgMode = .level ∧ (heard.port p).filteredEmg then heard.emergencySets p else heard

/-- The part takes up its work after a reset (R19). -/
def State.takeUp (s : State) : State := (allPorts.foldl State.takeUpPort s).settle

/-- Power comes up (R177); with the RESET line asserted the part stays in reset until its release. -/
def State.powerUp (s : State) : State :=
  if s.resetLine then { s.held with resetCause := .powerOn, coldStart := true }
  else ({ s.powerOnValues with resetCause := .powerOn, coldStart := false } : State).takeUp

/-- Assertion of the RESET line: the reset takes effect at once (R177). -/
def State.assertReset (s : State) : State := if s.resetLine then s else { s.held with resetLine := true, coldStart := false }

/-- Release of the RESET line (R177). -/
def State.releaseReset (s : State) : State :=
  if s.resetLine then
    ({ s.powerOnValues with
      resetCause := if s.coldStart then .powerOn else .resetLine
      resetLine := false
      coldStart := false } : State).takeUp
  else s

def restartCause : Console → ResetCause
  | .A => .restartA
  | .B => .restartB

/-- The reset of a RESTART takes effect, its cause the console whose RESTART was carried out first (R177, R178). -/
def State.restartTakesEffect (s : State) : State :=
  ({ s.restartValues with resetCause := restartCause (s.restartFirst.getD .A) } : State).takeUp

/-! ### Meanings -/

/-- POWER_ON (R177). -/
def execPowerOn (s : State) : Host.Outcome State Fault Refusal := .next s.powerUp

/-- RESET_LINE_ASSERTED (R177). -/
def execResetLineAsserted (s : State) : Host.Outcome State Fault Refusal := .next s.assertReset

/-- RESET_LINE_RELEASED (R177). -/
def execResetLineReleased (s : State) : Host.Outcome State Fault Refusal := .next s.releaseReset

end Sys2Proof.Machine
end

