-- ==== Sys2Proof/Machine/LinkEvents.lean ====
section
/-! DEFINITION. What a good frame asks for, carried out (R168), and the events of a command link: characters, frames dropped, bad,
timed out or unknown, responses sent, and the alert byte (R165 to R171, R178, R183). -/

namespace Sys2Proof.Machine

/-- The block that owns the records carries the command out (R168). -/
def runRequest (c : Console) : Request → State → State × Response
  | .queryUnit => doQueryUnit
  | .restart => doRestart c
  | .setLink t m => doSetLink c t m
  | .readNotice => doReadNotice c
  | .setPort p sel => doSetPort p sel
  | .queryPort p => doQueryPort p
  | .clearPortConditions p sel => doClearPortConditions p sel
  | .reservePort p => doReservePort c p
  | .releasePort p => doReleasePort c p
  | .createPatch n l ps => doCreatePatch c n l ps
  | .addMembers n ps => doAddMembers c n ps
  | .removeMembers n ps => doRemoveMembers c n ps
  | .moveMember p n => doMoveMember c p n
  | .mergePatches a b => doMergePatches c a b
  | .setPatch n sel => doSetPatch c n sel
  | .dissolve n k => doDissolve c n k
  | .queryPatch n => doQueryPatch n
  | .listPatches => doListPatches
  | .setSharing n v => doSetSharing c n v
  | .takeOver n => doTakeOver c n
  | .setConsole m t => doSetConsole c m t
  | .setListen es => doSetListen c es
  | .setTalkTarget k n => doSetTalkTarget c k n
  | .seize => doSeize c
  | .unseize => doUnseize c

/-- A code not in the command table: the offender is kind 0 (R168, R172). -/
def doUnknown (s : State) : State × Response := (s, refuse .unknownCommand)

/-- A payload of the wrong length names nothing (R168). -/
def doBadLength (s : State) : State × Response := (s, refuse .badArgument)

/-- What a payload asks for, carried out (R168). -/
def runParsed (c : Console) : Parsed → State → State × Response
  | .unknown _ => doUnknown
  | .badLength => doBadLength
  | .request r => runRequest c r

/-! ### The receiving half -/

/-- An opening byte: a frame opens, and one already open is dropped without response (R165). -/
def State.openFrame (s : State) (c : Console) : State := s.modLink c (fun u => { u with rx := Receiver.opened })

/-- A closing byte on an open frame: bad, or good and executed, its payload every stored byte but the last (R166, R168). -/
def State.frameCloses (s : State) (c : Console) : State :=
  match (s.link c).rx.closingFault with
  | some f => s.badFrameCloses c f
  | none => s.goodFrame c (runParsed c (parsePayload (s.link c).rx.stored.dropLast))

/-- A character on the link of console c (R163, R165). -/
def State.hearCharacter (s : State) (c : Console) (ch : LineChar) : State :=
  if ch.data = Config.openByte ∧ ch.error = false then s.openFrame c
  else if (s.link c).rx.isOpen then
    if ch.data = Config.closeByte ∧ ch.error = false then s.frameCloses c
    else s.modLink c (fun u => { u with rx := u.rx.take ch })
  else s

/-- CHARACTER_RECEIVED (R163 to R168). -/
def execCharacterReceived (c : Console) (ch : LineChar) (s : State) : Host.Outcome State Fault Refusal :=
  .next (s.whenRunning (fun t => t.hearCharacter c ch))

/-- PARTIAL_FRAME_DROPPED: a new opening byte (R165; log 22). -/
def execPartialFrameDropped (c : Console) (s : State) : Host.Outcome State Fault Refusal :=
  .next (s.whenRunning (fun t => t.openFrame c))

/-- BAD_FRAME: a frame whose first fault is known closes (R166, R169; log 18). -/
def execBadFrame (c : Console) (reason : FaultReason) (position : Nat) (s : State) : Host.Outcome State Fault Refusal :=
  .next (s.badFrameCloses c ⟨reason, position⟩)

/-- FRAME_TIMEOUT (R167); nothing where no frame is open (log 2). -/
def execFrameTimeout (c : Console) (s : State) : Host.Outcome State Fault Refusal :=
  .next (s.whenRunning (fun t => t.frameTimesOut c))

/-- UNKNOWN_COMMAND (R168). -/
def execUnknownCommand (c : Console) (_code : Nat) (s : State) : Host.Outcome State Fault Refusal :=
  .next (s.goodFrame c doUnknown)

/-! ### The transmitting half -/

/-- RESPONSE_TRANSMISSION_START (R169 to R171; log 14). -/
def execResponseTransmissionStart (c : Console) (s : State) : Host.Outcome State Fault Refusal :=
  .next (s.whenRunning (fun t => t.startResponse c))

/-- The head response has been sent; where it was the last OK of a pending RESTART, the reset takes effect (R169, R178). -/
def State.responseLeaves (s : State) (c : Console) : State :=
  if (s.link c).queue.isEmpty then s
  else if (s.finishResponse c).restartDue then (s.finishResponse c).restartTakesEffect
  else s.finishResponse c

/-- RESPONSE_SENT (R169, R178). -/
def execResponseSent (c : Console) (s : State) : Host.Outcome State Fault Refusal :=
  .next (s.whenRunning (fun t => t.responseLeaves c))

/-- ALERT_BYTE_SENT (R183; log 14). -/
def execAlertByteSent (c : Console) (s : State) : Host.Outcome State Fault Refusal :=
  .next (s.whenRunning (fun t => t.sendAlert c))

end Sys2Proof.Machine
end

