-- ==== Sys2Proof/Machine/Commands.lean ====
section
/-! DEFINITION. The meanings of the command rows: the closing, on the link of console c, of a good frame that carries the command
(R166, R168, R169; log 18). -/

namespace Sys2Proof.Machine

/-- QUERY_UNIT (R177). -/
def execQueryUnit (c : Console) (s : State) : Host.Outcome State Fault Refusal :=
  .next (s.goodFrame c doQueryUnit)

/-- RESTART (R178). -/
def execRestart (c : Console) (s : State) : Host.Outcome State Fault Refusal :=
  .next (s.goodFrame c (doRestart c))

/-- SET_LINK (R179, R181). -/
def execSetLink (c : Console) (supervision : Option Nat) (mask : Option Byte) (s : State) : Host.Outcome State Fault Refusal :=
  .next (s.goodFrame c (doSetLink c supervision mask))

/-- READ_NOTICE (R182). -/
def execReadNotice (c : Console) (s : State) : Host.Outcome State Fault Refusal :=
  .next (s.goodFrame c (doReadNotice c))

/-- SET_PORT (R20, R21). -/
def execSetPort (c : Console) (port : Nat) (sel : PortSelection) (s : State) : Host.Outcome State Fault Refusal :=
  .next (s.goodFrame c (doSetPort port sel))

/-- QUERY_PORT (R22, R174). -/
def execQueryPort (c : Console) (port : Nat) (s : State) : Host.Outcome State Fault Refusal :=
  .next (s.goodFrame c (doQueryPort port))

/-- CLEAR_PORT_CONDITIONS (R23, R111). -/
def execClearPortConditions (c : Console) (port : Nat) (sel : ConditionSelection) (s : State) : Host.Outcome State Fault Refusal :=
  .next (s.goodFrame c (doClearPortConditions port sel))

/-- RESERVE_PORT (R142, R143). -/
def execReservePort (c : Console) (port : Nat) (s : State) : Host.Outcome State Fault Refusal :=
  .next (s.goodFrame c (doReservePort c port))

/-- RELEASE_PORT (R144). -/
def execReleasePort (c : Console) (port : Nat) (s : State) : Host.Outcome State Fault Refusal :=
  .next (s.goodFrame c (doReleasePort c port))

/-- CREATE_PATCH (R49, R50). -/
def execCreatePatch (c : Console) (slot : Nat) (label : List Byte) (ports : List Nat) (s : State) : Host.Outcome State Fault Refusal :=
  .next (s.goodFrame c (doCreatePatch c slot label ports))

/-- ADD_MEMBERS (R51, R52). -/
def execAddMembers (c : Console) (patch : Nat) (ports : List Nat) (s : State) : Host.Outcome State Fault Refusal :=
  .next (s.goodFrame c (doAddMembers c patch ports))

/-- REMOVE_MEMBERS (R53, R54). -/
def execRemoveMembers (c : Console) (patch : Nat) (ports : List Nat) (s : State) : Host.Outcome State Fault Refusal :=
  .next (s.goodFrame c (doRemoveMembers c patch ports))

/-- MOVE_MEMBER (R55, R56). -/
def execMoveMember (c : Console) (port dest : Nat) (s : State) : Host.Outcome State Fault Refusal :=
  .next (s.goodFrame c (doMoveMember c port dest))

/-- MERGE_PATCHES (R57 to R60). -/
def execMergePatches (c : Console) (survivor absorbed : Nat) (s : State) : Host.Outcome State Fault Refusal :=
  .next (s.goodFrame c (doMergePatches c survivor absorbed))

/-- SET_PATCH (R61, R62). -/
def execSetPatch (c : Console) (patch : Nat) (sel : PatchSelection) (s : State) : Host.Outcome State Fault Refusal :=
  .next (s.goodFrame c (doSetPatch c patch sel))

/-- DISSOLVE_NOW (R63, R65, R66). -/
def execDissolveNow (c : Console) (patch : Nat) (s : State) : Host.Outcome State Fault Refusal :=
  .next (s.goodFrame c (doDissolve c patch 0))

/-- DISSOLVE_WHEN_CLEAR (R63, R64). -/
def execDissolveWhenClear (c : Console) (patch : Nat) (s : State) : Host.Outcome State Fault Refusal :=
  .next (s.goodFrame c (doDissolve c patch 1))

/-- QUERY_PATCH (R41, R175). -/
def execQueryPatch (c : Console) (patch : Nat) (s : State) : Host.Outcome State Fault Refusal :=
  .next (s.goodFrame c (doQueryPatch patch))

/-- LIST_PATCHES (R42). -/
def execListPatches (c : Console) (s : State) : Host.Outcome State Fault Refusal :=
  .next (s.goodFrame c doListPatches)

/-- SET_SHARING (R36). -/
def execSetSharing (c : Console) (patch value : Nat) (s : State) : Host.Outcome State Fault Refusal :=
  .next (s.goodFrame c (doSetSharing c patch value))

/-- TAKE_OVER (R38). -/
def execTakeOver (c : Console) (patch : Nat) (s : State) : Host.Outcome State Fault Refusal :=
  .next (s.goodFrame c (doTakeOver c patch))

/-- SET_CONSOLE (R139). -/
def execSetConsole (c : Console) (micTrim sidetone : Option Nat) (s : State) : Host.Outcome State Fault Refusal :=
  .next (s.goodFrame c (doSetConsole c micTrim sidetone))

/-- SET_LISTEN (R140). -/
def execSetListen (c : Console) (entries : List ListenArg) (s : State) : Host.Outcome State Fault Refusal :=
  .next (s.goodFrame c (doSetListen c entries))

/-- SET_TALK_TARGET (R137, R138). -/
def execSetTalkTarget (c : Console) (kind number : Nat) (s : State) : Host.Outcome State Fault Refusal :=
  .next (s.goodFrame c (doSetTalkTarget c kind number))

/-- SEIZE (R135, R138). -/
def execSeize (c : Console) (s : State) : Host.Outcome State Fault Refusal :=
  .next (s.goodFrame c (doSeize c))

/-- UNSEIZE (R136, R138). -/
def execUnseize (c : Console) (s : State) : Host.Outcome State Fault Refusal :=
  .next (s.goodFrame c (doUnseize c))

end Sys2Proof.Machine
end

