-- ==== Sys2Proof/Machine/ConsoleEvents.lean ====
section
/-! DEFINITION. The events of a console position: its PTT line and its filter (R132, R133), and its silence (R145, R146). -/

namespace Sys2Proof.Machine

/-- The PTT pin takes a level. -/
def ConsoleRec.setPttPin (r : ConsoleRec) (l : Level) : ConsoleRec := { r with pttPin := l }

/-- The PTT pin takes a level and the 3 ms hold starts, ends or runs on (R132). -/
def ConsoleRec.pttTo (r : ConsoleRec) (l : Level) : ConsoleRec :=
  { r with pttPin := l, pttHold := holdAfter (Level.isLow r.pttPin != Level.isLow l) (Level.isLow l) r.filteredPtt r.pttHold }

/-- CONSOLE_PTT_LINE_CHANGE (R132). -/
def execConsolePttLineChange (c : Console) (l : Level) (s : State) : Host.Outcome State Fault Refusal :=
  .next (s.pinEvent (fun t => t.modConsole c (fun r => r.setPttPin l)) (fun t => t.modConsole c (fun r => r.pttTo l)))

/-- PTT_FILTER_EXPIRY (R132, R133). -/
def execPttFilterExpiry (c : Console) (s : State) : Host.Outcome State Fault Refusal :=
  .next (s.whenRunning (fun t => if 0 < (t.console c).pttHold then (t.pttFilterRunsOut c).settle else t))

/-- The silence of an UP link under supervision has run out: the link is lost (R145, R146). A silence at its whole supervision time
has just been restarted by a valid frame, which keeps the link UP (R148; log 2). -/
def State.silenceRunsOut (s : State) (c : Console) : State :=
  if (s.console c).link = .up ∧ (s.console c).silence < (s.console c).supervision * 1000 then
    (s.modConsole c (fun r => { r with silence := 0 })).linkLost c
  else s

/-- SILENCE_EXPIRY (R145, R146). -/
def execSilenceExpiry (c : Console) (s : State) : Host.Outcome State Fault Refusal :=
  .next (s.whenRunning (fun t => (t.silenceRunsOut c).settle))

end Sys2Proof.Machine
end

