-- ==== Sys2Proof/Machine/Mixer.lean ====
section
/-! DEFINITION. The mixer (chapter 8): gains composed (R152, R153), terms, exact sums and the one limit of a slot (R154), the output
slots of ports (R156 to R158) and of consoles (R159 to R161), and AUDIO_FRAME (R150). -/

namespace Sys2Proof.Machine

/-! ### Gains, terms and the limit -/

/-- Two gains combined (R152). -/
def compose (a b : Nat) : Nat := min Config.maxGain ((a * b + 128) / 256)

/-- One source's contribution: x times g, plus 128, divided by 256 and rounded down (R154). -/
def term (x : Sample) (g : Nat) : Int := (x.toInt * (g : Int) + 128) / 256

/-- The one limit of an output slot (R154). -/
def limitSum (v : Int) : Int := max (-32768) (min 32767 v)

/-- The sample sent for a list of terms: their exact sum, limited once (R154). -/
def slotSample (terms : List Int) : Sample := BitVec.ofInt 16 (limitSum terms.sum)

/-! ### The sources of a frame -/

/-- The slot a source's samples arrive in: ports 0..15, the consoles 16 and 17 (R149). -/
def sourceSlot : Source → Fin 18
  | .port p => ⟨p.val, by omega⟩
  | .console .A => 16
  | .console .B => 17

/-- The held input sample of a source (R149, R150). -/
def State.sample (s : State) (src : Source) : Sample := s.inputs[(sourceSlot src).val]

/-- The gain of a source's own input: receive trim or microphone trim (R153). -/
def State.sourceTrim (s : State) : Source → Nat
  | .port p => (s.port p).cfg.receiveTrim
  | .console c => (s.console c).micTrim

/-- The sources a patch carries: its talker, then its mix partner (R157, R159). -/
def PatchRec.sources (r : PatchRec) : List Source := r.talker.toList ++ (r.partner.map Source.console).toList

/-! ### Port output slots -/

/-- The path from a source of patch n into relay port d (R153, first two rows). -/
def State.relayGain (s : State) (n : SlotId) (d : PortId) (src : Source) : Nat :=
  compose (compose (s.sourceTrim src) (s.port d).cfg.transmitTrim) (s.patch n).level

/-- A port in RELAY: its patch's talker term and partner term (R156, R157). -/
def State.relayTerms (s : State) (d : PortId) : List Int :=
  match (s.port d).patch with
  | some n => (s.patch n).sources.map (fun src => term (s.sample src) (s.relayGain n d src))
  | none => []

/-- A port in PARKED-RELAY: the microphone term of its reserving console (R156, R158). -/
def State.parkedTerms (s : State) (d : PortId) : List Int :=
  match (s.port d).reservedBy with
  | some c => [term (s.sample (.console c)) (compose (s.console c).micTrim (s.port d).cfg.transmitTrim)]
  | none => []

/-- The terms of a port's output slot (R156). -/
def State.portTerms (s : State) (d : PortId) : List Int :=
  match (s.port d).state with
  | .relay => s.relayTerms d
  | .parkedRelay => s.parkedTerms d
  | .detached | .idle | .talker | .parked | .keyUp | .parkedKeyUp => []

/-! ### Console output slots -/

/-- The terms of one listen entry: the patch's talker and partner but for the listening console itself (R159). -/
def State.listenTerms (s : State) (c : Console) (e : ListenEntry) : List Int :=
  ((s.patch e.patch).sources.filter (fun src => src != .console c)).map
    (fun src => term (s.sample src) (compose (s.sourceTrim src) e.level))

/-- The term of each reserved port whose carrier is qualified (R160). -/
def State.reservedTerms (s : State) (c : Console) : List Int :=
  ((s.reservedPorts c).filter (fun p => (s.port p).qualified)).map
    (fun p => term (s.sample (.port p)) (s.port p).cfg.receiveTrim)

/-- The console is talker or mix partner of some patch, or the port its target names is in PARKED-RELAY (R160). -/
def State.onAir (s : State) (c : Console) : Bool :=
  allSlots.any (fun n => (s.patch n).sources.contains (.console c)) ||
    (match (s.console c).target with
      | .port p => (s.port p).state == .parkedRelay
      | .none | .patch _ => false)

/-- The sidetone term (R160). -/
def State.sidetoneTerms (s : State) (c : Console) : List Int :=
  if s.onAir c then [term (s.sample (.console c)) (s.console c).sidetone] else []

/-- The terms of a console's output slot (R159 to R161). -/
def State.consoleTerms (s : State) (c : Console) : List Int :=
  (s.console c).listen.flatMap (s.listenTerms c) ++ s.reservedTerms c ++ s.sidetoneTerms c

/-! ### The frame -/

/-- The samples of the eighteen output slots, in slot order (R149, R156 to R161). -/
def State.mixed (s : State) : List Sample :=
  allPorts.map (fun d => slotSample (s.portTerms d)) ++ [slotSample (s.consoleTerms .A), slotSample (s.consoleTerms .B)]

theorem State.mixed_length (s : State) : s.mixed.length = 18 := rfl

/-- At a frame sync: the samples of the frame just ended are taken, and every output slot computed from one view of the records
(R150). -/
def State.frame (s : State) (samples : Vector Sample 18) : State :=
  let taken := { s with inputs := samples }
  { taken with outputs := ⟨⟨taken.mixed⟩, taken.mixed_length⟩ }

/-- AUDIO_FRAME (R149 to R161); in reset every output slot carries 0 (R151, R177; log 20). -/
def execAudioFrame (samples : Vector Sample 18) (s : State) : Host.Outcome State Fault Refusal :=
  .next (s.whenRunning (fun t => t.frame samples))

end Sys2Proof.Machine
end

