-- ==== Sys2Proof/Machine/PatchEvents.lean ====
section
/-! DEFINITION. The timers of a patch: the end of a hang (R93) and the time-out of a port talker (R118 to R120). An expiry acts where
its timer is running, a time-out only where the count is at its limit, and changes nothing elsewhere (log 2). -/

namespace Sys2Proof.Machine

/-- HANG_EXPIRY (R92, R93, R102). -/
def execHangExpiry (n : SlotId) (s : State) : Host.Outcome State Fault Refusal :=
  .next (s.whenRunning (fun t => (t.hangRunsOut n).settle))

/-- Talk elapsed reaches a limit in force above 0 while a port talks (R116 to R118): the millisecond the row stands for is the one in
which the count of the present talker comes to the limit. A count that stopped, or began again with another talker, is not there
yet, and there is no time-out (R126; log 2). -/
def State.reachesLimit (s : State) (n : SlotId) : State :=
  match (s.patch n).portTalker, (s.patch n).limit with
  | some t, some limit =>
    if 0 < limit ∧ limit ≤ (s.patch n).elapsed + 1 then (s.modPatch n (fun r => { r with elapsed := limit })).timesOut n t else s
  | _, _ => s

/-- TIME_OUT (R116 to R120). -/
def execTimeOut (n : SlotId) (s : State) : Host.Outcome State Fault Refusal :=
  .next (s.whenRunning (fun t => (t.reachesLimit n).settle))

end Sys2Proof.Machine
end

