-- ==== Sys2Proof/Machine/Dispatch.lean ====
section
/-! DEFINITION. The dispatch of a command to its meaning: one arm per constructor of Instr, in the table's order of Syntax.lean. -/

namespace Sys2Proof.Machine

/-- The effect of a command on everything but the queue of commands. -/
def exec (i : Instr) (s : State) : Host.Outcome State Fault Refusal :=
  match i with
  | .powerOn => Sys2Proof.Machine.execPowerOn s
  | .resetLineAsserted => Sys2Proof.Machine.execResetLineAsserted s
  | .resetLineReleased => Sys2Proof.Machine.execResetLineReleased s
  | .corLineChange p l => Sys2Proof.Machine.execCorLineChange p l s
  | .emgLineChange p l => Sys2Proof.Machine.execEmgLineChange p l s
  | .glitchFilterExpiry p input => Sys2Proof.Machine.execGlitchFilterExpiry p input s
  | .qualifyTimerExpiry p => Sys2Proof.Machine.execQualifyTimerExpiry p s
  | .dropTimerExpiry p => Sys2Proof.Machine.execDropTimerExpiry p s
  | .guardExpiry p => Sys2Proof.Machine.execGuardExpiry p s
  | .lockoutExpiry p => Sys2Proof.Machine.execLockoutExpiry p s
  | .txsChange p l => Sys2Proof.Machine.execTxsChange p l s
  | .keyUpExpiry p => Sys2Proof.Machine.execKeyUpExpiry p s
  | .startWindowExpiry p => Sys2Proof.Machine.execStartWindowExpiry p s
  | .lossExpiry p => Sys2Proof.Machine.execLossExpiry p s
  | .hangExpiry n => Sys2Proof.Machine.execHangExpiry n s
  | .timeOut n => Sys2Proof.Machine.execTimeOut n s
  | .consolePttLineChange c l => Sys2Proof.Machine.execConsolePttLineChange c l s
  | .pttFilterExpiry c => Sys2Proof.Machine.execPttFilterExpiry c s
  | .silenceExpiry c => Sys2Proof.Machine.execSilenceExpiry c s
  | .alertByteSent c => Sys2Proof.Machine.execAlertByteSent c s
  | .audioFrame samples => Sys2Proof.Machine.execAudioFrame samples s
  | .partialFrameDropped c => Sys2Proof.Machine.execPartialFrameDropped c s
  | .badFrame c reason position => Sys2Proof.Machine.execBadFrame c reason position s
  | .frameTimeout c => Sys2Proof.Machine.execFrameTimeout c s
  | .unknownCommand c code => Sys2Proof.Machine.execUnknownCommand c code s
  | .responseTransmissionStart c => Sys2Proof.Machine.execResponseTransmissionStart c s
  | .responseSent c => Sys2Proof.Machine.execResponseSent c s
  | .queryUnit c => Sys2Proof.Machine.execQueryUnit c s
  | .restart c => Sys2Proof.Machine.execRestart c s
  | .setLink c supervision mask => Sys2Proof.Machine.execSetLink c supervision mask s
  | .readNotice c => Sys2Proof.Machine.execReadNotice c s
  | .setPort c port sel => Sys2Proof.Machine.execSetPort c port sel s
  | .queryPort c port => Sys2Proof.Machine.execQueryPort c port s
  | .clearPortConditions c port sel => Sys2Proof.Machine.execClearPortConditions c port sel s
  | .reservePort c port => Sys2Proof.Machine.execReservePort c port s
  | .releasePort c port => Sys2Proof.Machine.execReleasePort c port s
  | .createPatch c slot label ports => Sys2Proof.Machine.execCreatePatch c slot label ports s
  | .addMembers c patch ports => Sys2Proof.Machine.execAddMembers c patch ports s
  | .removeMembers c patch ports => Sys2Proof.Machine.execRemoveMembers c patch ports s
  | .moveMember c port dest => Sys2Proof.Machine.execMoveMember c port dest s
  | .mergePatches c survivor absorbed => Sys2Proof.Machine.execMergePatches c survivor absorbed s
  | .setPatch c patch sel => Sys2Proof.Machine.execSetPatch c patch sel s
  | .dissolveNow c patch => Sys2Proof.Machine.execDissolveNow c patch s
  | .dissolveWhenClear c patch => Sys2Proof.Machine.execDissolveWhenClear c patch s
  | .queryPatch c patch => Sys2Proof.Machine.execQueryPatch c patch s
  | .listPatches c => Sys2Proof.Machine.execListPatches c s
  | .setSharing c patch value => Sys2Proof.Machine.execSetSharing c patch value s
  | .takeOver c patch => Sys2Proof.Machine.execTakeOver c patch s
  | .setConsole c micTrim sidetone => Sys2Proof.Machine.execSetConsole c micTrim sidetone s
  | .setListen c entries => Sys2Proof.Machine.execSetListen c entries s
  | .setTalkTarget c kind number => Sys2Proof.Machine.execSetTalkTarget c kind number s
  | .seize c => Sys2Proof.Machine.execSeize c s
  | .unseize c => Sys2Proof.Machine.execUnseize c s
  | .characterReceived c ch => Sys2Proof.Machine.execCharacterReceived c ch s

end Sys2Proof.Machine
end

