-- ==== Sys2Proof/Machine/Timebase.lean ====
section
/-! DEFINITION. One millisecond of the 1 ms timebase (00, Conventions: Time), which passes when no command waits (DESIGN CHOICE, log 1):
every running timer counts, and then those that have run out act, one after the other in a fixed order. -/

namespace Sys2Proof.Machine

/-! ### Counting (R6, R7, R14, R15, R92, R96, R107, R108, R116, R132, R145, R167) -/

/-- The timers of a port. -/
def PortRec.tick (r : PortRec) : PortRec :=
  { r with
    corHold := r.corHold - 1
    emgHold := r.emgHold - 1
    qualifyLeft := r.qualifyLeft - 1
    dropLeft := r.dropLeft - 1
    guardLeft := r.guardLeft - 1
    lockoutLeft := r.lockoutLeft - 1
    keyUpLeft := r.keyUpLeft - 1
    startWindow := r.startWindow - 1
    lossLeft := r.lossLeft - 1 }

/-- The hang of a patch in HANG, and the talk elapsed of a port talker, up to its bound (R92, R116). -/
def PatchRec.tick (r : PatchRec) : PatchRec :=
  { r with
    hangLeft := if r.state = .hang then r.hangLeft - 1 else r.hangLeft
    elapsed := if r.portTalker.isSome then min (r.elapsed + 1) Config.maxElapsed else r.elapsed }

/-- The PTT hold and, under supervision, the silence of a console (R132, R145). -/
def ConsoleRec.tick (r : ConsoleRec) : ConsoleRec :=
  { r with pttHold := r.pttHold - 1, silence := if 0 < r.supervision then r.silence - 1 else r.silence }

/-- The 100 ms of an open frame (R167). -/
def LinkUnit.tick (u : LinkUnit) : LinkUnit := { u with rx := { u.rx with timeLeft := u.rx.timeLeft - 1 } }

/-- Every running timer counts one millisecond. -/
def State.count (s : State) : State :=
  { s with
    ports := mapVec PortRec.tick s.ports
    patches := mapVec PatchRec.tick s.patches
    consoles := s.consoles.map ConsoleRec.tick
    links := s.links.map LinkUnit.tick }

/-! ### Running out. old is the state before the millisecond: a timer that stood at 1 there, and still stands at 0, has run out. -/

/-- The timer stood at 1, and stands at 0. -/
def ranOut (before now : Nat) : Bool := before == 1 && now == 0

/-- One timer's action, where it is due. -/
def State.due (s : State) (runs : Bool) (f : State → State) : State := if runs then f s else s

/-- The guard of port p runs out in this millisecond (R14). -/
def State.guardDue (old s : State) (p : PortId) : Bool := ranOut (old.port p).guardLeft (s.port p).guardLeft

/-- The filtered COR takes the corrected COR; a machine whose guard runs out in the same millisecond hears it as the guard ends
(R10, R12). -/
def State.corFilterDue (old s : State) (p : PortId) : State :=
  if State.guardDue old s p then s.setPort p { s.port p with filteredCor := (s.port p).correctedCor, corHold := 0 }
  else s.corFilterRunsOut p

/-- The timers of the carrier machine of port p that have run out: the COR filter and the qualify and drop timers. What they raise is
handed on when every port's machine has acted, so that carriers that qualify in one millisecond report together (R94; log 1). -/
def State.carrierTimers (old s : State) (p : PortId) : State :=
  let before := old.port p
  let s := s.due (ranOut before.corHold (s.port p).corHold && (s.port p).correctedCor != (s.port p).filteredCor)
    (fun t => State.corFilterDue old t p)
  let s := s.due (ranOut before.qualifyLeft (s.port p).qualifyLeft) (fun t => t.writePort p (t.port p).qualifyExpires)
  s.due (ranOut before.dropLeft (s.port p).dropLeft) (fun t => t.writePort p (t.port p).dropExpires)

/-- The guard of port p that has run out. It acts after every other timer, so that a port keyed in the same millisecond stays CLEAR
with nothing reported (R13, last row; log 1). -/
def State.guardTimers (old s : State) (p : PortId) : State := s.due (State.guardDue old s p) (fun t => t.guardRunsOut p)

/-- The other timers of port p that have run out, each an action of its own: the EMG filter, the lockout, the key-up, the start
window and the loss count. -/
def State.portTimers (old s : State) (p : PortId) : State :=
  let before := old.port p
  let s := s.due (ranOut before.emgHold (s.port p).emgHold && (s.port p).correctedEmg != (s.port p).filteredEmg)
    (fun t => (t.emgFilterRunsOut p).settle)
  let s := s.due (ranOut before.lockoutLeft (s.port p).lockoutLeft) (fun t => (t.portBidsIfQualified p).settle)
  let s := s.due (ranOut before.keyUpLeft (s.port p).keyUpLeft) (fun t => (t.keyUpRunsOut p).settle)
  let s := s.due (ranOut before.startWindow (s.port p).startWindow && (s.port p).ptt && (s.port p).startCheck == .pending)
    (fun t => (t.transmitFault p).settle)
  s.due (ranOut before.lossLeft (s.port p).lossLeft && (s.port p).lossSupervised && !(s.port p).txsActive)
    (fun t => (t.transmitFault p).settle)

/-- Talk elapsed has reached a limit in force above 0 (R118). -/
def PatchRec.limitReached (r : PatchRec) : Bool := r.limit.any (fun limit => decide (0 < limit) && decide (limit ≤ r.elapsed))

/-- The timers of patch n that have run out. -/
def State.patchTimers (old s : State) (n : SlotId) : State :=
  let s := s.due (ranOut (old.patch n).hangLeft (s.patch n).hangLeft) (fun t => (t.hangRunsOut n).settle)
  match (s.patch n).portTalker with
  | some t => s.due (s.patch n).limitReached (fun u => (u.timesOut n t).settle)
  | none => s

/-- The timers of console c and its link that have run out. -/
def State.consoleTimers (old s : State) (c : Console) : State :=
  let s := s.due (ranOut (old.console c).pttHold (s.console c).pttHold) (fun t => (t.pttFilterRunsOut c).settle)
  let s := s.due (ranOut (old.console c).silence (s.console c).silence) (fun t => (t.silenceRunsOut c).settle)
  s.due (ranOut (old.link c).rx.timeLeft (s.link c).rx.timeLeft) (fun t => t.frameTimesOut c)

/-- One millisecond passes; while the RESET line is asserted no timer runs (R177). -/
def State.tick (s : State) : State :=
  if s.resetLine then s
  else
    let heard := (allPorts.foldl (State.carrierTimers s) s.count).settle
    let ported := allPorts.foldl (State.portTimers s) heard
    let patched := allSlots.foldl (State.patchTimers s) ported
    let timed := State.consoleTimers s (State.consoleTimers s patched .A) .B
    (allPorts.foldl (State.guardTimers s) timed).settle

end Sys2Proof.Machine
end

