-- ==== Sys2Proof/Safety.lean ====
section
/-! DEFINITION. What statements about the part are made of: the parts of a record that traffic leaves alone, what a link and a
pending set are bounded by, the ranges of the settings, and the invariants a step keeps. -/

namespace Sys2Proof.Machine

/-! ### When a row is taken, and how a command's answer stands in State -/

/-- The part runs, the link has room for a response, and no RESTART is pending on it (R168, R169, R177, R178). -/
abbrev State.readyFor (s : State) (c : Console) : Prop :=
  s.resetLine = false ∧ (s.link c).queue.length < 4 ∧ (s.link c).restartPending = false

/-- A good frame has closed on the link of console c: outside a frame, link UP, silence restarted (R145, R147, R166). -/
abbrev State.heard (s : State) (c : Console) : State := (s.closeFrame c).linkHeard c

/-- A response stands at the tail of the queue of console c (R169). -/
abbrev State.replied (s : State) (c : Console) (r : Response) : State :=
  s.modLink c (fun u => { u with queue := u.queue ++ [r] })

/-- The state after a list of commands, each run as exec says; none where one of them does not complete. -/
def State.after (s : State) : List Instr → Option State
  | [] => some s
  | i :: is =>
    match exec i s with
    | .next t => t.after is
    | .fault _ => none
    | .refused _ => none

/-- Selections of SET PORT and SET PATCH that mark no item (R173). -/
def noPortItem : PortSelection := ⟨none, none, none, none, none, none, none, none, none, none, none, none⟩
def noPatchItem : PatchSelection := ⟨none, none, none, none, none, none, none, none⟩

/-! ### The tables of chapter 1 and of R97, written out beside the model's own operations -/

/-- The table of R7 with R8 for a change of the filtered COR, on an unmasked machine. -/
def PortRec.corTable (r : PortRec) (asserted : Bool) : PortRec :=
  match r.carrier, asserted with
  | .clear, true =>
    if r.cfg.qualifyTime = 0 then { r with carrier := .present }
    else { r with carrier := .qualifying, qualifyLeft := r.cfg.qualifyTime }
  | .qualifying, false => { r with carrier := .clear, qualifyLeft := 0 }
  | .present, false =>
    if r.cfg.dropTime = 0 then { r with carrier := .clear } else { r with carrier := .dropping, dropLeft := r.cfg.dropTime }
  | .dropping, true => { r with carrier := .present, dropLeft := 0 }
  | .clear, false | .qualifying, true | .present, true | .dropping, false => r

/-- The filtered COR takes the corrected COR, and an unmasked machine moves by R7 and R8 where that is a change (R6, R10). -/
def PortRec.corTaken (r : PortRec) : PortRec :=
  let taken : PortRec := { r with filteredCor := r.correctedCor, corHold := 0 }
  if r.correctedCor = r.filteredCor ∨ r.masked = true then taken else taken.corTable r.correctedCor

/-- A port right after a reset with settings cfg, its inputs taken up as they stand (R2, R19, R96; log 25). -/
def PortRec.afterReset (r : PortRec) (cfg : PortSettings) : PortRec :=
  let q : PortRec := { PortRec.reset with cfg := cfg, corPin := r.corPin, emgPin := r.emgPin, txsPin := r.txsPin }
  { q with
    filteredCor := q.correctedCor
    filteredEmg := q.correctedEmg
    carrier := if !q.correctedCor then .clear else if cfg.qualifyTime = 0 then .present else .qualifying
    qualifyLeft := if q.correctedCor then cfg.qualifyTime else 0
    emergency := cfg.emgMode == .level && q.correctedEmg }

/-- Supervision as it stands in a port that is not keyed (R96). -/
def PortRec.unsupervised (r : PortRec) : PortRec :=
  { r with keyUpLeft := 0, startWindow := 0, startCheck := .pending, lossLeft := 0 }

/-- Member q of LIVE patch n is eligible once the patch is in TALK with an empty bid list and another talker (R97). -/
abbrev State.mayRelay (s : State) (n : SlotId) (q : PortId) : Prop :=
  (s.patch n).mode = .live ∧ (s.port q).cfg.kind ≠ .listenOnly ∧ (s.port q).isParked = false ∧ (s.port q).fault = false ∧
    ((s.port q).cfg.kind = .half → (s.port q).qualified = false)

/-- Nobody talks in patch n: QUIET with no member keyed, or HANG with its keyed members fit to stay keyed in the next talk, and no
talker, partner or bid (R26, R92, R102). -/
abbrev State.nobodyTalks (s : State) (n : SlotId) : Prop :=
  ((s.patch n).state = .quiet ∨ (s.patch n).state = .hang) ∧ (s.patch n).talker = none ∧ (s.patch n).partner = none ∧
    (s.patch n).bids = [] ∧ (s.patch n).members.Nodup ∧
    ∀ q ∈ (s.patch n).members, (s.port q).inRelaySet = true → (s.patch n).state = .hang ∧ s.mayRelay n q

/-- Source src talks alone in patch n, with nobody to follow it and every keyed member fit to be held (R84, R85, R102). -/
abbrev State.talksAlone (s : State) (n : SlotId) (src : Source) : Prop :=
  (s.patch n).state = .talk ∧ (s.patch n).talker = some src ∧ (s.patch n).partner = none ∧ (s.patch n).bids = [] ∧
    ∀ q ∈ (s.patch n).members, (s.port q).inRelaySet = true →
      (s.patch n).mode = .live ∧ (s.port q).cfg.kind ≠ .listenOnly ∧ (s.port q).fault = false

/-- What a grant on a patch in which nobody talks leaves (R77, R78, R98, R99, R117): src talks, timed if it is a port, the count begun
again and no hang remaining; every other member that may relay and is not keyed yet is keyed; and every other port, those already keyed
among them, and every other patch stands. -/
abbrev State.grantedTo (s t : State) (n : SlotId) (src : Source) : Prop :=
  t.patch n = { s.patch n with
    state := .talk, talker := some src, hangLeft := 0, elapsed := 0
    limit := match src with
      | .port _ => some ((s.patch n).timeOutLimit * 1000)
      | .console _ => none } ∧
  (∀ m, m ≠ n → t.patch m = s.patch m) ∧
  (∀ q, src ≠ .port q → q ∈ (s.patch n).members → s.mayRelay n q → (s.port q).inRelaySet = false →
    (t.port q).state = (if (s.port q).cfg.keyUpDelay = 0 then .relay else .keyUp) ∧
    (t.port q).keyUpLeft = (s.port q).cfg.keyUpDelay) ∧
  (∀ q, src ≠ .port q → ¬(q ∈ (s.patch n).members ∧ s.mayRelay n q ∧ (s.port q).inRelaySet = false) → t.port q = s.port q) ∧
  (∀ c, t.console c = s.console c) ∧
  (∀ c, t.notice c = (s.notice c).offer ⟨.floorChange, slotNumber n⟩)

/-- Every keyed member of patch n has its carrier CLEAR, no carrier timer running and a turnaround time above 0, so that keying and
unkeying it raises no carrier event (R11, R12). -/
abbrev State.keyedQuietly (s : State) (n : SlotId) : Prop :=
  ∀ q ∈ (s.patch n).members, (s.port q).inRelaySet = true →
    (s.port q).carrier = .clear ∧ (s.port q).qualifyLeft = 0 ∧ (s.port q).dropLeft = 0 ∧ 0 < (s.port q).cfg.turnaround

/-- A parked port keyed for its console, its carrier machine masked and its supervision begun (R11, R107, R112). -/
def PortRec.consoleKeyed (r : PortRec) : PortRec :=
  { r with
    state := if r.cfg.keyUpDelay = 0 then .parkedRelay else .parkedKeyUp
    keyUpLeft := r.cfg.keyUpDelay
    startCheck := if r.cfg.transmitSense = true ∧ r.txsPin = .low then .passed else .pending
    startWindow := if r.cfg.transmitSense = true ∧ r.txsPin = .high then r.cfg.keyUpDelay + 250 else 0
    lossLeft := 0
    carrier := .clear
    qualifyLeft := 0
    dropLeft := 0 }

/-- A port that was keyed for its console, PARKED with its guard; with a turnaround time of 0 masking ends, and an asserted filtered
COR is taken (R12, R101, R113). -/
def PortRec.consoleUnkeyed (r : PortRec) : PortRec :=
  let parked : PortRec := { r.unsupervised with state := .parked, guardLeft := r.cfg.turnaround }
  if 0 < r.cfg.turnaround ∨ r.filteredCor = false then parked else parked.corTable true

/-- Port p is PARKED for console c and fit to be keyed for it, out of the traffic of its patch, and CLEAR if it is masked (R10, R31,
R112). -/
abbrev State.waitsFor (s : State) (c : Console) (p : PortId) : Prop :=
  (s.port p).state = .parked ∧ (s.port p).reservedBy = some c ∧ (s.port p).cfg.kind ≠ .listenOnly ∧ (s.port p).fault = false ∧
    (∀ n, (s.port p).patch = some n → (s.patch n).stands (.port p) = false) ∧
    ((s.port p).masked = true → (s.port p).carrier = .clear ∧ (s.port p).qualifyLeft = 0 ∧ (s.port p).dropLeft = 0)

/-- Console c stands at most once in patch n: as its talker, its partner or in its list (R26, R70). -/
abbrev State.standsOnce (s : State) (c : Console) (n : SlotId) : Prop :=
  (s.patch n).bids.Nodup ∧ ((s.patch n).talker = some (.console c) → (s.patch n).partner ≠ some c) ∧
    ((s.patch n).talker = some (.console c) ∨ (s.patch n).partner = some c → .console c ∉ (s.patch n).bids)

/-- Notice e has been offered to console c: it is pending, or its kind is disabled, or the set has overflowed (R180). -/
abbrev State.offered (s : State) (c : Console) (e : Notice) : Prop :=
  e ∈ (s.notice c).entries ∨ maskEnables (s.notice c).mask e.kind = false ∨ (s.notice c).overflow = true

/-! ### What traffic leaves alone -/

/-- A port's record without its part in the traffic: settings, pins, filtered inputs and their holds, the emergency and fault flags,
the lockout and the reservation stay; patch, state, carrier, guard, qualify and drop timers and supervision are struck out. -/
def PortRec.fixedPart (r : PortRec) : PortRec :=
  { PortRec.reset with
    cfg := r.cfg, corPin := r.corPin, emgPin := r.emgPin, txsPin := r.txsPin
    filteredCor := r.filteredCor, filteredEmg := r.filteredEmg, corHold := r.corHold, emgHold := r.emgHold
    emergency := r.emergency, fault := r.fault, lockoutLeft := r.lockoutLeft, reservedBy := r.reservedBy }

/-- A patch's record without the arbiter's fields and its state: label, owner, sharing, members and the seven settings. -/
def PatchRec.fixedPart (r : PatchRec) : PatchRec :=
  { r with state := .unused, talker := none, partner := none, bids := [], hangLeft := 0, elapsed := 0, limit := none }

/-- A console's record without its target and its listen set. -/
def ConsoleRec.fixedPart (r : ConsoleRec) : ConsoleRec := { r with target := .none, listen := [] }

/-- A link unit without its waiting alert. -/
def LinkUnit.fixedPart (u : LinkUnit) : LinkUnit := { u with alertWaiting := false }

/-- The state without its ports, patches, consoles, links, notices and raised events: the queue of commands, the audio slots, the
reset cause, the RESET line and the restart in progress. -/
def State.fixedPart (s : State) : State :=
  { s with
    ports := State.reset.ports, patches := State.reset.patches, consoles := State.reset.consoles, links := State.reset.links
    notices := State.reset.notices, raised := [] }

/-- What traffic leaves alone: of every port its fixed part, and, but for the ports of ps, its patch or no patch; of every patch but
those of ns its fixed part, or an unused slot's; of every console its fixed part; of every link all but the waiting alert; every
notice mask and every entry already pending; the queue of commands, the audio slots, the reset cause, the RESET line and a restart in
progress. -/
abbrev State.trafficOnly (ns : List SlotId) (ps : List PortId) (s t : State) : Prop :=
  (∀ p : PortId, (t.port p).fixedPart = (s.port p).fixedPart) ∧
  (∀ p : PortId, p ∉ ps → (t.port p).patch = (s.port p).patch ∨ (t.port p).patch = none) ∧
  (∀ n : SlotId, n ∉ ns →
    (t.patch n).fixedPart = (s.patch n).fixedPart ∨ (t.patch n).fixedPart = PatchRec.unused.fixedPart) ∧
  (∀ c : Console, (t.console c).fixedPart = (s.console c).fixedPart) ∧
  (∀ c : Console, (t.link c).fixedPart = (s.link c).fixedPart) ∧
  (∀ c : Console, (t.notice c).mask = (s.notice c).mask) ∧
  (∀ c : Console, ∀ e ∈ (s.notice c).entries, e ∈ (t.notice c).entries) ∧
  t.fixedPart = s.fixedPart

/-! ### Invariants -/

/-- While the carrier machine is masked, its state is CLEAR (R10). -/
abbrev PortRec.maskedClear (r : PortRec) : Prop := r.masked = true → r.carrier = .clear

/-- Every masked carrier machine is CLEAR (R10). -/
abbrev State.maskedClear (s : State) : Prop := ∀ p : PortId, (s.port p).maskedClear

/-- A port's patch field names exactly the patch whose list contains it, no list names a port twice, and a slot out of use is empty
(R24, R29, R30), its settings the model's (log 5). -/
abbrev State.membersAgree (s : State) : Prop :=
  (∀ n : SlotId, ∀ p : PortId, p ∈ (s.patch n).members ↔ (s.port p).patch = some n) ∧
    (∀ n : SlotId, (s.patch n).members.Nodup) ∧
    (∀ n : SlotId, (s.patch n).state = .unused → s.patch n = PatchRec.unused)

/-- A pending set holds at most 32 entries, each once, all of kinds enabled in a mask whose bit 7 is set (R180, R181). -/
abbrev NoticeUnit.bounded (u : NoticeUnit) : Prop :=
  u.entries.length ≤ 32 ∧ u.entries.Nodup ∧ (∀ e ∈ u.entries, maskEnables u.mask e.kind = true) ∧ u.mask.getLsbD 7 = true

/-- A response queue holds at most 4 responses, a receiver at most 65 unescaped bytes (R166, R169). -/
abbrev LinkUnit.bounded (u : LinkUnit) : Prop := u.queue.length ≤ 4 ∧ u.rx.stored.length ≤ 65

/-- The arbiter's fields agree with a patch's state: QUIET and HANG have no talker, no partner and no bid; TALK has a talker;
CLOSING has a talker and no bid; an unused slot has none of them (R26, R70, R77, R85, R64). -/
abbrev PatchRec.floorAgrees (r : PatchRec) : Prop :=
  match r.state with
  | .unused | .quiet | .hang => r.talker = none ∧ r.partner = none ∧ r.bids = []
  | .talk => r.talker.isSome = true
  | .closing => r.talker.isSome = true ∧ r.bids = []

abbrev State.floorsAgree (s : State) : Prop := ∀ n : SlotId, (s.patch n).floorAgrees

/-- A bid list holds no source twice, nor the talker or the partner, in order of effective priority; a partner stands only beside a port
talker in style MIX (R70, R88). -/
abbrev State.bidsInOrder (s : State) (n : SlotId) : Prop :=
  (s.patch n).bids.Pairwise (fun a b => s.priority b ≤ s.priority a) ∧ (s.patch n).bids.Nodup ∧
    (∀ src ∈ (s.patch n).bids, (s.patch n).talker ≠ some src ∧ (s.patch n).partner.map Source.console ≠ some src) ∧
    ((s.patch n).partner.isSome = true → (s.patch n).style = .mix ∧ (s.patch n).portTalker.isSome = true)

/-- A talker, a partner or a bidder of patch n is a member of it, or a console that talks to it with its request active (R70, R73, R74). -/
abbrev State.standsAtHome (s : State) (n : SlotId) : Prop :=
  (∀ p : PortId, (s.patch n).stands (.port p) = true → (s.port p).patch = some n) ∧
    (∀ c : Console, (s.patch n).stands (.console c) = true → (s.console c).target = .patch n ∧ (s.console c).request = true)

/-- Every patch has its list in order and its standings at home. -/
abbrev State.floorsOrdered (s : State) : Prop := ∀ n : SlotId, s.bidsInOrder n ∧ s.standsAtHome n

/-- A port that does not bid as it joins a patch: parked, locked out, or its carrier not qualified (R47). -/
abbrev PortRec.joinsSilently (r : PortRec) : Prop := r.isParked = true ∨ r.qualified = false ∨ 0 < r.lockoutLeft

/-- Port p, unparked, is eligible in patch n as a member of it (R97). -/
abbrev State.relays (s : State) (n : SlotId) (p : PortId) : Prop :=
  (s.patch n).mode = .live ∧ ((s.patch n).state = .talk ∨ (s.patch n).state = .closing) ∧ (s.patch n).talker ≠ some (.port p) ∧
    (s.port p).cfg.kind ≠ .listenOnly ∧ (s.port p).fault = false ∧
    ((s.port p).cfg.kind = .half → .port p ∉ (s.patch n).bids ∧ (s.port p).qualified = false)

/-- The state of a port that is keyed for its patch at this moment (R99). -/
def PortRec.keyedState (r : PortRec) : PortState := if r.cfg.keyUpDelay = 0 then .relay else .keyUp

/-- A table of checks: the answer of the first row whose condition holds (R45). -/
def firstRow (rows : List (Bool × Response)) : Option Response := (rows.find? (fun r => r.1)).map Prod.snd

/-- Every link and every pending set keeps its bounds. -/
abbrev State.linksBounded (s : State) : Prop := ∀ c : Console, (s.link c).bounded ∧ (s.notice c).bounded

/-- The ranges of R1. -/
abbrev PortSettings.inRange (c : PortSettings) : Prop :=
  c.qualifyTime ≤ 500 ∧ c.dropTime ≤ 1000 ∧ c.keyUpDelay ≤ 1000 ∧ c.turnaround ≤ 500 ∧ c.basePriority ≤ 7 ∧
    c.receiveTrim ≤ 1023 ∧ c.transmitTrim ≤ 1023

/-- The ranges of R25. -/
abbrev PatchRec.inRange (r : PatchRec) : Prop :=
  r.label.length ≤ 8 ∧ (∀ b ∈ r.label, 0x20 ≤ b.toNat ∧ b.toNat ≤ 0x7E) ∧ 1 ≤ r.threshold ∧ r.threshold ≤ 10 ∧ r.level ≤ 1023 ∧
    r.hangTime ≤ 5000 ∧ (r.timeOutLimit = 0 ∨ (10 ≤ r.timeOutLimit ∧ r.timeOutLimit ≤ 600)) ∧ r.lockoutTime ≤ 120

/-- The ranges of R131 and R140: the listen set in ascending order of patch number, each patch once, each level at most 1023. -/
abbrev ConsoleRec.inRange (r : ConsoleRec) : Prop :=
  r.supervision ≤ 60 ∧ r.micTrim ≤ 1023 ∧ r.sidetone ≤ 1023 ∧ r.listen.Pairwise (fun a b => a.patch < b.patch) ∧
    ∀ e ∈ r.listen, e.level ≤ 1023

/-- Every setting of a port, a patch and a console is in its range (R1, R25, R131, R140). -/
abbrev State.settingsInRange (s : State) : Prop :=
  (∀ p : PortId, (s.port p).cfg.inRange) ∧ (∀ n : SlotId, (s.patch n).inRange) ∧ (∀ c : Console, (s.console c).inRange)

/-- A port in KEYUP or RELAY is a member of a LIVE patch in TALK, HANG or CLOSING whose talker it is not, is not LISTEN-ONLY, and has
its transmit fault flag clear (R97, R98). -/
abbrev State.relayFit (s : State) : Prop :=
  ∀ p : PortId, (s.port p).inRelaySet = true →
    (s.port p).cfg.kind ≠ .listenOnly ∧ (s.port p).fault = false ∧
      ∃ n : SlotId, (s.port p).patch = some n ∧ (s.patch n).mode = .live ∧ (s.patch n).talker ≠ some (.port p) ∧
        ((s.patch n).state = .talk ∨ (s.patch n).state = .hang ∨ (s.patch n).state = .closing)

end Sys2Proof.Machine
end

