-- ==== Sys2Proof/Certificates/Slice0/Obligations.lean ====
section
/-! DEFINITION. The statements about the part, made from the numbered rules of spec/. OBLIGATIONS.json lists them; the witnesses of
their hypotheses stand in Tests/Slice0.lean. -/

section Statements

open Sys2Proof Sys2Proof.Machine

/-! ### The step and its queue -/

/-- A step carries out the command at the front of the queue, with the queue's rest (log 4). -/
def Obligations.StepRunsFrontCommand : Prop :=
  ∀ (s : State) (i : Instr) (rest : List Instr), s.pending = i :: rest → step s = exec i { s with pending := rest }

/-- The model's choice (log 1): with no command waiting, a step is one millisecond; where no timer runs out in it, every timer counts
once and nothing else changes. -/
def Obligations.EmptyQueueCountsAMillisecond : Prop :=
  ∀ s : State, s.pending = [] → s.resetLine = false → s.raised = [] →
    (∀ p, (s.port p).corHold ≠ 1 ∧ (s.port p).emgHold ≠ 1 ∧ (s.port p).qualifyLeft ≠ 1 ∧ (s.port p).dropLeft ≠ 1 ∧
      (s.port p).guardLeft ≠ 1 ∧ (s.port p).lockoutLeft ≠ 1 ∧ (s.port p).keyUpLeft ≠ 1 ∧ (s.port p).startWindow ≠ 1 ∧
      (s.port p).lossLeft ≠ 1) →
    (∀ n, (s.patch n).hangLeft ≠ 1 ∧
      ∀ k, (s.patch n).limit = some k → k = 0 ∨ (s.patch n).elapsed + 1 < k) →
    (∀ c, (s.console c).pttHold ≠ 1 ∧ (s.console c).silence ≠ 1 ∧ (s.link c).rx.timeLeft ≠ 1) →
    ∃ t, step s = .next t ∧
      (∀ p, t.port p = { s.port p with
        corHold := (s.port p).corHold - 1, emgHold := (s.port p).emgHold - 1, qualifyLeft := (s.port p).qualifyLeft - 1
        dropLeft := (s.port p).dropLeft - 1, guardLeft := (s.port p).guardLeft - 1
        lockoutLeft := (s.port p).lockoutLeft - 1, keyUpLeft := (s.port p).keyUpLeft - 1
        startWindow := (s.port p).startWindow - 1, lossLeft := (s.port p).lossLeft - 1 }) ∧
      (∀ n, t.patch n = { s.patch n with
        hangLeft := if (s.patch n).state = .hang then (s.patch n).hangLeft - 1 else (s.patch n).hangLeft
        elapsed := if (s.patch n).portTalker.isSome = true then min ((s.patch n).elapsed + 1) 600000 else (s.patch n).elapsed }) ∧
      (∀ c, t.console c = { s.console c with
        pttHold := (s.console c).pttHold - 1
        silence := if 0 < (s.console c).supervision then (s.console c).silence - 1 else (s.console c).silence }) ∧
      (∀ c, t.link c = { s.link c with rx := { (s.link c).rx with timeLeft := (s.link c).rx.timeLeft - 1 } }) ∧
      t.notices = s.notices ∧ t.fixedPart = s.fixedPart

/-- Every row of the table answers a next state, in every state, and none touches the commands that wait: the spec describes nothing
that stops the part (INVENTORY, Faults; log 4). -/
def Obligations.EveryRowCompletesAndLeavesTheQueue : Prop :=
  ∀ (i : Instr) (s : State), ∃ t, exec i s = .next t ∧ t.pending = s.pending

/-! ### Resets -/

/-- The part right after power-on, by the values of R1, R2, R24, R96, R131, R151, R165, R169, R177, R181 and R184. The pins are the
model's (log 3) and are left out. -/
def Obligations.ResetValues : Prop :=
  (∀ p, (State.reset.port p).cfg = ⟨.half, .activeLow, true, 40, 250, 150, 100, 2, false, .latch, 256, 256⟩ ∧
    (State.reset.port p).patch = none ∧ (State.reset.port p).state = .detached ∧ (State.reset.port p).carrier = .clear ∧
    (State.reset.port p).emergency = false ∧ (State.reset.port p).fault = false ∧ (State.reset.port p).guardLeft = 0 ∧
    (State.reset.port p).lockoutLeft = 0 ∧ (State.reset.port p).reservedBy = none ∧ (State.reset.port p).keyUpLeft = 0 ∧
    (State.reset.port p).startWindow = 0 ∧ (State.reset.port p).startCheck = .pending ∧ (State.reset.port p).lossLeft = 0 ∧
    (State.reset.port p).priority = 2 ∧ (State.reset.port p).ptt = false) ∧
  (∀ n, (State.reset.patch n).state = .unused ∧ (State.reset.patch n).label = [] ∧ (State.reset.patch n).owner = none ∧
    (State.reset.patch n).members = [] ∧ (State.reset.patch n).talker = none ∧ (State.reset.patch n).partner = none ∧
    (State.reset.patch n).bids = []) ∧
  (∀ c, (State.reset.console c).link = .up ∧ (State.reset.console c).supervision = 0 ∧ (State.reset.console c).seize = false ∧
    (State.reset.console c).target = .none ∧ (State.reset.console c).listen = [] ∧ (State.reset.console c).micTrim = 256 ∧
    (State.reset.console c).sidetone = 0) ∧
  (∀ c, (State.reset.link c).rx.isOpen = false ∧ (State.reset.link c).queue = [] ∧ (State.reset.link c).overrun = false ∧
    (State.reset.link c).restartPending = false ∧ (State.reset.link c).alertWaiting = true) ∧
  (∀ c, (State.reset.notice c).mask = 0xBF#8 ∧ (State.reset.notice c).entries = [⟨.unitReset, 0⟩] ∧
    (State.reset.notice c).overflow = false ∧ State.reset.noticeLine c = true) ∧
  State.reset.outputs = Vector.replicate 18 0#16 ∧ State.reset.resetCause = .powerOn

/-- POWER_ON with the RESET line released, and RESET_LINE_RELEASED: every block at its power-on values, each port's inputs taken up as
they stand, the cause POWER-ON or RESET-LINE. POWER_ON while the RESET line is asserted leaves the part held at those values with both
pending sets empty and its inputs not taken up; the release that follows takes up the work with the cause POWER-ON (log 23)
(R1, R2, R19, R131, R177, R184). The settings of a free slot are the model's (log 5), and so are the values of stopped timers, of holds and
of a receiver outside a frame (log 25). -/
def Obligations.PartTakesUpItsWork : Prop :=
  (∀ (s : State) (i : Instr), (i = .powerOn ∧ s.resetLine = false ∨ i = .resetLineReleased ∧ s.resetLine = true) →
    ∃ t, exec i s = .next t ∧ t.resetLine = false ∧
      (∀ p, t.port p = (s.port p).afterReset PortSettings.default) ∧
      (∀ n, t.patch n = PatchRec.unused) ∧
      (∀ c, t.console c = { ConsoleRec.reset with
        pttPin := (s.console c).pttPin, filteredPtt := Level.isLow (s.console c).pttPin }) ∧
      t.links = State.reset.links ∧ t.notices = State.reset.notices ∧ t.inputs = State.reset.inputs ∧
      t.outputs = State.reset.outputs ∧
      t.resetCause = (if i = .powerOn ∨ s.coldStart = true then .powerOn else .resetLine) ∧ t.restartFirst = none ∧
      t.raised = [] ∧ t.pending = s.pending) ∧
  (∀ s : State, s.resetLine = true →
    ∃ t, exec .powerOn s = .next t ∧ t.resetLine = true ∧ t.coldStart = true ∧
      (∀ p, t.port p = { PortRec.reset with
        corPin := (s.port p).corPin, emgPin := (s.port p).emgPin, txsPin := (s.port p).txsPin }) ∧
      (∀ n, t.patch n = PatchRec.unused) ∧
      (∀ c, t.console c = { ConsoleRec.reset with
        pttPin := (s.console c).pttPin, filteredPtt := Level.isLow (s.console c).pttPin }) ∧
      (∀ c, t.link c = { LinkUnit.reset with alertWaiting := false } ∧ t.notice c = { NoticeUnit.reset with entries := [] }) ∧
      t.inputs = State.reset.inputs ∧ t.outputs = State.reset.outputs ∧ t.raised = [] ∧ t.pending = s.pending ∧
      ∃ u, exec .resetLineReleased t = .next u ∧ u.resetLine = false ∧ u.resetCause = .powerOn ∧
        (∀ p, u.port p = (s.port p).afterReset PortSettings.default) ∧ u.links = State.reset.links ∧
        u.notices = State.reset.notices)

/-- RESET_LINE_ASSERTED takes effect at once: every block at its power-on values, both pending sets empty, no alert waiting, and the
inputs not taken up before the release. While it is asserted a pin takes its level and no other row but POWER_ON and the release has
an effect (R177; the model's reading of "held in reset", log 20). The settings of a free slot are the model's (log 5), and so are the
values of stopped timers, of holds and of a receiver outside a frame (log 25). -/
def Obligations.ResetLineHoldsThePart : Prop :=
  (∀ s : State, s.resetLine = false →
    ∃ t, exec .resetLineAsserted s = .next t ∧ t.resetLine = true ∧
      (∀ p, t.port p = { PortRec.reset with
        corPin := (s.port p).corPin, emgPin := (s.port p).emgPin, txsPin := (s.port p).txsPin }) ∧
      (∀ n, t.patch n = PatchRec.unused) ∧
      (∀ c, t.console c = { ConsoleRec.reset with
        pttPin := (s.console c).pttPin, filteredPtt := Level.isLow (s.console c).pttPin }) ∧
      (∀ c, t.link c = { LinkUnit.reset with alertWaiting := false }) ∧
      (∀ c, t.notice c = { NoticeUnit.reset with entries := [] } ∧ t.noticeLine c = false) ∧
      t.inputs = State.reset.inputs ∧ t.outputs = State.reset.outputs ∧ t.raised = [] ∧ t.pending = s.pending) ∧
  (∀ s : State, s.resetLine = true →
    (∀ i : Instr, i ≠ .powerOn → i ≠ .resetLineReleased → (∀ p l, i ≠ .corLineChange p l) → (∀ p l, i ≠ .emgLineChange p l) →
      (∀ p l, i ≠ .txsChange p l) → (∀ c l, i ≠ .consolePttLineChange c l) → exec i s = .next s) ∧
    (∀ p l, exec (.corLineChange p l) s = .next (s.setPort p { s.port p with corPin := l })) ∧
    (∀ p l, exec (.emgLineChange p l) s = .next (s.setPort p { s.port p with emgPin := l })) ∧
    (∀ p l, exec (.txsChange p l) s = .next (s.setPort p { s.port p with txsPin := l })) ∧
    (∀ c l, exec (.consolePttLineChange c l) s = .next (s.setConsole c { s.console c with pttPin := l })))

/-- RESTART takes effect as the last OK to it has been sent, here on the one link with a RESTART pending or, with one pending on both, on
the link whose OK is the later to be sent: settings of ports and consoles and the notice masks are kept, everything
else takes its reset value, and the cause is the console whose RESTART was carried out first (R19, R131, R177, R178, R184). The settings
of a free slot are the model's (log 5), and so are the values of stopped timers, of holds and of a receiver outside a frame (log 25). -/
def Obligations.RestartTakesEffect : Prop :=
  ∀ (s : State) (c d : Console) (r : Response),
    s.resetLine = false → (s.link c).queue = [r] → (s.link c).restartPending = true →
    (s.link (otherConsole c)).restartPending = false ∨ (s.link (otherConsole c)).queue = [] → s.restartFirst = some d →
    ∃ t, exec (.responseSent c) s = .next t ∧
      (∀ p, t.port p = (s.port p).afterReset (s.port p).cfg) ∧
      (∀ n, t.patch n = PatchRec.unused) ∧
      (∀ e, t.console e = { ConsoleRec.reset with
        pttPin := (s.console e).pttPin, filteredPtt := Level.isLow (s.console e).pttPin
        supervision := (s.console e).supervision, silence := (s.console e).supervision * 1000
        micTrim := (s.console e).micTrim, sidetone := (s.console e).sidetone }) ∧
      t.links = State.reset.links ∧
      (∀ e, (t.notice e).mask = (s.notice e).mask ∧ ⟨.unitReset, 0⟩ ∈ (t.notice e).entries) ∧
      ((∀ p, (s.port p).cfg.emgMode = .latch ∨ (s.port p).emgPin = .high) →
        ∀ e, t.notice e = ⟨(s.notice e).mask, [⟨.unitReset, 0⟩], false⟩) ∧
      t.outputs = State.reset.outputs ∧ t.resetCause = (match d with | .A => .restartA | .B => .restartB) ∧
      t.restartFirst = none ∧ t.raised = [] ∧ t.pending = s.pending

/-! ### Lines and timers of a port -/

/-- COR_LINE_CHANGE: with the glitch filter on, a new value starts a 3 ms hold; with it off the filtered COR follows at once and, on an
unmasked machine, moves it by the tables of R7 and R8. SET_PORT of the COR polarity reverses the corrected COR at once, and the filtered
one follows by the same rule; SET_PORT of the glitch filter takes the inputs at once where it switches it off and leaves them where it
switches it on. The clauses in which the machine moves are of a port in no patch, where nobody takes the carrier events (R6 to R10, R21). -/
def Obligations.CorLineIsConditioned : Prop :=
  ∀ (s : State) (p : PortId) (l : Level), s.resetLine = false → s.raised = [] →
    let r := s.port p
    let new : PortRec := { r with corPin := l }
    (r.cfg.glitchFilter = true →
      exec (.corLineChange p l) s = .next (s.setPort p { new with
        corHold := if new.correctedCor = r.filteredCor then 0 else if new.correctedCor = r.correctedCor then r.corHold else 3 })) ∧
    (r.cfg.glitchFilter = false → r.patch = none → r.isParked = false →
      exec (.corLineChange p l) s = .next (s.setPort p new.corTaken)) ∧
    (∀ (c : Console) (v : Nat), s.readyFor c → v ≤ 1 →
      let h := s.heard c
      let turned : PortRec := { r with cfg := { r.cfg with corPolarity := if v = 0 then .activeLow else .activeHigh } }
      let answered := fun u : State =>
        exec (.setPort c (portNumber p) { noPortItem with corPolarity := some v }) s = .next (u.replied c ⟨.ok, u.settingsImage p⟩)
      (r.cfg.corPolarity = turned.cfg.corPolarity → answered h) ∧
      (r.cfg.corPolarity ≠ turned.cfg.corPolarity → r.cfg.glitchFilter = true →
        answered (h.setPort p { turned with corHold := if turned.correctedCor = r.filteredCor then 0 else 3 })) ∧
      (r.cfg.corPolarity ≠ turned.cfg.corPolarity → r.cfg.glitchFilter = false → r.patch = none → r.isParked = false →
        answered (h.setPort p turned.corTaken))) ∧
    (∀ (c : Console) (v : Nat), s.readyFor c → v ≤ 1 → r.correctedEmg = r.filteredEmg →
      let h := s.heard c
      let switched : PortRec := { r with cfg := { r.cfg with glitchFilter := v == 1 }, emgHold := 0 }
      let answered := fun u : State =>
        exec (.setPort c (portNumber p) { noPortItem with glitchFilter := some v }) s = .next (u.replied c ⟨.ok, u.settingsImage p⟩)
      (r.cfg.glitchFilter = (v == 1) → answered h) ∧
      (r.cfg.glitchFilter = false → v = 1 → r.correctedCor = r.filteredCor → answered (h.setPort p { switched with corHold := 0 })) ∧
      (r.cfg.glitchFilter = true → v = 0 → r.patch = none → r.isParked = false → answered (h.setPort p switched.corTaken)))

/-- EMG_LINE_CHANGE: with the glitch filter on, a new value starts a 3 ms hold; with it off, on a port that is in no bid list, LEVEL mode
sets and clears the emergency flag with the input, LATCH mode sets it, and a set offers EMERGENCY to both consoles. SET_PORT of the EMG
mode on such a port: LATCH to LEVEL, the flag takes the filtered EMG, as an asserting change where that sets it; LEVEL to LATCH, it keeps
its value. SET_PORT that switches the filter off takes an asserted EMG at once. An emergency edge in LATCH mode with the flag already set
offers EMERGENCY to both consoles again and leaves the flag and the arbiter as they are (R6, R16, R17, R128). -/
def Obligations.EmgLineIsConditioned : Prop :=
  ∀ (s : State) (p : PortId) (l : Level), s.resetLine = false → s.raised = [] →
    let r := s.port p
    let low := Level.isLow l
    let unlisted := ∀ n, r.patch = some n → .port p ∉ (s.patch n).bids
    (r.cfg.glitchFilter = true →
      exec (.emgLineChange p l) s = .next (s.setPort p { r with
        emgPin := l, emgHold := if low = r.filteredEmg then 0 else if low = r.correctedEmg then r.emgHold else 3 })) ∧
    (r.cfg.glitchFilter = false → low = r.filteredEmg →
      exec (.emgLineChange p l) s = .next (s.setPort p { r with emgPin := l, emgHold := 0 })) ∧
    (r.cfg.glitchFilter = false → r.filteredEmg = false → l = .low → r.emergency = false → unlisted →
      exec (.emgLineChange p l) s = .next ((s.setPort p { r with
        emgPin := .low, filteredEmg := true, emgHold := 0, emergency := true }).offerBoth ⟨.emergency, portNumber p⟩)) ∧
    (r.cfg.glitchFilter = false → r.filteredEmg = false → l = .low → r.emergency = true → r.cfg.emgMode = .latch →
      exec (.emgLineChange p l) s = .next ((s.setPort p { r with
        emgPin := .low, filteredEmg := true, emgHold := 0 }).offerBoth ⟨.emergency, portNumber p⟩)) ∧
    (r.cfg.glitchFilter = false → r.filteredEmg = true → l = .high → unlisted →
      exec (.emgLineChange p l) s = .next (s.setPort p { r with
        emgPin := .high, filteredEmg := false, emgHold := 0
        emergency := match r.cfg.emgMode with
          | .latch => r.emergency
          | .level => false })) ∧
    (∀ (c : Console) (v : Nat), s.readyFor c → v ≤ 1 → unlisted →
      let h := s.heard c
      let moded : PortRec := { r with cfg := { r.cfg with emgMode := if v = 0 then .latch else .level } }
      let u :=
        if r.cfg.emgMode = .latch ∧ v = 1 ∧ r.filteredEmg = true ∧ r.emergency = false then
          (h.setPort p { moded with emergency := true }).offerBoth ⟨.emergency, portNumber p⟩
        else if r.cfg.emgMode = .latch ∧ v = 1 then h.setPort p { moded with emergency := r.filteredEmg }
        else h.setPort p moded
      exec (.setPort c (portNumber p) { noPortItem with emgMode := some v }) s = .next (u.replied c ⟨.ok, u.settingsImage p⟩)) ∧
    (∀ c : Console, s.readyFor c → unlisted → r.cfg.glitchFilter = true → r.correctedCor = r.filteredCor → r.emgPin = .low →
      r.filteredEmg = false → r.emergency = false →
      let u := ((s.heard c).setPort p { r with
        cfg := { r.cfg with glitchFilter := false }, corHold := 0, emgHold := 0, filteredEmg := true, emergency := true }).offerBoth
          ⟨.emergency, portNumber p⟩
      exec (.setPort c (portNumber p) { noPortItem with glitchFilter := some 0 }) s = .next (u.replied c ⟨.ok, u.settingsImage p⟩))

/-- GLITCH_FILTER_EXPIRY: an input that has held its new value is taken. On a port that is in no patch the filtered COR moves the
unmasked machine by R7 and R8, and an EMG edge sets a clear flag and offers EMERGENCY to both consoles. On a listed port the edge places
the entry again at priority 8, and, where the check of R82 fails, moves nothing else; in LEVEL mode the end of EMG places it again at its
base priority. In LATCH mode an edge with the flag set offers EMERGENCY again and leaves the flag and the arbiter, and the end of EMG
changes nothing else. Where no hold runs nothing happens (log 2) (R6, R7, R8, R10, R16, R17, R81, R82, R128). -/
def Obligations.GlitchFilterTakesTheInput : Prop :=
  ∀ (s : State) (p : PortId), s.resetLine = false → s.raised = [] →
    let r := s.port p
    let edge := (s.setPort p { r with filteredEmg := true, emgHold := 0, emergency := true }).offerBoth ⟨.emergency, portNumber p⟩
    let fall := s.setPort p { r with filteredEmg := false, emgHold := 0, emergency := false }
    (0 < r.corHold → r.patch = none → r.isParked = false →
      exec (.glitchFilterExpiry p .cor) s = .next (s.setPort p r.corTaken)) ∧
    (0 < r.emgHold → r.emgPin = .low → r.filteredEmg = false → r.emergency = false →
      ((∀ n, r.patch = some n → .port p ∉ (s.patch n).bids) → exec (.glitchFilterExpiry p .emg) s = .next edge) ∧
      (∀ n, r.patch = some n → .port p ∈ (s.patch n).bids →
        ((s.patch n).state ≠ .talk ∨ (s.patch n).style = .mix ∨ 8 < (s.patch n).threshold ∨ (s.patch n).portTalker = none ∨
          ∃ t, (s.patch n).portTalker = some t ∧ 8 ≤ edge.priority (.port t)) →
        exec (.glitchFilterExpiry p .emg) s = .next (edge.setPatch n { s.patch n with
          bids := edge.insertBid (.port p) ((s.patch n).bids.erase (.port p)) }))) ∧
    (0 < r.emgHold → r.emgPin = .high → r.filteredEmg = true → r.cfg.emgMode = .level → r.emergency = true →
      ((∀ n, r.patch = some n → .port p ∉ (s.patch n).bids) → exec (.glitchFilterExpiry p .emg) s = .next fall) ∧
      (∀ n, r.patch = some n → .port p ∈ (s.patch n).bids →
        exec (.glitchFilterExpiry p .emg) s = .next (fall.setPatch n { s.patch n with
          bids := fall.insertBid (.port p) ((s.patch n).bids.erase (.port p)) }))) ∧
    (0 < r.emgHold → r.emgPin = .low → r.filteredEmg = false → r.cfg.emgMode = .latch → r.emergency = true →
      exec (.glitchFilterExpiry p .emg) s = .next
        ((s.setPort p { r with filteredEmg := true, emgHold := 0 }).offerBoth ⟨.emergency, portNumber p⟩)) ∧
    (0 < r.emgHold → r.emgPin = .high → r.filteredEmg = true → r.cfg.emgMode = .latch →
      exec (.glitchFilterExpiry p .emg) s = .next (s.setPort p { r with filteredEmg := false, emgHold := 0 })) ∧
    (r.corHold = 0 → exec (.glitchFilterExpiry p .cor) s = .next s) ∧
    (r.emgHold = 0 → exec (.glitchFilterExpiry p .emg) s = .next s)

/-- QUALIFY_TIMER_EXPIRY: a qualifying carrier becomes PRESENT; a port in no patch reports to nobody; a member of a patch in which nobody
talks, QUIET or in HANG, takes the talk right: the patch is in TALK with no hang remaining and its count begun again, the members that may
relay are keyed and the keyed ones stay, and a bidder that was itself keyed, a FULL port, is TALKER with no guard started; a carrier that
does not qualify is left (log 2) (R7, R9, R71, R75, R77, R78, R92, R98, R99). -/
def Obligations.QualifiedCarrierTakesAQuietPatch : Prop :=
  ∀ (s : State) (p : PortId), s.resetLine = false → s.raised = [] →
    let r := s.port p
    (r.carrier ≠ .qualifying → exec (.qualifyTimerExpiry p) s = .next s) ∧
    (r.carrier = .qualifying → r.patch = none → r.isParked = false →
      exec (.qualifyTimerExpiry p) s = .next (s.setPort p { r with carrier := .present, qualifyLeft := 0 })) ∧
    (∀ n, r.carrier = .qualifying → r.masked = false → r.state = .idle ∨ r.inRelaySet = true → r.patch = some n →
      r.lockoutLeft = 0 → s.nobodyTalks n →
      ∃ t, exec (.qualifyTimerExpiry p) s = .next t ∧
        t.port p = { r.unsupervised with carrier := .present, qualifyLeft := 0, state := .talker } ∧
        s.grantedTo t n (.port p) ∧ State.trafficOnly [] [] s t)

/-- DROP_TIMER_EXPIRY: a dropping carrier is lost; a port in no patch reports to nobody; a talker that talks alone releases its patch
into HANG, where the keyed members are held; a port that waits in the bid list of a patch in TALK is withdrawn and, where it is eligible
without its bid, keyed in the same event; a carrier that is not dropping is left (log 2) (R7, R9, R83, R84, R85, R92, R97, R99, R102). -/
def Obligations.LostCarrierReleasesIntoHang : Prop :=
  ∀ (s : State) (p : PortId), s.resetLine = false → s.raised = [] →
    let r := s.port p
    (r.carrier ≠ .dropping → exec (.dropTimerExpiry p) s = .next s) ∧
    (r.carrier = .dropping → r.patch = none → r.isParked = false →
      exec (.dropTimerExpiry p) s = .next (s.setPort p { r with carrier := .clear, dropLeft := 0 })) ∧
    (∀ n, r.carrier = .dropping → r.state = .talker → r.patch = some n → s.talksAlone n (.port p) → 0 < (s.patch n).hangTime →
      exec (.dropTimerExpiry p) s = .next
        ((s.setPort p { r.unsupervised with carrier := .clear, dropLeft := 0, state := .idle }).setPatch n { s.patch n with
          state := .hang, talker := none, limit := none, hangLeft := (s.patch n).hangTime })) ∧
    (∀ n, r.carrier = .dropping → r.masked = false → r.state = .idle → r.patch = some n → p ∈ (s.patch n).members →
      (s.patch n).members.Nodup → (s.patch n).state = .talk → (s.patch n).talker ≠ some (.port p) → .port p ∈ (s.patch n).bids →
      (s.patch n).bids.Nodup → s.keyedQuietly n →
      ∃ t, exec (.dropTimerExpiry p) s = .next t ∧
        t.patch n = { s.patch n with bids := (s.patch n).bids.erase (.port p) } ∧ .port p ∉ (t.patch n).bids ∧
        ((s.patch n).mode = .live → r.cfg.kind ≠ .listenOnly → r.fault = false →
          (t.port p).state = r.keyedState ∧ (t.port p).keyUpLeft = r.cfg.keyUpDelay ∧ (t.port p).carrier = .clear) ∧
        ((s.patch n).mode = .rehearse ∨ r.cfg.kind = .listenOnly ∨ r.fault = true →
          t.port p = { r with carrier := .clear, dropLeft := 0 }) ∧
        State.trafficOnly [] [] s t)

/-- GUARD_EXPIRY and LOCKOUT_EXPIRY: a guard that ends while a keyed state still masks changes nothing else; one that ends masking lets
an asserted filtered COR qualify afresh (R12, R14). A lockout that ends without a qualified carrier has no further effect; with one,
the port bids, and takes a patch in which nobody talks (R15, R71, R72, R75, R77). Where nothing runs nothing happens (log 2). -/
def Obligations.GuardAndLockoutRunOut : Prop :=
  ∀ (s : State) (p : PortId), s.resetLine = false → s.raised = [] →
    let r := s.port p
    let unguarded : PortRec := { r with guardLeft := 0 }
    let unlocked : PortRec := { r with lockoutLeft := 0 }
    (0 < r.guardLeft → unguarded.masked = true ∨ r.filteredCor = false → exec (.guardExpiry p) s = .next (s.setPort p unguarded)) ∧
    (0 < r.guardLeft → unguarded.masked = false → r.filteredCor = true → r.carrier = .clear → 0 < r.cfg.qualifyTime →
      exec (.guardExpiry p) s = .next (s.setPort p { unguarded with carrier := .qualifying, qualifyLeft := r.cfg.qualifyTime })) ∧
    (0 < r.lockoutLeft → r.qualified = false → exec (.lockoutExpiry p) s = .next (s.setPort p unlocked)) ∧
    (∀ n, 0 < r.lockoutLeft → r.qualified = true → r.masked = false → r.state = .idle ∨ r.inRelaySet = true → r.patch = some n →
      s.nobodyTalks n →
      ∃ t, exec (.lockoutExpiry p) s = .next t ∧ t.port p = { r.unsupervised with lockoutLeft := 0, state := .talker } ∧
        s.grantedTo t n (.port p) ∧ State.trafficOnly [] [] (s.setPort p unlocked) t) ∧
    (r.guardLeft = 0 → exec (.guardExpiry p) s = .next s) ∧
    (r.lockoutLeft = 0 → exec (.lockoutExpiry p) s = .next s)

/-- TXS_CHANGE: with transmit sense off, or no change, only the pin changes; an active TXS passes the pending start check of a keyed
port and abandons a loss count; an inactive one starts 250 ms of loss count in RELAY or PARKED-RELAY after a passed check, and only there.
KEY_UP_EXPIRY: KEYUP becomes RELAY and PARKED-KEYUP becomes PARKED-RELAY, PTT asserted without a break; loss supervision begins where
the start check has passed and TXS is inactive; any other state is left (log 2). SET_PORT of transmit sense: switched off, supervision
stops in every state; switched on for a keyed port, the start check begins with the key-up that is left and 250 ms, or is passed at once
where TXS is active; a value already held changes nothing (R5, R100, R107, R108, R110, R112). -/
def Obligations.KeyingIsSupervised : Prop :=
  ∀ (s : State) (p : PortId) (l : Level), s.resetLine = false →
    let r := s.port p
    let new : PortRec := { r with txsPin := l }
    let loss := if r.cfg.transmitSense = true ∧ r.startCheck = .passed ∧ r.txsPin = .high then 250 else 0
    (r.txsPin = l ∨ r.cfg.transmitSense = false → exec (.txsChange p l) s = .next (s.setPort p new)) ∧
    (r.txsPin ≠ l → r.cfg.transmitSense = true → l = .low → r.ptt = true → r.startCheck = .pending →
      exec (.txsChange p l) s = .next (s.setPort p { new with startCheck := .passed, startWindow := 0, lossLeft := 0 })) ∧
    (r.txsPin ≠ l → r.cfg.transmitSense = true → l = .low → r.ptt = false ∨ r.startCheck = .passed →
      exec (.txsChange p l) s = .next (s.setPort p { new with lossLeft := 0 })) ∧
    (r.txsPin ≠ l → r.cfg.transmitSense = true → l = .high → r.state = .relay ∨ r.state = .parkedRelay →
      r.startCheck = .passed → exec (.txsChange p l) s = .next (s.setPort p { new with lossLeft := 250 })) ∧
    (l = .high → r.state ≠ .relay ∧ r.state ≠ .parkedRelay ∨ r.startCheck = .pending →
      exec (.txsChange p l) s = .next (s.setPort p new)) ∧
    (s.raised = [] → r.state = .keyUp →
      exec (.keyUpExpiry p) s = .next (s.setPort p { r with state := .relay, keyUpLeft := 0, lossLeft := loss })) ∧
    (s.raised = [] → r.state = .parkedKeyUp →
      exec (.keyUpExpiry p) s = .next (s.setPort p { r with state := .parkedRelay, keyUpLeft := 0, lossLeft := loss })) ∧
    (s.raised = [] → r.state ≠ .keyUp → r.state ≠ .parkedKeyUp → exec (.keyUpExpiry p) s = .next s) ∧
    (∀ (c : Console) (v : Nat), s.raised = [] → s.readyFor c → v ≤ 1 →
      let sensed : PortRec := { r with cfg := { r.cfg with transmitSense := v == 1 } }
      let u := (s.heard c).setPort p
        (if r.cfg.transmitSense = (v == 1) then r
        else if v = 0 then { sensed with startWindow := 0, startCheck := .pending, lossLeft := 0 }
        else if r.ptt = false then sensed
        else if r.txsPin = .low then { sensed with startWindow := 0, startCheck := .passed, lossLeft := 0 }
        else { sensed with
          startWindow := (if r.state = .keyUp ∨ r.state = .parkedKeyUp then r.keyUpLeft else 0) + 250
          startCheck := .pending, lossLeft := 0 })
      exec (.setPort c (portNumber p) { noPortItem with transmitSense := some v }) s = .next (u.replied c ⟨.ok, u.settingsImage p⟩))

/-- START_WINDOW_EXPIRY and LOSS_EXPIRY: a transmit fault sets the flag, unkeys with the guard started and supervision stopped, and
offers PORT FAULT to both consoles, all in one action; here for a carrier that is CLEAR and a turnaround time above 0, where
masking raises nothing. Where no window and no count runs nothing happens (log 2), and loss is supervised only with transmit sense on, in
RELAY or PARKED-RELAY, after a passed check and while TXS is inactive (R101, R107 to R109). -/
def Obligations.TransmitFaultsUnkey : Prop :=
  ∀ (s : State) (p : PortId), s.resetLine = false → s.raised = [] →
    let r := s.port p
    let faulted := (s.setPort p { r.unsupervised with
      fault := true
      state := if r.state = .parkedKeyUp ∨ r.state = .parkedRelay then .parked else .idle
      guardLeft := r.cfg.turnaround }).offerBoth ⟨.portFault, portNumber p⟩
    (r.ptt = false ∨ r.startCheck = .passed ∨ r.startWindow = 0 → exec (.startWindowExpiry p) s = .next s) ∧
    (r.lossLeft = 0 ∨ r.state ≠ .relay ∧ r.state ≠ .parkedRelay ∨ r.cfg.transmitSense = false ∨ r.startCheck = .pending ∨
      r.txsPin = .low → exec (.lossExpiry p) s = .next s) ∧
    (0 < r.cfg.turnaround → r.carrier = .clear → r.qualifyLeft = 0 → r.dropLeft = 0 →
      (r.ptt = true → r.startCheck = .pending → 0 < r.startWindow → exec (.startWindowExpiry p) s = .next faulted) ∧
      (r.state = .relay ∨ r.state = .parkedRelay → r.cfg.transmitSense = true → r.startCheck = .passed → r.txsPin = .high →
        0 < r.lossLeft → exec (.lossExpiry p) s = .next faulted))

/-- The expiries of qualify, drop, guard, key-up and hang timers change nothing but traffic, in every state (R7, R14, R100, R93). -/
def Obligations.TimerExpiriesOnlyMoveTraffic : Prop :=
  ∀ (s t : State) (p : PortId) (n : SlotId),
    (exec (.qualifyTimerExpiry p) s = .next t → State.trafficOnly [] [] s t) ∧
    (exec (.dropTimerExpiry p) s = .next t → State.trafficOnly [] [] s t) ∧
    (exec (.guardExpiry p) s = .next t → State.trafficOnly [] [] s t) ∧
    (exec (.keyUpExpiry p) s = .next t → State.trafficOnly [] [] s t) ∧
    (exec (.hangExpiry n) s = .next t → State.trafficOnly [] [] s t)

/-! ### Timers of a patch -/

/-- HANG_EXPIRY: the patch becomes QUIET and every keyed member is unkeyed with its guard (R93, R101, R102); a patch not in HANG is left
(log 2). Here with carriers CLEAR and turnaround times above 0, where masking raises nothing. -/
def Obligations.HangRunsOut : Prop :=
  ∀ (s : State) (n : SlotId), s.resetLine = false → s.raised = [] →
    ((s.patch n).state ≠ .hang → exec (.hangExpiry n) s = .next s) ∧
    ((s.patch n).state = .hang → (s.patch n).members.Nodup →
      s.keyedQuietly n →
      ∃ t, exec (.hangExpiry n) s = .next t ∧
        t.patch n = { s.patch n with state := .quiet, hangLeft := 0 } ∧
        (∀ m, m ≠ n → t.patch m = s.patch m) ∧
        (∀ q, q ∈ (s.patch n).members → (s.port q).inRelaySet = true →
          t.port q = { (s.port q).unsupervised with state := .idle, guardLeft := (s.port q).cfg.turnaround }) ∧
        (∀ q, ¬(q ∈ (s.patch n).members ∧ (s.port q).inRelaySet = true) → t.port q = s.port q) ∧
        t.consoles = s.consoles ∧ t.links = s.links ∧ t.notices = s.notices ∧ t.fixedPart = s.fixedPart)

/-- TIME_OUT: a port talker whose talk elapsed reaches a limit in force above 0 in this millisecond is locked out for the patch's lockout
time, TIME-OUT is offered to both consoles, and the talk right is released, here with nobody waiting, into HANG; in CLOSING the patch is
retired, the former talker DETACHED with its lockout and its carrier, and PATCH RETIRED is offered to both consoles as well
(R65, R66, R85, R86, R116 to R120). A patch without a port talker, without a limit or with a limit of 0 is left, and so is one whose
count is not at its limit, because it stopped or began again before the row was taken (R126; log 2). A retired slot holds the model's
settings of an unused one (log 5). -/
def Obligations.TimeOutLocksAndReleases : Prop :=
  ∀ (s : State) (n : SlotId), s.resetLine = false → s.raised = [] →
    ((s.patch n).portTalker = none ∨ (s.patch n).limit = none ∨ (s.patch n).limit = some 0 → exec (.timeOut n) s = .next s) ∧
    (∀ k, (s.patch n).limit = some k → (s.patch n).elapsed + 1 < k → exec (.timeOut n) s = .next s) ∧
    (∀ p k, s.talksAlone n (.port p) → (s.patch n).limit = some k → 0 < k → k ≤ (s.patch n).elapsed + 1 →
      0 < (s.patch n).hangTime → (s.port p).state = .talker →
      exec (.timeOut n) s = .next
        (((s.setPort p { (s.port p).unsupervised with
            lockoutLeft := (s.patch n).lockoutTime * 1000, state := .idle }).setPatch n { s.patch n with
          state := .hang, talker := none, limit := none, hangLeft := (s.patch n).hangTime, elapsed := k }).offerBoth
        ⟨.timeOut, portNumber p⟩)) ∧
    (∀ p k, (s.patch n).state = .closing → (s.patch n).talker = some (.port p) → (s.patch n).limit = some k → 0 < k →
      k ≤ (s.patch n).elapsed + 1 → (s.port p).state = .talker → (s.port p).patch = some n → s.membersAgree →
      ∃ t, exec (.timeOut n) s = .next t ∧ t.patch n = PatchRec.unused ∧
        t.port p = { (s.port p).unsupervised with
          lockoutLeft := (s.patch n).lockoutTime * 1000, state := .detached, patch := none } ∧
        (∀ q ∈ (s.patch n).members, (t.port q).patch = none) ∧
        (∀ c, (t.console c).target ≠ .patch n ∧ t.offered c ⟨.timeOut, portNumber p⟩ ∧
          t.offered c ⟨.patchRetired, slotNumber n⟩) ∧
        State.trafficOnly [] [] (s.setPort p { s.port p with lockoutLeft := (s.patch n).lockoutTime * 1000 }) t)

/-! ### A console position -/

/-- CONSOLE_PTT_LINE_CHANGE and PTT_FILTER_EXPIRY: a new value starts a 3 ms hold and is taken after it. A request that rises or falls with
no target is handed to nobody; one that rises with a patch in which nobody talks as target takes its talk right; one that rises with a
parked port as target keys it for the console, and one that falls unkeys it with its guard; where no hold runs nothing happens (log 2) (R73,
R75, R77, R112, R113, R132, R133). -/
def Obligations.PttIsFilteredAndBids : Prop :=
  ∀ (s : State) (c : Console) (l : Level), s.resetLine = false → s.raised = [] →
    let r := s.console c
    let taken : ConsoleRec := { r with filteredPtt := Level.isLow r.pttPin, pttHold := 0 }
    exec (.consolePttLineChange c l) s = .next (s.setConsole c { r with
      pttPin := l
      pttHold := if Level.isLow l = r.filteredPtt then 0 else if l = r.pttPin then r.pttHold else 3 }) ∧
    (r.pttHold = 0 → exec (.pttFilterExpiry c) s = .next s) ∧
    (0 < r.pttHold → r.target = .none ∨ taken.request = r.request → exec (.pttFilterExpiry c) s = .next (s.setConsole c taken)) ∧
    (∀ n, 0 < r.pttHold → r.target = .patch n → r.request = false → taken.request = true → s.nobodyTalks n →
      ∃ t, exec (.pttFilterExpiry c) s = .next t ∧ State.grantedTo (s.setConsole c taken) t n (.console c) ∧
        State.trafficOnly [] [] (s.setConsole c taken) t) ∧
    (∀ p, 0 < r.pttHold → r.target = .port p →
      (r.request = false → taken.request = true → s.waitsFor c p →
        exec (.pttFilterExpiry c) s = .next ((s.setConsole c taken).setPort p (s.port p).consoleKeyed)) ∧
      (r.request = true → taken.request = false → (s.port p).reservedBy = some c → (s.port p).parkedKeyed = true →
        exec (.pttFilterExpiry c) s = .next ((s.setConsole c taken).setPort p (s.port p).consoleUnkeyed)))

/-- SILENCE_EXPIRY: the supervised link of a console is LOST; its latched SEIZE and its target are cleared, so that its talk request has
fallen, its reservations end, its patches are shared and keep their owner and the rest, and LINK LOST is offered to the other console; a
CLOSING patch whose talk right the fall releases is retired (its slot as log 5 has it). A LOST or unsupervised link is left, and so is one
whose silence stands at its whole supervision time, because a valid frame taken first has restarted it (log 2)
(R37, R86, R145, R146, R148). -/
def Obligations.SilenceLosesTheLink : Prop :=
  ∀ (s : State) (c : Console), s.resetLine = false → s.membersAgree →
    (s.raised = [] → (s.console c).link = .lost ∨ (s.console c).supervision * 1000 ≤ (s.console c).silence →
      exec (.silenceExpiry c) s = .next s) ∧
    (∀ k, s.readyFor c → s.raised = [] → ∀ t, exec (.queryPort c k) s = .next t → exec (.silenceExpiry c) t = .next t) ∧
    ((s.console c).link = .up → (s.console c).silence < (s.console c).supervision * 1000 →
      ∃ t, exec (.silenceExpiry c) s = .next t ∧
        (t.console c).fixedPart = { (s.console c).fixedPart with link := .lost, seize := false, silence := 0 } ∧
        (t.console c).target = .none ∧ (t.console c).request = false ∧
        (t.console (otherConsole c)).fixedPart = (s.console (otherConsole c)).fixedPart ∧
        (∀ p, (t.port p).fixedPart = { (s.port p).fixedPart with
          reservedBy := if (s.port p).reservedBy = some c then none else (s.port p).reservedBy }) ∧
        (∀ n, (s.patch n).owner = some c → (t.patch n).fixedPart = { (s.patch n).fixedPart with shared := true } ∨
          (s.patch n).state = .closing ∧ t.patch n = PatchRec.unused) ∧
        (∀ n, (s.patch n).owner ≠ some c → (t.patch n).fixedPart = (s.patch n).fixedPart ∨
          (s.patch n).state = .closing ∧ t.patch n = PatchRec.unused) ∧
        t.offered (otherConsole c) ⟨.linkLost, consoleNumber c⟩ ∧
        (∀ d, (t.link d).fixedPart = (s.link d).fixedPart) ∧ t.fixedPart = s.fixedPart)

/-! ### Audio -/

/-- R152: two gains are multiplied, 128 is added, the sum is divided by 256 and rounded down, and a result above 1023 is taken as 1023;
composition with 256 returns the other gain, with 0 it gives 0, as do two gains whose product is below 128; a path through three
settings composes the first two and the result with the third, in an order that matters, from the settings as they stand. -/
def Obligations.GainsCompose : Prop :=
  (∀ a b, a ≤ 1023 → b ≤ 1023 →
    compose a b = (if 1023 < (a * b + 128) / 256 then 1023 else (a * b + 128) / 256) ∧ compose a b ≤ 1023 ∧
    compose a 256 = a ∧ compose 256 a = a ∧ compose a 0 = 0 ∧ compose 0 a = 0 ∧ (a * b < 128 → compose a b = 0)) ∧
  (∀ (s : State) (n : SlotId) (d : PortId) (src : Source),
    s.relayGain n d src = compose (compose (s.sourceTrim src) (s.port d).cfg.transmitTrim) (s.patch n).level) ∧
  compose (compose 1023 1023) 128 ≠ compose 1023 (compose 1023 128)

/-- R154: a term rounds the product to the nearest whole number, half-way cases toward positive, and is not limited; a slot is the exact
sum of its terms, limited once, and so AUDIO_FRAME sends it; a port's slot has at most two terms, a console's at most 41 (its listen
set in range: LimitsAreKept states that invariant). -/
def Obligations.SlotsAreLimitedOnce : Prop :=
  (∀ (x : Sample) (g : Nat), g ≤ 1023 →
    256 * term x g ≤ x.toInt * (g : Int) + 128 ∧ x.toInt * (g : Int) + 128 < 256 * term x g + 256 ∧
    -130944 ≤ term x g ∧ term x g ≤ 130940 ∧ term x 256 = x.toInt ∧ term x 0 = 0) ∧
  (∀ l : List Int, (slotSample l).toInt = if 32767 < l.sum then 32767 else if l.sum < -32768 then -32768 else l.sum) ∧
  (∀ (s : State) (x : Vector Sample 18), s.resetLine = false →
    let u : State := { s with inputs := x }
    ∃ t, exec (.audioFrame x) s = .next t ∧ (∀ d : PortId, t.outputs[d.val] = slotSample (u.portTerms d)) ∧
      ∀ c : Console, t.outputs[(sourceSlot (.console c)).val] = slotSample (u.consoleTerms c)) ∧
  (∀ (s : State) (d : PortId), (s.portTerms d).length ≤ 2) ∧
  (∀ (s : State) (c : Console), (s.console c).inRange → (s.consoleTerms c).length ≤ 41)

/-- AUDIO_FRAME: the samples of the frame just ended are taken, and every output slot is computed from the records as they stand; a port
not in RELAY or PARKED-RELAY sends 0, a relay port its patch's talker and partner, a port keyed for its console that console's
microphone, a console its listened patches but for itself, its reserved ports with a qualified carrier and, while it is talker or partner
of some patch or the port its target names is in PARKED-RELAY, its sidetone; nothing else changes (R149, R150, R153, R156 to R161). -/
def Obligations.AudioFrameMixes : Prop :=
  ∀ (s : State) (x : Vector Sample 18), s.resetLine = false →
    ∃ t, exec (.audioFrame x) s = .next t ∧ t = { s with inputs := x, outputs := t.outputs } ∧
      (∀ d : PortId, (s.port d).state ≠ .relay → (s.port d).state ≠ .parkedRelay → t.outputs[d.val] = 0#16) ∧
      (∀ (d : PortId) (n : SlotId), (s.port d).state = .relay → (s.port d).patch = some n →
        t.outputs[d.val] = slotSample (
          ((s.patch n).talker.toList ++ ((s.patch n).partner.map Source.console).toList).map (fun src =>
            term x[(sourceSlot src).val] (compose (compose (match src with
              | .port p => (s.port p).cfg.receiveTrim
              | .console c => (s.console c).micTrim) (s.port d).cfg.transmitTrim) (s.patch n).level)))) ∧
      (∀ (d : PortId) (c : Console), (s.port d).state = .parkedRelay → (s.port d).reservedBy = some c →
        t.outputs[d.val] = slotSample
          [term x[(sourceSlot (.console c)).val] (compose (s.console c).micTrim (s.port d).cfg.transmitTrim)]) ∧
      (∀ c : Console, t.outputs[(sourceSlot (.console c)).val] = slotSample (
        ((s.console c).listen.flatMap (fun e =>
          (((s.patch e.patch).talker.toList ++ ((s.patch e.patch).partner.map Source.console).toList).filter
            (fun src => src != .console c)).map (fun src => term x[(sourceSlot src).val] (compose (match src with
              | .port p => (s.port p).cfg.receiveTrim
              | .console d => (s.console d).micTrim) e.level)))) ++
        ((allPorts.filter (fun p => (s.port p).reservedBy == some c)).filter (fun p => (s.port p).qualified)).map
          (fun p => term x[p.val] (s.port p).cfg.receiveTrim) ++
        (if (∃ n : SlotId, (s.patch n).talker = some (.console c) ∨ (s.patch n).partner = some c) ∨
            (∃ p : PortId, (s.console c).target = .port p ∧ (s.port p).state = .parkedRelay) then
          [term x[(sourceSlot (.console c)).val] (s.console c).sidetone] else [])))

/-! ### Frames on a link -/

/-- PARTIAL_FRAME_DROPPED, BAD_FRAME, FRAME_TIMEOUT and UNKNOWN_COMMAND: a dropped frame is not answered; a bad or timed-out frame is
answered BAD-FRAME with its first fault and heard by nobody; an unknown code is answered UNKNOWN-COMMAND naming nothing, the good
frame heard (R165 to R169, R172; the rows as the model reads them, logs 18 and 22). FRAME_TIMEOUT with no frame open changes nothing, by
the model's reading of an expiry that is not running (log 2). -/
def Obligations.FramesThatCarryNoCommand : Prop :=
  ∀ (s : State) (c : Console), s.resetLine = false →
    let closed : State := s.setLink c { s.link c with rx := Receiver.outside }
    exec (.partialFrameDropped c) s = .next (s.setLink c { s.link c with rx := Receiver.opened }) ∧
    ((s.link c).rx.isOpen = false → exec (.frameTimeout c) s = .next s) ∧
    (s.readyFor c →
      (∀ reason k, exec (.badFrame c reason k) s = .next
        (closed.replied c ⟨.badFrame, [byteOf (faultReasonCode reason), byteOf k]⟩)) ∧
      ((s.link c).rx.isOpen = true → (s.link c).rx.fault = none →
        exec (.frameTimeout c) s = .next (closed.replied c ⟨.badFrame, [4#8, byteOf ((s.link c).rx.count + 1)]⟩)) ∧
      (∀ f, (s.link c).rx.isOpen = true → (s.link c).rx.fault = some f →
        exec (.frameTimeout c) s = .next
          (closed.replied c ⟨.badFrame, [byteOf (faultReasonCode f.reason), byteOf f.position]⟩)) ∧
      (∀ code, exec (.unknownCommand c code) s = .next ((s.heard c).replied c ⟨.unknownCommand, [0#8, 0#8]⟩)))

/-- A frame that closes while 4 responses wait is not executed and not answered: OVERRUN is set instead. A good one, of a command or of an
unknown code, is still heard; a bad one and one that has timed out are not. The closing byte itself does the same, the frame judged by its
first fault, its length and its sum (R166 to R169; with a RESTART pending too: log 12). -/
def Obligations.FullQueueOverruns : Prop :=
  ∀ (s : State) (c : Console), s.resetLine = false → 4 ≤ (s.link c).queue.length →
    let rx := (s.link c).rx
    let goodLost := (s.heard c).modLink c (fun u => { u with overrun := true })
    let badLost := s.setLink c { s.link c with rx := Receiver.outside, overrun := true }
    (∀ i r, i.request? = some (c, r) → exec i s = .next goodLost) ∧
    (∀ code, exec (.unknownCommand c code) s = .next goodLost) ∧
    (∀ reason k, exec (.badFrame c reason k) s = .next badLost) ∧
    (rx.isOpen = true → exec (.frameTimeout c) s = .next badLost) ∧
    (∀ ch : LineChar, ch.error = false → ch.data = 0xF4#8 → rx.isOpen = true →
      (rx.fault.isSome = true ∨ rx.stored.length < 2 ∨ (rx.stored.map BitVec.toNat).sum % 256 ≠ 0 →
        exec (.characterReceived c ch) s = .next badLost) ∧
      (rx.fault = none → 2 ≤ rx.stored.length → (rx.stored.map BitVec.toNat).sum % 256 = 0 →
        exec (.characterReceived c ch) s = .next goodLost))

/-- RESPONSE_TRANSMISSION_START: the head response goes out as a frame, its flags byte telling OVERRUN and NOTICE-PENDING as they stand, and
OVERRUN cleared; an alert that waits goes first. RESPONSE_SENT takes the head response out of the queue, in order and without a reset also
while a RESTART is pending: where responses still stand before its OK, and on either link while the other's pending RESTART has responses to
send. With nothing waiting, or a response on the line, neither begins. ALERT_BYTE_SENT: a waiting alert goes while the transmitting half is
between frames, and not after the OK of a RESTART. Every character goes with even parity and one stop bit (R163, R164, R169 to R171, R178,
R183; txLine is the model's record of the line, logs 14 and 15). -/
def Obligations.ResponsesAndAlertsAreSent : Prop :=
  ∀ (s : State) (c : Console), s.resetLine = false →
    let u := s.link c
    (∀ r rest, u.queue = r :: rest → u.sending = false →
      exec (.responseTransmissionStart c) s = .next (s.setLink c { u with
        sending := true, overrun := false, alertWaiting := false
        txLine := ((if u.alertWaiting = true then [0xF6#8] else []) ++ frameChars ([byteOf r.status.code,
          byteOf ((if u.overrun = true then 1 else 0) + (if (s.notice c).entries = [] then 0 else 2))] ++ r.data)).map
            LineChar.sent })) ∧
    (u.queue = [] ∨ u.sending = true → exec (.responseTransmissionStart c) s = .next s) ∧
    (∀ r rest, u.queue = r :: rest → u.sending = true →
      (∀ d, (s.link d).restartPending = false) ∨ u.restartPending = true ∧ rest ≠ [] ∨
        (s.link (otherConsole c)).restartPending = true ∧ (s.link (otherConsole c)).queue ≠ [] →
      exec (.responseSent c) s = .next (s.setLink c { u with queue := rest, sending := false })) ∧
    (u.queue = [] → exec (.responseSent c) s = .next s) ∧
    (u.alertWaiting = true → u.sending = false → u.restartPending = false ∨ u.queue ≠ [] →
      exec (.alertByteSent c) s = .next (s.setLink c { u with alertWaiting := false, txLine := [LineChar.sent 0xF6#8] })) ∧
    (u.alertWaiting = false ∨ u.sending = true ∨ u.restartPending = true ∧ u.queue = [] →
      exec (.alertByteSent c) s = .next s)

/-- CHARACTER_RECEIVED, one character: it has an error where its eight data bits and its parity bit hold an odd count of ones or its stop
bit is not found, and a sent one has none. An opening byte without error opens a frame, outside a frame anything else is ignored; inside,
an ordinary byte is counted and stored, 0xF5 escapes the next, an escaped byte is stored with 0x20 exclusive-ORed, and a character in
error, whatever its data bits hold, records a CHARACTER fault at its position unless an earlier fault stands. From the 66th unescaped byte
on nothing is stored and no position counted. A closing byte closes the frame whether or not an escape stands open, which it abandons; a
frame that closes with no earlier fault is a LENGTH fault at the closing byte's position with fewer than 2 unescaped bytes, and a CHECK
fault at position 0 where they do not sum to 0 modulo 256 (R163 to R167). -/
def Obligations.CharactersAreReceived : Prop :=
  (∀ ch : LineChar,
    let b := ch.data
    let ones := [b.getLsbD 0, b.getLsbD 1, b.getLsbD 2, b.getLsbD 3, b.getLsbD 4, b.getLsbD 5, b.getLsbD 6, b.getLsbD 7, ch.parity]
    (ch.error = true ↔ ones.count true % 2 = 1 ∨ ch.stop = false) ∧
    (LineChar.sent b).error = false ∧ (LineChar.sent b).data = b ∧ (LineChar.sent b).stop = true) ∧
  ∀ (s : State) (c : Console) (ch : LineChar), s.resetLine = false →
    let u := s.link c
    let rx := u.rx
    let b := ch.data
    let good := ch.error = false
    (good → b = 0xF3#8 → exec (.characterReceived c ch) s = .next (s.setLink c { u with rx := Receiver.opened })) ∧
    (rx.isOpen = false → b ≠ 0xF3#8 ∨ ch.error = true → exec (.characterReceived c ch) s = .next s) ∧
    (good → rx.isOpen = true → rx.full = false → rx.escaped = false → rx.stored.length < 65 → isReserved b = false →
      exec (.characterReceived c ch) s = .next (s.setLink c { u with rx := { rx with
        count := rx.count + 1, timeLeft := 100, stored := rx.stored ++ [b] } })) ∧
    (good → rx.isOpen = true → rx.full = false → rx.escaped = false → b = 0xF5#8 →
      exec (.characterReceived c ch) s = .next (s.setLink c { u with rx := { rx with
        count := rx.count + 1, timeLeft := 100, escaped := true } })) ∧
    (good → rx.isOpen = true → rx.full = false → rx.escaped = true → rx.stored.length < 65 → b ≠ 0xF3#8 → b ≠ 0xF4#8 →
      exec (.characterReceived c ch) s = .next (s.setLink c { u with rx := { rx with
        count := rx.count + 1, timeLeft := 100, escaped := false, stored := rx.stored ++ [b ^^^ 0x20#8] } })) ∧
    (good → rx.isOpen = true → rx.full = false → rx.escaped = false → rx.stored.length = 65 → rx.fault = none →
      isReserved b = false →
      exec (.characterReceived c ch) s = .next (s.setLink c { u with rx := { rx with
        count := rx.count + 1, timeLeft := 100, full := true, fault := some ⟨.length, rx.count + 1⟩ } })) ∧
    (ch.error = true → rx.isOpen = true → rx.full = false →
      exec (.characterReceived c ch) s = .next (s.setLink c { u with rx := { rx with
        count := rx.count + 1, timeLeft := 100, escaped := false
        fault := some (rx.fault.getD ⟨.character, rx.count + 1⟩) } })) ∧
    (ch.error = true ∨ b ≠ 0xF3#8 ∧ b ≠ 0xF4#8 → rx.isOpen = true → rx.full = true → rx.stored.length = 65 → rx.fault.isSome = true →
      exec (.characterReceived c ch) s = .next (s.setLink c { u with rx := { rx with
        timeLeft := 100, escaped := !ch.error && !rx.escaped && b == 0xF5#8 } })) ∧
    (good → b = 0xF4#8 →
      exec (.characterReceived c ch) s =
        (if rx.isOpen = true then exec (.characterReceived c ch) (s.setLink c { u with rx := { rx with escaped := false } })
        else .next s)) ∧
    (good → b = 0xF4#8 → rx.isOpen = true → rx.fault = none → s.readyFor c →
      let closed := s.setLink c { u with rx := Receiver.outside }
      (rx.stored.length < 2 →
        exec (.characterReceived c ch) s = .next (closed.replied c ⟨.badFrame, [3#8, byteOf (rx.count + 1)]⟩)) ∧
      (2 ≤ rx.stored.length → (rx.stored.map BitVec.toNat).sum % 256 ≠ 0 →
        exec (.characterReceived c ch) s = .next (closed.replied c ⟨.badFrame, [2#8, 0#8]⟩)) ∧
      (2 ≤ rx.stored.length → (rx.stored.map BitVec.toNat).sum % 256 = 0 →
        ∃ t, exec (.characterReceived c ch) s = .next t ∧ (t.link c).rx = Receiver.outside ∧ (t.console c).link = .up ∧
          (∀ i r, i.request? = some (c, r) → parsePayload rx.stored.dropLast = .request r → exec i s = .next t))) ∧
    (∀ f, rx.fault = some f → good → b = 0xF4#8 → rx.isOpen = true → s.readyFor c →
      exec (.characterReceived c ch) s = .next ((s.setLink c { u with rx := Receiver.outside }).replied c
        ⟨.badFrame, [byteOf (faultReasonCode f.reason), byteOf f.position]⟩))

/-! ### Commands on the part, a link and a console -/

/-- QUERY_UNIT, QUERY_PORT, QUERY_PATCH and LIST_PATCHES answer with their images and change nothing (R22, R41, R42, R174, R175, R177);
a number out of range is BAD-ARGUMENT, a slot not in use NO-SUCH-PATCH, naming nothing (R22, R41, R172). -/
def Obligations.QueriesChangeNothing : Prop :=
  ∀ (s : State) (c : Console), s.readyFor c →
    let h := s.heard c
    exec (.queryUnit c) s = .next (h.replied c ⟨.ok,
      [0x49#8, 0x57#8, 0x32#8, 0x34#8, 0x31#8, 0x36#8, 1#8, byteOf s.resetCause.code, byteOf s.patchesInUse.length,
        byteOf ((if (h.console .A).link = .lost then 1 else 0) + (if (h.console .B).link = .lost then 2 else 0))]⟩) ∧
    (∀ p, exec (.queryPort c (portNumber p)) s = .next (h.replied c ⟨.ok, s.portImage p⟩)) ∧
    (∀ k, k = 0 ∨ 16 < k → exec (.queryPort c k) s = .next (h.replied c ⟨.badArgument, [0#8, 0#8]⟩)) ∧
    (∀ n, (s.patch n).state ≠ .unused → exec (.queryPatch c (slotNumber n)) s = .next (h.replied c ⟨.ok, s.patchImage n⟩)) ∧
    (∀ n, (s.patch n).state = .unused →
      exec (.queryPatch c (slotNumber n)) s = .next (h.replied c ⟨.noSuchPatch, [0#8, 0#8]⟩)) ∧
    (∀ k, k = 0 ∨ 12 < k → exec (.queryPatch c k) s = .next (h.replied c ⟨.badArgument, [0#8, 0#8]⟩)) ∧
    exec (.listPatches c) s = .next (h.replied c ⟨.ok, byteOf s.patchesInUse.length :: s.patchesInUse.flatMap (fun n =>
      [byteOf (slotNumber n), byteOf (s.patch n).state.code,
        byteOf ((match (s.patch n).owner with | none => 0 | some .A => 17 | some .B => 18) + (if (s.patch n).shared then 128 else 0)),
        byteOf (s.patch n).members.length, byteOf (match (s.patch n).talker with | none => 0 | some src => sourceNumber src)])⟩)

/-- The images are as long as R174 to R176 lay down, and hold the record's fields at their bytes (bytes 1 and 2 are status and flags): the
port image and the parts of it that SET_PORT, CLEAR_PORT_CONDITIONS and RESERVE_PORT return; the patch image and the settings that
SET_PATCH returns; and the console image, whose bytes 7 to 10 are the standing block with the seven standings of R138 (a state to which no
standing applies is left open, log 13). The codes of statuses, enumerated values, states, notice kinds and fault reasons, and the source
numbers, are those of the tables (R46, R138, R139, R166, R173 to R177). -/
def Obligations.ImagesHoldTheRecords : Prop :=
  ([Status.ok, .clamped, .badFrame, .unknownCommand, .badArgument, .notPermitted, .noSuchPatch, .notOwner, .portInUse, .notMember,
      .tableFull, .patchFull, .patchClosing, .floorConflict, .portReserved].map Status.code =
      [0x00, 0x01, 0x10, 0x11, 0x12, 0x13, 0x14, 0x15, 0x16, 0x17, 0x18, 0x19, 0x1A, 0x1B, 0x1C] ∧
    [PortKind.half, .full, .listenOnly].map PortKind.code = [0, 1, 2] ∧
    [Polarity.activeLow, .activeHigh].map Polarity.code = [0, 1] ∧ [EmgMode.latch, .level].map EmgMode.code = [0, 1] ∧
    [PortState.detached, .idle, .talker, .keyUp, .relay, .parked, .parkedKeyUp, .parkedRelay].map PortState.code =
      [0, 1, 2, 3, 4, 5, 6, 7] ∧
    [CarrierState.clear, .qualifying, .present, .dropping].map CarrierState.code = [0, 1, 2, 3] ∧
    [PatchState.unused, .quiet, .talk, .hang, .closing].map PatchState.code = [0, 1, 2, 3, 4] ∧
    [LinkState.up, .lost].map LinkState.code = [0, 1] ∧
    [NoticeKind.emergency, .portFault, .timeOut, .preempted, .patchRetired, .linkLost, .floorChange, .unitReset].map NoticeKind.code =
      [1, 2, 3, 4, 5, 6, 7, 8] ∧
    [ResetCause.powerOn, .resetLine, .restartA, .restartB].map ResetCause.code = [1, 2, 3, 4] ∧
    [FaultReason.character, .check, .length, .timeout].map faultReasonCode = [1, 2, 3, 4] ∧
    (∀ p : PortId, sourceNumber (.port p) = p.val + 1) ∧ [Console.A, .B].map (fun c => sourceNumber (.console c)) = [17, 18]) ∧
  (∀ s : State,
    (∀ p, let r := s.port p
      s.portImage p = [byteOf (p.val + 1), byteOf r.cfg.kind.code, byteOf r.cfg.corPolarity.code,
        byteOf (if r.cfg.glitchFilter then 1 else 0), byteOf (r.cfg.qualifyTime / 256), byteOf r.cfg.qualifyTime,
        byteOf (r.cfg.dropTime / 256), byteOf r.cfg.dropTime, byteOf (r.cfg.keyUpDelay / 256), byteOf r.cfg.keyUpDelay,
        byteOf (r.cfg.turnaround / 256), byteOf r.cfg.turnaround, byteOf r.cfg.basePriority,
        byteOf (if r.cfg.transmitSense then 1 else 0), byteOf r.cfg.emgMode.code, byteOf (r.cfg.receiveTrim / 256),
        byteOf r.cfg.receiveTrim, byteOf (r.cfg.transmitTrim / 256), byteOf r.cfg.transmitTrim,
        byteOf (match r.patch with | none => 0 | some n => n.val + 1), byteOf r.state.code, byteOf r.carrier.code,
        byteOf (if r.emergency then 1 else 0), byteOf (if r.fault then 1 else 0), byteOf (r.guardLeft / 256), byteOf r.guardLeft,
        byteOf (r.lockoutLeft / 65536), byteOf (r.lockoutLeft / 256), byteOf r.lockoutLeft,
        byteOf (match r.reservedBy with | none => 0 | some .A => 17 | some .B => 18),
        byteOf (if r.emergency then 8 else r.cfg.basePriority),
        byteOf ((if r.filteredCor then 1 else 0) + (if r.filteredEmg then 2 else 0) + (if r.txsPin = .low then 4 else 0))]) ∧
    (∀ n, let r := s.patch n
      s.patchImage n = [byteOf (n.val + 1), byteOf r.state.code,
        byteOf ((match r.owner with | none => 0 | some .A => 17 | some .B => 18) + (if r.shared then 128 else 0)),
        byteOf ((if r.mode = .rehearse then 1 else 0) + (if r.style = .mix then 2 else 0)), byteOf r.threshold,
        byteOf (r.level / 256), byteOf r.level, byteOf (r.hangTime / 256), byteOf r.hangTime,
        byteOf (r.timeOutLimit / 256), byteOf r.timeOutLimit, byteOf r.lockoutTime, byteOf r.label.length] ++ r.label ++
        [byteOf r.members.length] ++ r.members.map (fun p => byteOf (p.val + 1)) ++
        [byteOf (match r.talker with | none => 0 | some src => sourceNumber src),
          byteOf (match r.partner with | none => 0 | some .A => 17 | some .B => 18), byteOf r.bids.length] ++
        r.bids.map (fun src => byteOf (sourceNumber src)) ++
        [byteOf (r.hangLeft / 256), byteOf r.hangLeft, byteOf (r.elapsed / 1000 / 256), byteOf (r.elapsed / 1000)]) ∧
    (∀ p, let r := s.port p
      s.settingsImage p = (s.portImage p).take 19 ∧
      s.conditionsImage p = [byteOf (if r.emergency then 1 else 0), byteOf (if r.fault then 1 else 0),
        byteOf (r.lockoutLeft / 65536), byteOf (r.lockoutLeft / 256), byteOf r.lockoutLeft] ∧
      s.reservationImage p = [byteOf (p.val + 1), byteOf r.state.code,
        byteOf (match r.reservedBy with | none => 0 | some .A => 17 | some .B => 18),
        byteOf (match r.patch with | none => 0 | some n => n.val + 1)]) ∧
    (∀ n, let r := s.patch n
      r.settingsBlock = [byteOf r.label.length] ++ r.label ++
        [byteOf ((if r.mode = .rehearse then 1 else 0) + (if r.style = .mix then 2 else 0)), byteOf r.threshold,
          byteOf (r.level / 256), byteOf r.level, byteOf (r.hangTime / 256), byteOf r.hangTime,
          byteOf (r.timeOutLimit / 256), byteOf r.timeOutLimit, byteOf r.lockoutTime]) ∧
    (∀ c, let r := s.console c
      let active := r.link = .up ∧ r.filteredPtt = true ∨ r.seize = true
      let reserved := ((allPorts.filter (fun p => (s.port p).reservedBy == some c)).map (fun p => 2 ^ p.val)).sum
      let standing := (s.standingBlock c)[3]?
      s.consoleImage c = [byteOf r.link.code, byteOf r.supervision, byteOf (r.silence / 256), byteOf r.silence] ++ s.standingBlock c ++
        [byteOf (r.micTrim / 256), byteOf r.micTrim, byteOf (r.sidetone / 256), byteOf r.sidetone, byteOf (reserved / 256),
          byteOf reserved, byteOf r.listen.length] ++
        r.listen.flatMap (fun e => [byteOf (e.patch.val + 1), byteOf (e.level / 256), byteOf e.level]) ∧
      (s.standingBlock c).length = 4 ∧
      (s.standingBlock c).take 3 = [
        byteOf ((if r.filteredPtt then 1 else 0) + (if r.seize then 2 else 0) + (if active then 4 else 0)),
        byteOf (match r.target with | .none => 0 | .patch _ => 1 | .port _ => 2),
        byteOf (match r.target with | .none => 0 | .patch n => n.val + 1 | .port p => p.val + 1)] ∧
      (¬active ∨ r.target = .none → standing = some 0#8) ∧
      (∀ n, active → r.target = .patch n →
        ((s.patch n).talker = some (.console c) → standing = some 1#8) ∧
        ((s.patch n).talker ≠ some (.console c) → (s.patch n).partner = some c → standing = some 2#8) ∧
        ((s.patch n).talker ≠ some (.console c) → (s.patch n).partner ≠ some c →
          (.console c ∈ (s.patch n).bids → standing = some 3#8) ∧
          ((s.patch n).state = .closing → .console c ∉ (s.patch n).bids → standing = some 4#8))) ∧
      (∀ p, active → r.target = .port p →
        ((s.port p).state = .parkedKeyUp ∨ (s.port p).state = .parkedRelay → standing = some 5#8) ∧
        ((s.port p).state = .parked → (s.port p).cfg.kind = .listenOnly ∨ (s.port p).fault = true → standing = some 6#8))))

/-- RESTART: from console A always, from console B while A's link is LOST, the reset waits for the OK and its console's link executes
nothing more; from B while A's link is UP it is refused NOT-PERMITTED (R168, R178). A pending RESTART drops later frames on that link
(log 12). -/
def Obligations.RestartIsPending : Prop :=
  ∀ (s : State) (c : Console), s.readyFor c →
    (c = .A ∨ (s.console .A).link = .lost →
      exec (.restart c) s = .next
        ({ (s.heard c).modLink c (fun u => { u with restartPending := true, queue := u.queue ++ [⟨.ok, []⟩] }) with
          restartFirst := some (s.restartFirst.getD c) })) ∧
    (c = .B → (s.console .A).link = .up →
      exec (.restart c) s = .next ((s.heard c).replied c ⟨.notPermitted, [0#8, 0#8]⟩)) ∧
    (∀ (i : Instr) (r : Request) (t : State), t.resetLine = false → (t.link c).queue.length < 4 →
      (t.link c).restartPending = true → i.request? = some (c, r) → exec i t = .next (t.heard c))

/-- SET_LINK: a supervision time is stored at most 60 and restarts the silence with it; a mask is stored with bit 7 set, and the pending
entries of the kinds it disables are removed; what is not selected keeps its value; the answer carries both values as stored, CLAMPED
for a time above 60 (R145, R173, R179, R181). -/
def Obligations.SetLinkStores : Prop :=
  ∀ (s : State) (c : Console) (v : Option Nat) (m : Option Byte), s.readyFor c →
    let h := s.heard c
    let time := match v with
      | some k => min k 60
      | none => (s.console c).supervision
    let mask := match m with
      | some b => b ||| 0x80#8
      | none => (s.notice c).mask
    exec (.setLink c v m) s = .next (((h.setConsole c { h.console c with
        supervision := time
        silence := match v with
          | some k => min k 60 * 1000
          | none => (h.console c).silence }).setNotice c { s.notice c with
        mask := mask
        entries := match m with
          | some b => (s.notice c).entries.filter (fun e => (b ||| 0x80#8).getLsbD (e.kind.code - 1))
          | none => (s.notice c).entries }).replied c
      ⟨if (∃ k, v = some k ∧ 60 < k) then .clamped else .ok, [byteOf time, mask]⟩)

/-- READ_NOTICE takes out the pending entry of the highest kind, and among one kind that of the lowest subject, clears OVERFLOW, and
answers the entry or NONE, OVERFLOW as it stood, and how many entries are left (R172, R173, R182). -/
def Obligations.ReadNoticeTakesTheHighest : Prop :=
  ∀ (s : State) (c : Console), s.readyFor c →
    let u := s.notice c
    let flag := byteOf (if u.overflow = true then 1 else 0)
    (u.entries = [] → exec (.readNotice c) s = .next
      (((s.heard c).setNotice c { u with overflow := false }).replied c ⟨.ok, [0#8, 0#8, flag, 0#8]⟩)) ∧
    (u.entries ≠ [] → ∃ e ∈ u.entries,
      (∀ x ∈ u.entries, e.kind.code < x.kind.code ∨ e.kind.code = x.kind.code ∧ e.subject ≤ x.subject) ∧
      exec (.readNotice c) s = .next (((s.heard c).setNotice c { u with entries := u.entries.erase e, overflow := false }).replied c
        ⟨.ok, [byteOf e.kind.code, byteOf e.subject, flag, byteOf (u.entries.length - 1)]⟩))

/-- R180: an offer is dropped by the mask, merged into the same entry, dropped with OVERFLOW at 32 entries, or added; each console's set
takes an offer for both by itself; the bounds of a set hold after an offer; an alert starts exactly where an empty set becomes
non-empty; and an entry offered again after it has been read is added afresh. -/
def Obligations.OffersEnterPendingSets : Prop :=
  (∀ (u : NoticeUnit) (e : Notice),
    (maskEnables u.mask e.kind = false → u.offer e = u) ∧
    (maskEnables u.mask e.kind = true → e ∈ u.entries → u.offer e = u) ∧
    (maskEnables u.mask e.kind = true → e ∉ u.entries → 32 ≤ u.entries.length → u.offer e = { u with overflow := true }) ∧
    (maskEnables u.mask e.kind = true → e ∉ u.entries → u.entries.length < 32 →
      u.offer e = { u with entries := u.entries ++ [e] }) ∧
    (u.bounded → (u.offer e).bounded) ∧
    (u.bounded → e ∈ u.entries → ({ u with entries := u.entries.erase e } : NoticeUnit).offer e
      = { u with entries := u.entries.erase e ++ [e] })) ∧
  (∀ (s : State) (e : Notice) (c : Console),
    (s.offerBoth e).notice c = (s.notice c).offer e ∧
    ((s.offerBoth e).link c).alertWaiting =
      ((s.link c).alertWaiting || ((s.notice c).entries.isEmpty && !((s.notice c).offer e).entries.isEmpty)) ∧
    ((s.offerBoth e).noticeLine c = !((s.notice c).offer e).entries.isEmpty))

/-- SET_CONSOLE and SET_LISTEN: the two levels are stored at most 1023, CLAMPED where one was above; the listen set is replaced by the
entries given, in ascending order of patch number, levels at most 1023; nothing else of the console or the part changes. A listen set is
refused BAD-ARGUMENT at the first entry whose patch is outside 1..12 or named twice (log 9), and otherwise NO-SUCH-PATCH at the first whose
slot is not in use, naming that patch (R139, R140, R172). -/
def Obligations.ConsoleSettingsAreStored : Prop :=
  ∀ (s : State) (c : Console), s.readyFor c →
    let h := s.heard c
    (∀ m t : Option Nat, ∃ u : State, u = h.setConsole c { h.console c with
        micTrim := match m with
          | some v => min v 1023
          | none => (s.console c).micTrim
        sidetone := match t with
          | some v => min v 1023
          | none => (s.console c).sidetone } ∧
      exec (.setConsole c m t) s = .next (u.replied c
        ⟨if (∃ v, m = some v ∧ 1023 < v) ∨ (∃ v, t = some v ∧ 1023 < v) then .clamped else .ok, u.consoleImage c⟩)) ∧
    (∀ es : List ListenArg, (es.map ListenArg.patch).Nodup →
      (∀ e ∈ es, ∃ n : SlotId, e.patch = slotNumber n ∧ (s.patch n).state ≠ .unused) →
      ∃ l : List ListenEntry, l.Pairwise (fun a b => a.patch < b.patch) ∧
        (∀ (n : SlotId) (v : Nat), ⟨n, v⟩ ∈ l ↔ ∃ e ∈ es, e.patch = slotNumber n ∧ v = min e.level 1023) ∧
        exec (.setListen c es) s = .next ((h.setConsole c { h.console c with listen := l }).replied c
          ⟨if (∃ e ∈ es, 1023 < e.level) then .clamped else .ok,
            byteOf l.length :: l.flatMap (fun e => [byteOf (slotNumber e.patch), byteOf (e.level / 256), byteOf e.level])⟩)) ∧
    (∀ (es : List ListenArg) (r : Response),
      let ks := es.map ListenArg.patch
      let odd := ks.find? (fun k => decide (k = 0 ∨ 12 < k ∨ 1 < ks.count k))
      let free := ks.find? (fun k => decide (∀ n : SlotId, k = slotNumber n → (s.patch n).state = .unused))
      firstRow [(odd.isSome, ⟨.badArgument, [2#8, byteOf (odd.getD 0)]⟩), (free.isSome, ⟨.noSuchPatch, [2#8, byteOf (free.getD 0)]⟩)]
          = some r →
        exec (.setListen c es) s = .next (h.replied c r))

/-- SET_TALK_TARGET: the target named is stored, a patch in use or a port the console has reserved; only a CLOSING patch, retired in the
action, is none instead (its slot as log 5 has it). With no talk request nothing else changes. An active request leaves the old target: the
console stands no longer in the old patch, and a port keyed for it is unkeyed with its guard; and it moves to the new one: it takes the
talk right of a patch in which nobody talks, or keys a parked port. A kind outside the three and a number out of range are refused
BAD-ARGUMENT, a slot not in use NO-SUCH-PATCH, a port of the other console PORT-RESERVED and a free one NOT-PERMITTED, each naming nothing
(log 8) (R73, R74, R77, R86, R112, R113, R137, R138, R172). -/
def Obligations.TalkTargetIsSet : Prop :=
  ∀ (s : State) (c : Console), s.readyFor c → s.raised = [] →
    let h := s.heard c
    let aimed := fun g : Target => h.setConsole c { h.console c with target := g }
    let answered := fun (k v : Nat) (w : State) =>
      exec (.setTalkTarget c k v) s = .next (w.replied c ⟨.ok, w.standingBlock c⟩)
    (∀ (k v : Nat) (g : Target),
      (k = 0 ∧ g = .none ∨
        (∃ n, k = 1 ∧ v = slotNumber n ∧ (s.patch n).state ≠ .unused ∧ g = .patch n) ∨
        (∃ p, k = 2 ∧ v = portNumber p ∧ (s.port p).reservedBy = some c ∧ g = .port p)) →
      ((h.console c).request = false → answered k v (aimed g)) ∧
      ∃ w : State, answered k v w ∧ State.trafficOnly [] [] h w ∧
        ((w.console c).target = g ∨
          ∃ n, g = .patch n ∧ (s.patch n).state = .closing ∧ w.patch n = PatchRec.unused ∧ (w.console c).target = .none) ∧
        (∀ m, (h.console c).request = true → (s.console c).target = .patch m → g ≠ .patch m → s.standsOnce c m →
          (w.patch m).stands (.console c) = false)) ∧
    (∀ n, (s.console c).target = .none → (h.console c).request = true → s.nobodyTalks n →
      ∃ w : State, answered 1 (slotNumber n) w ∧ (aimed (.patch n)).grantedTo w n (.console c) ∧
        State.trafficOnly [] [] (aimed (.patch n)) w) ∧
    (∀ p, (h.console c).request = true → (s.console c).target = .none → s.waitsFor c p →
      answered 2 (portNumber p) ((aimed (.port p)).setPort p (s.port p).consoleKeyed)) ∧
    (∀ p v, (h.console c).request = true → (s.console c).target = .port p → (s.port p).reservedBy = some c →
      (s.port p).parkedKeyed = true →
      answered 0 v ((aimed .none).setPort p (s.port p).consoleUnkeyed)) ∧
    (∀ k v : Nat,
      let refused := fun st : Status => exec (.setTalkTarget c k v) s = .next (h.replied c ⟨st, [0#8, 0#8]⟩)
      (2 < k ∨ k = 1 ∧ (v = 0 ∨ 12 < v) ∨ k = 2 ∧ (v = 0 ∨ 16 < v) → refused .badArgument) ∧
      (∀ n, k = 1 → v = slotNumber n → (s.patch n).state = .unused → refused .noSuchPatch) ∧
      (∀ p, k = 2 → v = portNumber p →
        ((s.port p).reservedBy = some (otherConsole c) → refused .portReserved) ∧
        ((s.port p).reservedBy = none → refused .notPermitted)))

/-- SEIZE and UNSEIZE set and clear latched SEIZE, whatever the traffic then does. A request that does not change, or has no target, is
handed to nobody; a rise with a patch in which nobody talks as target takes its talk right; the fall of a console that talks alone releases
its patch into HANG. A rise with a port PARKED for the console as target keys it, its key-up and its supervision begun, and leaves it PARKED
where it is LISTEN-ONLY or faulted; the fall unkeys it with its guard (R74, R77, R84, R85, R107, R112, R113, R133, R135, R136, R138). -/
def Obligations.SeizeMovesTheRequest : Prop :=
  ∀ (s : State) (c : Console), s.readyFor c → s.raised = [] →
    let h := s.heard c
    let on := h.setConsole c { h.console c with seize := true }
    let off := h.setConsole c { h.console c with seize := false }
    ((h.console c).request = true ∨ (s.console c).target = .none →
      exec (.seize c) s = .next (on.replied c ⟨.ok, on.standingBlock c⟩)) ∧
    (∀ n, (h.console c).request = false → (s.console c).target = .patch n → s.nobodyTalks n →
      ∃ w : State, exec (.seize c) s = .next (w.replied c ⟨.ok, w.standingBlock c⟩) ∧ on.grantedTo w n (.console c) ∧
        State.trafficOnly [] [] on w) ∧
    (∀ p, (h.console c).request = false → (s.console c).target = .port p →
      (s.waitsFor c p →
        let w := on.setPort p (s.port p).consoleKeyed
        exec (.seize c) s = .next (w.replied c ⟨.ok, w.standingBlock c⟩)) ∧
      ((s.port p).state = .parked → (s.port p).cfg.kind = .listenOnly ∨ (s.port p).fault = true →
        exec (.seize c) s = .next (on.replied c ⟨.ok, on.standingBlock c⟩))) ∧
    ((off.console c).request = (h.console c).request ∨ (s.console c).target = .none →
      exec (.unseize c) s = .next (off.replied c ⟨.ok, off.standingBlock c⟩)) ∧
    (∀ n, (s.console c).seize = true → (s.console c).filteredPtt = false → (s.console c).target = .patch n →
      s.talksAlone n (.console c) → 0 < (s.patch n).hangTime →
      let w := off.setPatch n { s.patch n with state := .hang, talker := none, limit := none, hangLeft := (s.patch n).hangTime }
      exec (.unseize c) s = .next (w.replied c ⟨.ok, w.standingBlock c⟩)) ∧
    (∀ p, (s.console c).seize = true → (s.console c).filteredPtt = false → (s.console c).target = .port p →
      (s.port p).reservedBy = some c → (s.port p).parkedKeyed = true →
      let w := off.setPort p (s.port p).consoleUnkeyed
      exec (.unseize c) s = .next (w.replied c ⟨.ok, w.standingBlock c⟩)) ∧
    (∃ w : State, exec (.seize c) s = .next (w.replied c ⟨.ok, w.standingBlock c⟩) ∧ State.trafficOnly [] [] on w) ∧
    (∃ w : State, exec (.unseize c) s = .next (w.replied c ⟨.ok, w.standingBlock c⟩) ∧ State.trafficOnly [] [] off w)

/-! ### Commands on ports -/

/-- SET_PORT: every selected value is stored at once, a numeric one above its range at its upper limit with status CLAMPED; the answer
carries the settings; whatever then follows in the traffic, the fault flag, the pins, the lockout and the reservation of the port and
everything else stay. A change of kind alone: to LISTEN-ONLY it unkeys a keyed port with its guard, a member into IDLE and a parked one
into PARKED; from LISTEN-ONLY it keys the parked port its console talks to; between HALF and FULL a keyed member stays keyed, its carrier
machine unmasked or masked with the change. An enumerated value outside its range is refused BAD-ARGUMENT naming the first such item by its
place in R1, a port number outside 1..16 BAD-ARGUMENT naming nothing (log 8); that the port number decides where both are outside is the
model's choice (log 28). What follows of polarity, filter, EMG mode and transmit sense stands in CorLineIsConditioned, EmgLineIsConditioned and KeyingIsSupervised (R1, R13, R20, R21, R106, R113, R172). -/
def Obligations.SetPortStores : Prop :=
  (∀ (s : State) (c : Console) (p : PortId) (sel : PortSelection), s.readyFor c →
    (∀ v, sel.kind = some v → v ≤ 2) → (∀ v, sel.corPolarity = some v → v ≤ 1) → (∀ v, sel.glitchFilter = some v → v ≤ 1) →
    (∀ v, sel.transmitSense = some v → v ≤ 1) → (∀ v, sel.emgMode = some v → v ≤ 1) →
    let upTo := fun (limit : Nat) (o : Option Nat) (present : Nat) => (o.map (fun v => min v limit)).getD present
    let above := fun (limit : Nat) (o : Option Nat) => o.any (fun v => decide (limit < v))
    let r := s.port p
    ∃ u : State, exec (.setPort c (portNumber p) sel) s = .next (u.replied c
        ⟨if above 500 sel.qualifyTime || above 1000 sel.dropTime || above 1000 sel.keyUpDelay || above 500 sel.turnaround ||
            above 7 sel.basePriority || above 1023 sel.receiveTrim || above 1023 sel.transmitTrim then .clamped else .ok,
          u.settingsImage p⟩) ∧
      (u.port p).cfg = {
        kind := match sel.kind with
          | some 0 => .half
          | some 1 => .full
          | some _ => .listenOnly
          | none => r.cfg.kind
        corPolarity := match sel.corPolarity with
          | some 0 => .activeLow
          | some _ => .activeHigh
          | none => r.cfg.corPolarity
        glitchFilter := match sel.glitchFilter with
          | some v => v == 1
          | none => r.cfg.glitchFilter
        qualifyTime := upTo 500 sel.qualifyTime r.cfg.qualifyTime
        dropTime := upTo 1000 sel.dropTime r.cfg.dropTime
        keyUpDelay := upTo 1000 sel.keyUpDelay r.cfg.keyUpDelay
        turnaround := upTo 500 sel.turnaround r.cfg.turnaround
        basePriority := upTo 7 sel.basePriority r.cfg.basePriority
        transmitSense := match sel.transmitSense with
          | some v => v == 1
          | none => r.cfg.transmitSense
        emgMode := match sel.emgMode with
          | some 0 => .latch
          | some _ => .level
          | none => r.cfg.emgMode
        receiveTrim := upTo 1023 sel.receiveTrim r.cfg.receiveTrim
        transmitTrim := upTo 1023 sel.transmitTrim r.cfg.transmitTrim } ∧
      ((u.port p).patch = r.patch ∨ (u.port p).patch = none) ∧ (u.port p).fault = r.fault ∧
      (u.port p).lockoutLeft = r.lockoutLeft ∧ (u.port p).reservedBy = r.reservedBy ∧ (u.port p).corPin = r.corPin ∧
      (u.port p).emgPin = r.emgPin ∧ (u.port p).txsPin = r.txsPin ∧
      State.trafficOnly [] [] ((s.heard c).setPort p (u.port p)) u) ∧
  (∀ (s : State) (c : Console) (p : PortId), s.readyFor c → s.raised = [] →
    let r := s.port p
    let turned := fun k : PortKind => ({ r with cfg := { r.cfg with kind := k } } : PortRec)
    let answered := fun (v : Nat) (q : PortRec) =>
      let u := (s.heard c).setPort p q
      exec (.setPort c (portNumber p) { noPortItem with kind := some v }) s = .next (u.replied c ⟨.ok, u.settingsImage p⟩)
    let staysKeyed := fun n : SlotId => r.inRelaySet = true ∧ r.patch = some n ∧ r.fault = false ∧ (s.patch n).mode = .live ∧
      (s.patch n).talker ≠ some (.port p) ∧ .port p ∉ (s.patch n).bids ∧
      ((s.patch n).state = .talk ∨ (s.patch n).state = .closing ∨ (s.patch n).state = .hang)
    (r.cfg.kind ≠ .listenOnly → 0 < r.cfg.turnaround →
      (r.inRelaySet = true → r.patch.isSome = true → r.carrier = .clear → r.qualifyLeft = 0 → r.dropLeft = 0 →
        answered 2 { (turned .listenOnly).unsupervised with state := .idle, guardLeft := r.cfg.turnaround }) ∧
      (r.parkedKeyed = true →
        answered 2 { (turned .listenOnly).unsupervised with state := .parked, guardLeft := r.cfg.turnaround })) ∧
    (∀ d, r.cfg.kind = .listenOnly → r.reservedBy = some d → (s.console d).target = .port p →
      ((s.heard c).console d).request = true →
      (((s.heard c).setPort p (turned .half)).waitsFor d p → answered 0 (turned .half).consoleKeyed) ∧
      (((s.heard c).setPort p (turned .full)).waitsFor d p → answered 1 (turned .full).consoleKeyed)) ∧
    (∀ n, staysKeyed n → r.cfg.kind = .half →
      (0 < r.guardLeft ∨ r.filteredCor = false → answered 1 (turned .full)) ∧
      (r.guardLeft = 0 → r.filteredCor = true → r.carrier = .clear → 0 < r.cfg.qualifyTime →
        answered 1 { turned .full with carrier := .qualifying, qualifyLeft := r.cfg.qualifyTime })) ∧
    (∀ n, staysKeyed n → r.cfg.kind = .full → r.guardLeft = 0 → r.qualified = false →
      answered 0 { turned .half with carrier := .clear, qualifyLeft := 0, dropLeft := 0 })) ∧
  (∀ (s : State) (c : Console) (k : Nat) (sel : PortSelection) (r : Response), s.readyFor c →
    let above := fun (limit : Nat) (o : Option Nat) => o.any (fun v => decide (limit < v))
    firstRow [(decide (k = 0 ∨ 16 < k), ⟨.badArgument, [0#8, 0#8]⟩),
        (above 2 sel.kind, ⟨.badArgument, [3#8, 1#8]⟩), (above 1 sel.corPolarity, ⟨.badArgument, [3#8, 2#8]⟩),
        (above 1 sel.glitchFilter, ⟨.badArgument, [3#8, 3#8]⟩), (above 1 sel.transmitSense, ⟨.badArgument, [3#8, 9#8]⟩),
        (above 1 sel.emgMode, ⟨.badArgument, [3#8, 10#8]⟩)] = some r →
      exec (.setPort c k sel) s = .next ((s.heard c).replied c r))

/-- CLEAR_PORT_CONDITIONS: the selected conditions are cleared together, an emergency in LATCH mode only; the answer carries the three as
they stand; the rest of the port's fixed part and everything but traffic stays. A lockout that is cleared lets an IDLE member with a qualified
carrier bid, as its expiry would; a fault flag that is cleared lets an eligible member be keyed at once, and a parked port its console talks
to; a port number outside 1..16 is refused BAD-ARGUMENT, naming nothing (log 8) (R15, R23, R71, R97, R99, R111, R112, R172). -/
def Obligations.ConditionsAreCleared : Prop :=
  ∀ (s : State) (c : Console) (p : PortId) (sel : ConditionSelection), s.readyFor c →
    let r := s.port p
    let cleared : PortRec := { r with
      fault := r.fault && !sel.fault
      emergency := if sel.emergency = true ∧ r.cfg.emgMode = .latch then false else r.emergency
      lockoutLeft := if sel.lockout = true then 0 else r.lockoutLeft }
    (∃ u : State, exec (.clearPortConditions c (portNumber p) sel) s = .next (u.replied c ⟨.ok, u.conditionsImage p⟩) ∧
      State.trafficOnly [] [] ((s.heard c).setPort p cleared) u) ∧
    (s.raised = [] → r.patch = none → r.isParked = false →
      exec (.clearPortConditions c (portNumber p) sel) s = .next (((s.heard c).setPort p cleared).replied c
        ⟨.ok, [byteOf (if cleared.emergency then 1 else 0), byteOf (if cleared.fault then 1 else 0),
          byteOf (cleared.lockoutLeft / 65536), byteOf (cleared.lockoutLeft / 256), byteOf cleared.lockoutLeft]⟩)) ∧
    (∀ n, s.raised = [] → sel.lockout = true → 0 < r.lockoutLeft → r.qualified = true → r.masked = false → r.state = .idle →
      r.patch = some n → (s.patch n).stands (.port p) = false →
      ((s.patch n).state = .talk → s.keyedQuietly n →
        ∃ u : State, exec (.clearPortConditions c (portNumber p) sel) s = .next (u.replied c ⟨.ok, u.conditionsImage p⟩) ∧
          u.patch n = (((s.heard c).setPort p cleared).takeBid n (.port p)).patch n) ∧
      (s.nobodyTalks n →
        ∃ u : State, exec (.clearPortConditions c (portNumber p) sel) s = .next (u.replied c ⟨.ok, u.conditionsImage p⟩) ∧
          u.port p = { cleared.unsupervised with state := .talker } ∧
          ((s.heard c).setPort p cleared).grantedTo u n (.port p))) ∧
    (∀ n, s.raised = [] → sel.fault = true → r.fault = true → r.state = .idle → r.patch = some n →
      sel.lockout = false ∨ r.lockoutLeft = 0 ∨ r.qualified = false → ((s.heard c).setPort p cleared).relays n p →
      ∃ u : State, exec (.clearPortConditions c (portNumber p) sel) s = .next (u.replied c ⟨.ok, u.conditionsImage p⟩) ∧
        (u.port p).state = r.keyedState ∧ (u.port p).keyUpLeft = r.cfg.keyUpDelay ∧ (u.port p).fault = false) ∧
    (∀ d, s.raised = [] → sel.fault = true → r.fault = true → (s.console d).target = .port p →
      ((s.heard c).console d).request = true → ((s.heard c).setPort p cleared).waitsFor d p →
      let u := (s.heard c).setPort p cleared.consoleKeyed
      exec (.clearPortConditions c (portNumber p) sel) s = .next (u.replied c ⟨.ok, u.conditionsImage p⟩)) ∧
    (∀ k, k = 0 ∨ 16 < k →
      exec (.clearPortConditions c k sel) s = .next ((s.heard c).replied c ⟨.badArgument, [0#8, 0#8]⟩))

/-- RESERVE_PORT: a free port on which the console may act becomes its own and is PARKED, out of its patch's bid list and talk right,
unkeyed with its guard if it was in the relay set, whatever the traffic then does, in a state whose lists and standings are in order
(FloorsStayInAgreement keeps them so) and with no carrier event waiting; a DETACHED port is parked and nothing else happens. A port of the
other console is refused PORT-RESERVED, one already the console's own is answered with nothing done, and a member of a patch without edit
permission is refused NOT-OWNER naming the patch. RELEASE_PORT: the console's own reservation ends, whatever the traffic then does, and
where its talk target names the port the target becomes none; a port in no patch becomes DETACHED, with its guard if it was keyed for the
console, and nothing else happens. A member becomes IDLE: with its carrier qualified, if it was not keyed, it bids: it takes a patch in
which nobody talks, and in TALK its bid is taken as any (HigherBidsPreempt states how); where it does not bid it is keyed at once if it is
eligible, its guard counting on behind, and stays IDLE if not. A port of the other console is refused NOT-PERMITTED, a free one answered
with nothing done, and a number outside 1..16 refused BAD-ARGUMENT in both commands (offenders as log 8 has them) (R4, R34, R71, R72, R97,
R99, R113, R142 to R144, R172). -/
def Obligations.PortsAreReservedAndReleased : Prop :=
  ∀ (s : State) (c : Console) (p : PortId), s.readyFor c →
    let r := s.port p
    let h := s.heard c
    let untargeted := h.setConsole c { h.console c with
      target := if (s.console c).target = .port p then .none else (s.console c).target }
    (r.reservedBy = some (otherConsole c) →
      exec (.reservePort c (portNumber p)) s = .next (h.replied c ⟨.portReserved, [0#8, 0#8]⟩)) ∧
    (r.reservedBy = some c → exec (.reservePort c (portNumber p)) s = .next (h.replied c ⟨.ok, s.reservationImage p⟩)) ∧
    (∀ n, r.reservedBy = none → r.patch = some n → (s.patch n).owner ≠ some c → (s.patch n).shared = false →
      exec (.reservePort c (portNumber p)) s = .next (h.replied c ⟨.notOwner, [2#8, byteOf (slotNumber n)]⟩)) ∧
    (r.reservedBy = none → (∀ n, r.patch = some n → (s.patch n).owner = some c ∨ (s.patch n).shared = true) →
      ∃ u : State, exec (.reservePort c (portNumber p)) s = .next (u.replied c ⟨.ok, u.reservationImage p⟩) ∧
        State.trafficOnly [] [] (h.setPort p { r with reservedBy := some c }) u ∧
        (s.raised = [] → s.membersAgree → s.floorsOrdered → (s.console c).target ≠ .port p →
          (u.port p).state = .parked ∧
          (u.port p).guardLeft = (if r.inRelaySet = true then r.cfg.turnaround else r.guardLeft) ∧
          ∀ n, r.patch = some n → (u.patch n).talker ≠ some (.port p) ∧ .port p ∉ (u.patch n).bids)) ∧
    (s.raised = [] → r.reservedBy = none → r.patch = none → r.state = .detached → (s.console c).target ≠ .port p →
      exec (.reservePort c (portNumber p)) s = .next ((h.setPort p { r.unsupervised with
          state := .parked, reservedBy := some c }).replied c
        ⟨.ok, [byteOf (portNumber p), 5#8, byteOf (consoleNumber c), 0#8]⟩)) ∧
    (r.reservedBy = some (otherConsole c) →
      exec (.releasePort c (portNumber p)) s = .next (h.replied c ⟨.notPermitted, [0#8, 0#8]⟩)) ∧
    (r.reservedBy = none → exec (.releasePort c (portNumber p)) s = .next (h.replied c ⟨.ok, s.reservationImage p⟩)) ∧
    (r.reservedBy = some c →
      ∃ u : State, exec (.releasePort c (portNumber p)) s = .next (u.replied c ⟨.ok, u.reservationImage p⟩) ∧
        State.trafficOnly [] [] (h.setPort p { r with reservedBy := none }) u ∧
        ((s.console c).target = .port p → (u.console c).target = .none)) ∧
    (s.raised = [] → r.reservedBy = some c → r.patch = none → r.state = .parked →
      exec (.releasePort c (portNumber p)) s = .next ((untargeted.setPort p { r.unsupervised with
          state := .detached, reservedBy := none }).replied c ⟨.ok, [byteOf (portNumber p), 0#8, 0#8, 0#8]⟩)) ∧
    (s.raised = [] → r.reservedBy = some c → r.patch = none → r.parkedKeyed = true → 0 < r.cfg.turnaround →
      exec (.releasePort c (portNumber p)) s = .next ((untargeted.setPort p
        { r.unsupervised with state := .detached, reservedBy := none, guardLeft := r.cfg.turnaround }).replied c
          ⟨.ok, [byteOf (portNumber p), 0#8, 0#8, 0#8]⟩)) ∧
    (∀ n, s.raised = [] → r.reservedBy = some c → r.patch = some n →
      r.state = .parked ∨ r.parkedKeyed = true ∧ 0 < r.cfg.turnaround → r.maskedClear →
      (r.qualified = false ∨ 0 < r.lockoutLeft ∨ (s.patch n).state = .closing →
        ∃ u : State, exec (.releasePort c (portNumber p)) s = .next (u.replied c ⟨.ok, u.reservationImage p⟩) ∧
          u.patch n = s.patch n ∧ (u.port p).reservedBy = none ∧ (u.console c).target ≠ .port p ∧
          (u.port p).guardLeft = (if r.parkedKeyed = true then r.cfg.turnaround else r.guardLeft) ∧
          (u.port p).state = (if s.relays n p then r.keyedState else .idle)) ∧
      (r.qualified = true → r.masked = false → r.lockoutLeft = 0 →
        let freed : PortRec := { r.unsupervised with state := .idle, reservedBy := none }
        (s.nobodyTalks n →
          ∃ u : State, exec (.releasePort c (portNumber p)) s = .next (u.replied c ⟨.ok, u.reservationImage p⟩) ∧
            u.port p = { freed with state := .talker } ∧ (untargeted.setPort p freed).grantedTo u n (.port p)) ∧
        ((s.patch n).state = .talk → (s.patch n).stands (.port p) = false → s.keyedQuietly n →
          ∃ u : State, exec (.releasePort c (portNumber p)) s = .next (u.replied c ⟨.ok, u.reservationImage p⟩) ∧
            u.patch n = ((untargeted.setPort p freed).takeBid n (.port p)).patch n))) ∧
    (∀ k, k = 0 ∨ 16 < k →
      exec (.reservePort c k) s = .next (h.replied c ⟨.badArgument, [0#8, 0#8]⟩) ∧
      exec (.releasePort c k) s = .next (h.replied c ⟨.badArgument, [0#8, 0#8]⟩))

/-! ### Commands on patches -/

/-- CREATE_PATCH: the free slot named, or the lowest for 0, is taken by the console, unshared, with the label, the ports in their order
and the default settings LIVE, PREEMPT, threshold 8, level 256, hang time 1500 ms, time-out limit 120 s and lockout time 10 s; the ports
name it; everything but traffic stays. A parked port keeps its state; where no unparked port of the list has its carrier qualified, and is not
locked out, the patch is QUIET and the unparked ports are IDLE in it (R25, R29, R30, R46, R47, R49, R50). -/
def Obligations.PatchIsCreated : Prop :=
  ∀ (s : State) (c : Console) (k : Nat) (n : SlotId) (label : List Byte) (ports : List PortId),
    s.readyFor c → s.membersAgree →
    (s.patch n).state = .unused → (k = slotNumber n ∨ k = 0 ∧ ∀ m, m < n → (s.patch m).state ≠ .unused) →
    label.length ≤ 8 → (∀ b ∈ label, 0x20 ≤ b.toNat ∧ b.toNat ≤ 0x7E) → ports.Nodup →
    (∀ p ∈ ports, (s.port p).patch = none) →
    ∃ u : State, exec (.createPatch c k label (ports.map portNumber)) s = .next (u.replied c
        ⟨.ok, [1#8, byteOf (slotNumber n), byteOf (u.patch n).state.code, byteOf (u.patch n).members.length]⟩) ∧
      (u.patch n).fixedPart = {
        state := .unused, talker := none, partner := none, bids := [], hangLeft := 0, elapsed := 0, limit := none
        label := label, owner := some c, shared := false, members := ports
        mode := .live, style := .preempt, threshold := 8, level := 256, hangTime := 1500, timeOutLimit := 120, lockoutTime := 10 } ∧
      (∀ p ∈ ports, (u.port p).patch = some n) ∧ State.trafficOnly [n] ports (s.heard c) u ∧
      (s.raised = [] → (∀ p ∈ ports, (s.port p).isParked = true → (u.port p).state = (s.port p).state) ∧
        ((∀ p ∈ ports, (s.port p).isParked = true ∨ (s.port p).state = .detached) → (∀ p ∈ ports, (s.port p).joinsSilently) →
          (u.patch n).state = .quiet ∧ (u.patch n).talker = none ∧ (u.patch n).bids = [] ∧
          ∀ p ∈ ports, (s.port p).state = .detached → u.port p = { (s.port p).unsupervised with state := .idle, patch := some n }))

/-- ADD_MEMBERS: ports in no patch are appended in the order given to a patch in use that is not CLOSING, on which the console has edit
permission. Ports that do not bid as they join leave the patch's traffic as it is: an unparked one is keyed where it is eligible, in a LIVE
patch in TALK, and IDLE elsewhere, and a parked one keeps its state; one that is qualified and not locked out bids as it joins, here by
itself. REMOVE_MEMBERS: the members named leave together and the rest keep their order, or the patch, CLOSING, is retired (its slot as log 5
has it). One that leaves is DETACHED, or keeps its state if it is parked, is out of the bid list and the talk right, and has its guard
started if it was in the relay set, in a state whose lists and standings are in order and with no carrier event waiting. Everything but
traffic stays (R29, R30, R34, R46 to R48, R51 to R54, R72, R86, R97). -/
def Obligations.MembersAreAddedAndRemoved : Prop :=
  (∀ (s : State) (c : Console) (n : SlotId) (ports : List PortId),
    s.readyFor c → s.membersAgree →
    (s.patch n).state ≠ .unused → (s.patch n).state ≠ .closing → ((s.patch n).owner = some c ∨ (s.patch n).shared = true) →
    ports ≠ [] → ports.Nodup → (∀ p ∈ ports, (s.port p).patch = none) →
    ∃ u : State, exec (.addMembers c (slotNumber n) (ports.map portNumber)) s = .next (u.replied c
        ⟨.ok, [1#8, byteOf (slotNumber n), byteOf (u.patch n).state.code, byteOf (u.patch n).members.length]⟩) ∧
      (u.patch n).fixedPart = { (s.patch n).fixedPart with members := (s.patch n).members ++ ports } ∧
      (∀ p ∈ ports, (u.port p).patch = some n) ∧ State.trafficOnly [n] ports (s.heard c) u ∧
      (s.raised = [] → (∀ p ∈ ports, (s.port p).isParked = true ∨ (s.port p).state = .detached) →
        (∀ p ∈ ports, (s.port p).joinsSilently) →
        u.patch n = { s.patch n with members := (s.patch n).members ++ ports } ∧
        ∀ p ∈ ports, ((s.port p).isParked = true → u.port p = { s.port p with patch := some n }) ∧
          ((s.port p).state = .detached →
            (s.relays n p → (u.port p).state = (s.port p).keyedState ∧ (u.port p).keyUpLeft = (s.port p).cfg.keyUpDelay) ∧
            (¬s.relays n p → u.port p = { (s.port p).unsupervised with state := .idle, patch := some n }))) ∧
      (∀ p, s.raised = [] → ports = [p] → (s.port p).state = .detached → (s.port p).qualified = true → (s.port p).masked = false →
        (s.port p).lockoutLeft = 0 → s.nobodyTalks n ∨ (s.patch n).state = .talk ∧ s.keyedQuietly n →
        (s.patch n).stands (.port p) = false →
        let joined := (s.setPort p { (s.port p).unsupervised with state := .idle, patch := some n }).setPatch n
          { s.patch n with members := (s.patch n).members ++ [p] }
        u.patch n = (joined.takeBid n (.port p)).patch n)) ∧
  (∀ (s : State) (c : Console) (n : SlotId) (ports : List PortId),
    s.readyFor c → s.membersAgree →
    (s.patch n).state ≠ .unused → ((s.patch n).owner = some c ∨ (s.patch n).shared = true) →
    ports ≠ [] → ports.Nodup → (∀ p ∈ ports, (s.port p).patch = some n) →
    ∃ u : State, exec (.removeMembers c (slotNumber n) (ports.map portNumber)) s = .next (u.replied c
        ⟨.ok, [1#8, byteOf (slotNumber n), byteOf (u.patch n).state.code, byteOf (u.patch n).members.length]⟩) ∧
      ((u.patch n).fixedPart = { (s.patch n).fixedPart with members := (s.patch n).members.filter (fun p => !ports.contains p) } ∨
        (s.patch n).state = .closing ∧ u.patch n = PatchRec.unused) ∧
      (∀ p ∈ ports, (u.port p).patch = none) ∧ State.trafficOnly [n] [] (s.heard c) u ∧
      (s.raised = [] → s.floorsOrdered → ∀ p ∈ ports,
        ((s.port p).isParked = false → (u.port p).state = .detached ∧
          (u.port p).guardLeft = (if (s.port p).inRelaySet = true then (s.port p).cfg.turnaround else (s.port p).guardLeft)) ∧
        ((s.port p).isParked = true → (u.port p).state = (s.port p).state) ∧
        (u.patch n).talker ≠ some (.port p) ∧ .port p ∉ (u.patch n).bids))

/-- MOVE_MEMBER: the port leaves its patch and is appended to the other, both of which the console may edit; everything but traffic stays
(R29, R30, R34, R46 to R48, R55, R56). A patch left in CLOSING may be retired instead (R86; its slot as log 5 has it). The port is out of
the bid list, which names no source twice, and the talk right it left, and has its guard started if it was keyed there; a parked one keeps
its state; one that does not bid as it joins leaves the traffic of the other patch as it is, and is keyed where it is eligible there and
IDLE elsewhere (R97). -/
def Obligations.MemberIsMoved : Prop :=
  ∀ (s : State) (c : Console) (p : PortId) (n d : SlotId),
    s.readyFor c → s.membersAgree → (s.port p).patch = some n → d ≠ n →
    (s.patch d).state ≠ .unused → (s.patch d).state ≠ .closing →
    ((s.patch n).owner = some c ∨ (s.patch n).shared = true) → ((s.patch d).owner = some c ∨ (s.patch d).shared = true) →
    ∃ u : State, exec (.moveMember c (portNumber p) (slotNumber d)) s = .next (u.replied c ⟨.ok, [2#8,
        byteOf (slotNumber n), byteOf (u.patch n).state.code, byteOf (u.patch n).members.length,
        byteOf (slotNumber d), byteOf (u.patch d).state.code, byteOf (u.patch d).members.length]⟩) ∧
      ((u.patch n).fixedPart = { (s.patch n).fixedPart with members := (s.patch n).members.filter (fun q => q != p) } ∨
        (s.patch n).state = .closing ∧ u.patch n = PatchRec.unused) ∧
      (u.patch d).fixedPart = { (s.patch d).fixedPart with members := (s.patch d).members ++ [p] } ∧
      (u.port p).patch = some d ∧ State.trafficOnly [n, d] [p] (s.heard c) u ∧
      ((s.patch n).bids.Nodup → (u.patch n).talker ≠ some (.port p) ∧ .port p ∉ (u.patch n).bids) ∧
      ((s.port p).inRelaySet = true → (u.port p).guardLeft = (s.port p).cfg.turnaround) ∧
      (s.raised = [] → s.standsAtHome n → s.standsAtHome d → (s.port p).joinsSilently → (s.port p).maskedClear →
        (s.port p).inRelaySet = false ∨ 0 < (s.port p).cfg.turnaround →
        u.patch d = { s.patch d with members := (s.patch d).members ++ [p] } ∧
        ((s.port p).isParked = true → (u.port p).state = (s.port p).state) ∧
        ((s.port p).isParked = false → (u.port p).state = (if s.relays d p then (s.port p).keyedState else .idle)))

/-- MERGE_PATCHES: the absorbed patch's members are carried over behind the survivor's, its slot is free (as log 5 has it), no talk target
and no listen entry names it, and the other console is offered PATCH RETIRED; two patches that both have a talker are refused
FLOOR-CONFLICT, naming nothing (log 8). Where no carrier event comes of it, targets and listen entries are renamed to the survivor, an entry
that would stand twice dropped; and the arbiter's fields are joined: the one talker with its count and limit, the lists by priority with the
survivor's entries first (its own list in order), the larger hang, the state that follows. An absorbed partner becomes partner in MIX and a
bid at priority 9 in PREEMPT, behind every console (log 10); in MIX with a port talker and an empty slot the first listed console becomes
partner (R29, R30, R34, R46, R57 to R60). -/
def Obligations.PatchesAreMerged : Prop :=
  ∀ (s : State) (c : Console) (a b : SlotId),
    s.readyFor c → s.membersAgree → a ≠ b →
    (s.patch a).state ≠ .unused → (s.patch a).state ≠ .closing → (s.patch b).state ≠ .unused → (s.patch b).state ≠ .closing →
    ((s.patch a).owner = some c ∨ (s.patch a).shared = true) → ((s.patch b).owner = some c ∨ (s.patch b).shared = true) →
    let ra := s.patch a
    let rb := s.patch b
    (ra.talker.isSome = true → rb.talker.isSome = true →
      exec (.mergePatches c (slotNumber a) (slotNumber b)) s = .next ((s.heard c).replied c ⟨.floorConflict, [0#8, 0#8]⟩)) ∧
    (ra.talker = none ∨ rb.talker = none →
      ∃ u : State, exec (.mergePatches c (slotNumber a) (slotNumber b)) s = .next (u.replied c ⟨.ok, [2#8,
          byteOf (slotNumber a), byteOf (u.patch a).state.code, byteOf (u.patch a).members.length,
          byteOf (slotNumber b), 0#8, 0#8]⟩) ∧
        (u.patch a).fixedPart = { ra.fixedPart with members := ra.members ++ rb.members } ∧
        u.patch b = PatchRec.unused ∧ (∀ p ∈ rb.members, (u.port p).patch = some a) ∧
        (∀ d, (u.console d).target ≠ .patch b ∧ ∀ e ∈ (u.console d).listen, e.patch ≠ b) ∧
        u.offered (otherConsole c) ⟨.patchRetired, slotNumber b⟩ ∧
        State.trafficOnly [a, b] rb.members (s.heard c) u ∧
        (s.raised = [] → s.keyedQuietly a → s.keyedQuietly b →
          (∀ d, (u.console d).target = (if (s.console d).target = .patch b then .patch a else (s.console d).target) ∧
            ((s.console d).inRange →
              (u.console d).listen.Pairwise (fun x y => x.patch < y.patch) ∧
              (∀ e ∈ (u.console d).listen, e.patch ≠ b ∧ e ∈ (s.console d).listen ∨
                e.patch = a ∧ ⟨b, e.level⟩ ∈ (s.console d).listen ∧ ∀ x ∈ (s.console d).listen, x.patch ≠ a) ∧
              ∀ e ∈ (s.console d).listen, (e.patch ≠ b → e ∈ (u.console d).listen) ∧
                (e.patch = b → (∀ x ∈ (s.console d).listen, x.patch ≠ a) → ⟨a, e.level⟩ ∈ (u.console d).listen))) ∧
          (ra.bids.Pairwise (fun x y => s.priority y ≤ s.priority x) →
            let talker := ra.talker.or rb.talker
            let hang := max (if ra.state = .hang then ra.hangLeft else 0) (if rb.state = .hang then rb.hangLeft else 0)
            let promoted := if rb.partner = none ∧ ra.partner = none ∧ ra.style = .mix ∧ (∃ p, talker = some (.port p)) then
              firstConsole (ra.bids ++ rb.bids) else none
            u.patch a = { ra with
              members := ra.members ++ rb.members
              talker := talker
              elapsed := if rb.talker.isSome then rb.elapsed else ra.elapsed
              limit := if rb.talker.isSome then rb.limit else ra.limit
              hangLeft := if talker.isSome then 0 else hang
              state := if talker.isSome then .talk else if 0 < hang then .hang else .quiet
              partner := if ra.style = .mix then rb.partner.or (promoted.or ra.partner) else ra.partner
              bids := (u.patch a).bids } ∧
            (u.patch a).bids.Pairwise (fun x y => s.priority y ≤ s.priority x) ∧
            ∀ k, let joined := ra.bids.filter (fun x => s.priority x == k) ++ rb.bids.filter (fun x => s.priority x == k)
              (u.patch a).bids.filter (fun x => s.priority x == k) =
                match promoted, ra.style, rb.partner with
                | some d, _, _ => joined.erase (.console d)
                | none, .preempt, some d => if k = 9 then joined ++ [.console d] else joined
                | none, _, _ => joined)))

/-- SET_PATCH: the selected label and settings are stored, out of range at the limit with status CLAMPED, a time-out limit of 0 as it is;
the answer carries them as stored; everything but traffic stays. It is taken in every state of a patch in use; in CLOSING, where what
the command changes releases the talker, the patch is retired instead (its slot as log 5 has it), which does not happen where the relay
set is fit and no carrier event waits. A switch of the mode alone: to REHEARSE, every keyed member is unkeyed with its guard, in every state;
to LIVE, the eligible members are keyed in TALK and CLOSING, and none in QUIET and HANG; the mode already held is no switch
(R25, R34, R46, R61, R62, R86, R97, R99, R101, R104). -/
def Obligations.SetPatchStores : Prop :=
  (∀ (s : State) (c : Console) (n : SlotId) (sel : PatchSelection), s.readyFor c → s.membersAgree →
    (s.patch n).state ≠ .unused → ((s.patch n).owner = some c ∨ (s.patch n).shared = true) →
    (∀ v, sel.mode = some v → v ≤ 1) → (∀ v, sel.style = some v → v ≤ 1) →
    (∀ l, sel.label = some l → l.length ≤ 8 ∧ ∀ b ∈ l, 0x20 ≤ b.toNat ∧ b.toNat ≤ 0x7E) →
    let upTo := fun (limit : Nat) (o : Option Nat) (present : Nat) => (o.map (fun v => min v limit)).getD present
    let above := fun (limit : Nat) (o : Option Nat) => o.any (fun v => decide (limit < v))
    let r := s.patch n
    ∃ u : State, exec (.setPatch c (slotNumber n) sel) s = .next (u.replied c
        ⟨if sel.threshold = some 0 ∨ above 10 sel.threshold = true ∨ above 1023 sel.level = true ∨ above 5000 sel.hangTime = true ∨
            (∃ v, sel.timeOutLimit = some v ∧ 0 < v ∧ v < 10) ∨ above 600 sel.timeOutLimit = true ∨
            above 120 sel.lockoutTime = true then .clamped else .ok,
          [1#8, byteOf (slotNumber n), byteOf (u.patch n).state.code, byteOf (u.patch n).members.length] ++
            (u.patch n).settingsBlock⟩) ∧
      ((u.patch n).fixedPart = { r.fixedPart with
        label := sel.label.getD r.label
        mode := match sel.mode with
          | some 0 => .live
          | some _ => .rehearse
          | none => r.mode
        style := match sel.style with
          | some 0 => .preempt
          | some _ => .mix
          | none => r.style
        threshold := (sel.threshold.map (fun v => if v = 0 then 1 else min v 10)).getD r.threshold
        level := upTo 1023 sel.level r.level
        hangTime := upTo 5000 sel.hangTime r.hangTime
        timeOutLimit := (sel.timeOutLimit.map (fun v =>
          if v = 0 then 0 else if v < 10 then 10 else min v 600)).getD r.timeOutLimit
        lockoutTime := upTo 120 sel.lockoutTime r.lockoutTime } ∨
        r.state = .closing ∧ u.patch n = PatchRec.unused ∧ ¬(s.raised = [] ∧ s.relayFit)) ∧
      State.trafficOnly [n] [] (s.heard c) u) ∧
  (∀ (s : State) (c : Console) (n : SlotId), s.readyFor c → s.raised = [] → s.membersAgree → (s.patch n).state ≠ .unused →
    ((s.patch n).owner = some c ∨ (s.patch n).shared = true) →
    let P := s.patch n
    let h := s.heard c
    let turned := h.setPatch n { P with mode := .live }
    let answered := fun (v : Nat) (u : State) =>
      exec (.setPatch c (slotNumber n) { noPatchItem with mode := some v }) s = .next (u.replied c
        ⟨.ok, [1#8, byteOf (slotNumber n), byteOf (u.patch n).state.code, byteOf (u.patch n).members.length] ++
          (u.patch n).settingsBlock⟩)
    (P.mode = .live → answered 0 h) ∧ (P.mode = .rehearse → answered 1 h) ∧
    (P.mode = .live →
      ∃ u : State, answered 1 u ∧ (∀ q ∈ P.members, (u.port q).inRelaySet = false) ∧
        (s.keyedQuietly n →
          u.patch n = { P with mode := .rehearse } ∧ (∀ m, m ≠ n → u.patch m = s.patch m) ∧
          (∀ q ∈ P.members, (s.port q).inRelaySet = true →
            u.port q = { (s.port q).unsupervised with state := .idle, guardLeft := (s.port q).cfg.turnaround }) ∧
          (∀ q, ¬(q ∈ P.members ∧ (s.port q).inRelaySet = true) → u.port q = s.port q) ∧
          u.consoles = h.consoles ∧ u.notices = h.notices)) ∧
    (P.mode = .rehearse → (∀ q ∈ P.members, (s.port q).inRelaySet = false) →
      (P.state = .quiet ∨ P.state = .hang → answered 0 turned) ∧
      (P.state = .talk ∨ P.state = .closing →
        ∃ u : State, answered 0 u ∧ u.patch n = { P with mode := .live } ∧ (∀ m, m ≠ n → u.patch m = s.patch m) ∧
          (∀ q ∈ P.members, (s.port q).isParked = false → turned.relays n q →
            (u.port q).state = (s.port q).keyedState ∧ (u.port q).keyUpLeft = (s.port q).cfg.keyUpDelay ∧ (u.port q).ptt = true) ∧
          (∀ q, ¬(q ∈ P.members ∧ (s.port q).isParked = false ∧ turned.relays n q) → u.port q = s.port q) ∧
          u.consoles = h.consoles ∧ u.notices = h.notices)))

/-- DISSOLVE_NOW in any state, and DISSOLVE_WHEN_CLEAR in QUIET and HANG, retire the patch: its slot is free, its members are in no
patch, no target and no listen entry names it, and the other console is offered PATCH RETIRED. DISSOLVE_WHEN_CLEAR in TALK leaves it
CLOSING with an empty bid list, its talker, its partner and the rest kept, where the relay set is fit and no carrier event waits (in
states that no run reaches its talker may be gone by the action's end, and the patch retired); in CLOSING it is refused PATCH-CLOSING. A
retired slot holds the model's settings of an unused one (log 5) (R34, R46, R63 to R66). -/
def Obligations.PatchIsDissolved : Prop :=
  ∀ (s : State) (c : Console) (n : SlotId), s.readyFor c → s.membersAgree → (s.patch n).state ≠ .unused →
    ((s.patch n).owner = some c ∨ (s.patch n).shared = true) →
    let gone := fun u : State =>
      u.patch n = PatchRec.unused ∧ (∀ p ∈ (s.patch n).members, (u.port p).patch = none) ∧
      (∀ d, (u.console d).target ≠ .patch n ∧ ∀ e ∈ (u.console d).listen, e.patch ≠ n) ∧
      u.offered (otherConsole c) ⟨.patchRetired, slotNumber n⟩ ∧ State.trafficOnly [] [] (s.heard c) u
    (∃ u : State, exec (.dissolveNow c (slotNumber n)) s = .next
      (u.replied c ⟨.ok, [1#8, byteOf (slotNumber n), 0#8, 0#8]⟩) ∧ gone u) ∧
    ((s.patch n).state = .quiet ∨ (s.patch n).state = .hang →
      ∃ u : State, exec (.dissolveWhenClear c (slotNumber n)) s = .next
        (u.replied c ⟨.ok, [1#8, byteOf (slotNumber n), 0#8, 0#8]⟩) ∧ gone u) ∧
    ((s.patch n).state = .closing → exec (.dissolveWhenClear c (slotNumber n)) s = .next
      ((s.heard c).replied c ⟨.patchClosing, [2#8, byteOf (slotNumber n)]⟩)) ∧
    ((s.patch n).state = .talk →
      ∃ u : State, exec (.dissolveWhenClear c (slotNumber n)) s = .next (u.replied c
          ⟨.ok, [1#8, byteOf (slotNumber n), byteOf (u.patch n).state.code, byteOf (u.patch n).members.length]⟩) ∧
        ((u.patch n).state = .closing ∧ (u.patch n).bids = [] ∨ u.patch n = PatchRec.unused) ∧
        (s.raised = [] → s.relayFit → u.patch n = { s.patch n with state := .closing, bids := [] }) ∧
        State.trafficOnly [] [] (s.heard c) u)

/-- R36: SET_SHARING with a patch number outside 1..12 or a value outside the two is refused BAD-ARGUMENT, on a slot not in use
NO-SUCH-PATCH, without edit permission NOT-OWNER, each with nothing changed and, as the rule names no offender, kind 0. Otherwise, in
every state of a patch in use, the flag takes the value, nothing else of the part changes, and the answer is OK with the patch number,
the owner and the flag as they then stand. Console B clearing the flag on a patch of A's gives up its own permission. -/
def Obligations.SharingIsSet : Prop :=
  ∀ (s : State) (c : Console) (k v : Nat), s.readyFor c →
    let h := s.heard c
    (k = 0 ∨ 12 < k ∨ 1 < v → exec (.setSharing c k v) s = .next (h.replied c ⟨.badArgument, [0#8, 0#8]⟩)) ∧
    (∀ n, k = slotNumber n → v ≤ 1 →
      let r := s.patch n
      let u := h.setPatch n { r with shared := v == 1 }
      (r.state = .unused → exec (.setSharing c k v) s = .next (h.replied c ⟨.noSuchPatch, [0#8, 0#8]⟩)) ∧
      (r.state ≠ .unused → r.owner ≠ some c → r.shared = false →
        exec (.setSharing c k v) s = .next (h.replied c ⟨.notOwner, [0#8, 0#8]⟩)) ∧
      (r.state ≠ .unused → r.owner = some c ∨ r.shared = true →
        exec (.setSharing c k v) s = .next (u.replied c ⟨.ok, [byteOf k,
          byteOf ((match r.owner with | none => 0 | some .A => 17 | some .B => 18) + 128 * v)]⟩)) ∧
      (v = 0 → c = .B → r.owner = some .A → (u.patch n).mayEdit .B = false))

/-- R38: TAKE_OVER with a patch number outside 1..12 is refused BAD-ARGUMENT and on a slot not in use NO-SUCH-PATCH. The owner's own
changes nothing and keeps the flag; A takes from B always, B from A while A's link is LOST, and the flag is cleared; B from A while A's
link is UP is refused NOT-PERMITTED. It is taken in every state of a patch in use and changes nothing else; the answer carries the
patch number, the owner and the flag as they then stand, and a refusal, as the rule names no offender, kind 0. -/
def Obligations.PatchIsTakenOver : Prop :=
  ∀ (s : State) (c : Console) (k : Nat), s.readyFor c →
    let h := s.heard c
    (k = 0 ∨ 12 < k → exec (.takeOver c k) s = .next (h.replied c ⟨.badArgument, [0#8, 0#8]⟩)) ∧
    (∀ n, k = slotNumber n →
      let r := s.patch n
      let mine := byteOf (consoleNumber c)
      (r.state = .unused → exec (.takeOver c k) s = .next (h.replied c ⟨.noSuchPatch, [0#8, 0#8]⟩)) ∧
      (r.state ≠ .unused → r.owner = some c →
        exec (.takeOver c k) s = .next (h.replied c ⟨.ok, [byteOf k, byteOf (consoleNumber c + if r.shared then 128 else 0)]⟩)) ∧
      (r.state ≠ .unused → c = .A → r.owner = some .B →
        exec (.takeOver c k) s = .next
          ((h.setPatch n { r with owner := some .A, shared := false }).replied c ⟨.ok, [byteOf k, mine]⟩)) ∧
      (r.state ≠ .unused → c = .B → r.owner = some .A → (s.console .A).link = .lost →
        exec (.takeOver c k) s = .next
          ((h.setPatch n { r with owner := some .B, shared := false }).replied c ⟨.ok, [byteOf k, mine]⟩)) ∧
      (r.state ≠ .unused → c = .B → r.owner = some .A → (s.console .A).link = .up →
        exec (.takeOver c k) s = .next (h.replied c ⟨.notPermitted, [0#8, 0#8]⟩)))

/-! ### Commands refused -/

/-- A command answered with any status but OK and CLAMPED leaves every record as the frame found it: only the answer is queued. Each command
that builds, reshapes or retires patches is refused by the first row of its table that fails, naming the port or the patch that row
concerns, or nothing, or the item of SET_PATCH's selection (offenders as logs 8 and 9 have them). Within a row of several conditions they
stand in the order the row gives them, which the model deduces (log 29), and SET_PATCH's in the order of its checks (R20, R34, R45, R49, R51, R53, R55, R57, R61, R63, R168,
R172). -/
def Obligations.RefusedCommandsChangeNothing : Prop :=
  (∀ (i : Instr) (c : Console) (r : Request) (s : State), i.request? = some (c, r) → s.readyFor c →
    (runRequest c r (s.heard c)).2.status ≠ .ok → (runRequest c r (s.heard c)).2.status ≠ .clamped →
    exec i s = .next ((s.heard c).replied c (runRequest c r (s.heard c)).2)) ∧
  (∀ (s : State) (c : Console) (ks : List Nat) (label : List Byte) (r : Response), s.readyFor c →
    let refused := fun i : Instr => exec i s = .next ((s.heard c).replied c r)
    let nothing := fun st : Status => (⟨st, [0#8, 0#8]⟩ : Response)
    let port := fun (st : Status) (k : Nat) => (⟨st, [1#8, byteOf k]⟩ : Response)
    let patch := fun (st : Status) (k : Nat) => (⟨st, [2#8, byteOf k]⟩ : Response)
    let noSlot := fun k : Nat => decide (k = 0 ∨ 12 < k)
    let free := fun n : SlotId => decide ((s.patch n).state = .unused)
    let closing := fun n : SlotId => decide ((s.patch n).state = .closing)
    let barred := fun n : SlotId => decide ((s.patch n).owner ≠ some c ∧ (s.patch n).shared = false)
    let badLabel := fun l : List Byte => decide (8 < l.length ∨ ∃ b ∈ l, b.toNat < 0x20 ∨ 0x7E < b.toNat)
    let noPort := ks.find? (fun k => decide (k = 0 ∨ 16 < k))
    let twice := ks.find? (fun k => decide (1 < ks.count k))
    let oddPort := ks.find? (fun k => decide (k = 0 ∨ 16 < k ∨ 1 < ks.count k))
    let member := ks.find? (fun k => decide (∃ p : PortId, k = portNumber p ∧ (s.port p).patch ≠ none))
    (∀ slot, firstRow [(decide (12 < slot), patch .badArgument slot), (badLabel label, nothing .badArgument),
        (noPort.isSome, port .badArgument (noPort.getD 0)), (decide (16 < ks.length), nothing .patchFull),
        (twice.isSome, port .badArgument (twice.getD 0)),
        (decide (slot = 0 ∧ ∀ n, (s.patch n).state ≠ .unused), nothing .tableFull),
        (decide (∃ n, slot = slotNumber n ∧ (s.patch n).state ≠ .unused), patch .tableFull slot),
        (member.isSome, port .portInUse (member.getD 0))] = some r → refused (.createPatch c slot label ks)) ∧
    (∀ k, noSlot k = true → r = patch .badArgument k →
      refused (.addMembers c k ks) ∧ refused (.removeMembers c k ks) ∧ (∀ sel, refused (.setPatch c k sel)) ∧
      refused (.dissolveNow c k) ∧ refused (.dissolveWhenClear c k)) ∧
    (∀ n, let k := slotNumber n
      let outsider := ks.find? (fun j => decide (∀ p : PortId, j = portNumber p → (s.port p).patch ≠ some n))
      let again := ks.find? (fun j => decide (1 < ks.count j ∨ ∃ p : PortId, j = portNumber p ∧ (s.port p).patch = some n))
      (firstRow [(ks.isEmpty, nothing .badArgument), (noPort.isSome, port .badArgument (noPort.getD 0)), (free n, patch .noSuchPatch k),
          (barred n, patch .notOwner k), (closing n, patch .patchClosing k),
          (decide (16 < ks.length + (s.patch n).members.length), patch .patchFull k),
          (again.isSome, port .badArgument (again.getD 0)), (member.isSome, port .portInUse (member.getD 0))] = some r →
        refused (.addMembers c k ks)) ∧
      (firstRow [(ks.isEmpty, nothing .badArgument), (oddPort.isSome, port .badArgument (oddPort.getD 0)), (free n, patch .noSuchPatch k),
          (barred n, patch .notOwner k), (outsider.isSome, port .notMember (outsider.getD 0))] = some r →
        refused (.removeMembers c k ks)) ∧
      (∀ sel : PatchSelection,
        firstRow [(sel.mode.any (fun v => decide (1 < v)), ⟨.badArgument, [3#8, 2#8]⟩),
          (sel.style.any (fun v => decide (1 < v)), ⟨.badArgument, [3#8, 3#8]⟩), (sel.label.any badLabel, ⟨.badArgument, [3#8, 1#8]⟩),
          (free n, patch .noSuchPatch k), (barred n, patch .notOwner k)] = some r → refused (.setPatch c k sel)) ∧
      (firstRow [(free n, patch .noSuchPatch k), (barred n, patch .notOwner k)] = some r → refused (.dissolveNow c k)) ∧
      (firstRow [(free n, patch .noSuchPatch k), (barred n, patch .notOwner k), (closing n, patch .patchClosing k)] = some r →
        refused (.dissolveWhenClear c k))) ∧
    (∀ j d, (j = 0 ∨ 16 < j → r = port .badArgument j → refused (.moveMember c j d)) ∧
      (0 < j → j ≤ 16 → noSlot d = true → r = patch .badArgument d → refused (.moveMember c j d))) ∧
    (∀ (p : PortId) (d : SlotId),
      ((s.port p).patch = none → r = port .notMember (portNumber p) → refused (.moveMember c (portNumber p) (slotNumber d))) ∧
      (∀ n, (s.port p).patch = some n →
        firstRow [(free d, patch .noSuchPatch (slotNumber d)), (decide (d = n), patch .badArgument (slotNumber d)),
            (barred n, patch .notOwner (slotNumber n)), (barred d, patch .notOwner (slotNumber d)),
            (closing d, patch .patchClosing (slotNumber d))] = some r →
          refused (.moveMember c (portNumber p) (slotNumber d)))) ∧
    (∀ j k, firstRow [(noSlot j, patch .badArgument j), (noSlot k, patch .badArgument k)] = some r → refused (.mergePatches c j k)) ∧
    (∀ a b : SlotId,
      firstRow [(decide (a = b), patch .badArgument (slotNumber b)),
          (free a, patch .noSuchPatch (slotNumber a)), (free b, patch .noSuchPatch (slotNumber b)),
          (barred a, patch .notOwner (slotNumber a)), (barred b, patch .notOwner (slotNumber b)),
          (closing a, patch .patchClosing (slotNumber a)), (closing b, patch .patchClosing (slotNumber b)),
          (decide ((s.patch a).talker.isSome = true ∧ (s.patch b).talker.isSome = true), nothing .floorConflict)] = some r →
        refused (.mergePatches c (slotNumber a) (slotNumber b))))

/-! ### The arbiter -/

/-- A bid enters a list in order of effective priority after every entry of at least its own, a pre-empted talker ahead of its equals
(R70, R76, R80). A change of effective priority places a listed entry again at its new priority, after every entry of at least that, and
moves nothing where the port is not listed: so SET_PORT of the base priority while no emergency hides it, and CLEAR_PORT_CONDITIONS of an
emergency in LATCH mode (R18, R21, R23, R81, R128). -/
def Obligations.BidListsStayInOrder : Prop :=
  (∀ (s : State) (src : Source) (l : List Source), l.Pairwise (fun a b => s.priority b ≤ s.priority a) →
    (s.insertBid src l).Pairwise (fun a b => s.priority b ≤ s.priority a) ∧
    (s.insertAhead src l).Pairwise (fun a b => s.priority b ≤ s.priority a) ∧
    (∃ a b, l = a ++ b ∧ s.insertBid src l = a ++ src :: b ∧
      (∀ e ∈ a, s.priority src ≤ s.priority e) ∧ ∀ e ∈ b, s.priority e < s.priority src) ∧
    (∃ a b, l = a ++ b ∧ s.insertAhead src l = a ++ src :: b ∧
      (∀ e ∈ a, s.priority src < s.priority e) ∧ ∀ e ∈ b, s.priority e ≤ s.priority src)) ∧
  (∀ (s : State) (c : Console) (p : PortId) (v : Nat), s.readyFor c → s.raised = [] →
    let r := s.port p
    let based := (s.heard c).setPort p { r with cfg := { r.cfg with basePriority := min v 7 } }
    let calmed := (s.heard c).setPort p { r with emergency := false }
    let again := fun (t : State) (n : SlotId) =>
      t.setPatch n { s.patch n with bids := t.insertBid (.port p) ((s.patch n).bids.erase (.port p)) }
    let rebased := fun u : State => exec (.setPort c (portNumber p) { noPortItem with basePriority := some v }) s = .next
      (u.replied c ⟨if 7 < v then .clamped else .ok, u.settingsImage p⟩)
    let cleared := fun u : State => exec (.clearPortConditions c (portNumber p) ⟨false, true, false⟩) s = .next
      (u.replied c ⟨.ok, u.conditionsImage p⟩)
    (r.emergency = true ∨ min v 7 = r.cfg.basePriority ∨ (∀ n, r.patch = some n → .port p ∉ (s.patch n).bids) → rebased based) ∧
    (r.emergency = true → r.cfg.emgMode = .latch → (∀ n, r.patch = some n → .port p ∉ (s.patch n).bids) → cleared calmed) ∧
    (∀ n, r.patch = some n → .port p ∈ (s.patch n).bids →
      (r.emergency = false → min v 7 ≠ r.cfg.basePriority → rebased (again based n)) ∧
      (r.emergency = true → r.cfg.emgMode = .latch → cleared (again calmed n))))

/-- A bid on a PREEMPT patch in TALK: at least the threshold and above a port talker's priority it takes the talk right, the former
talker goes to the list ahead of its equals and IDLE, and PREEMPTED and FLOOR CHANGE are offered; otherwise, and against a console
talker, it is listed. A listed port whose emergency sets is checked in the same way. On a MIX patch with a port talker and an empty slot a
console becomes partner, without a grant; every other bid is listed. SET_PATCH of the style from MIX to PREEMPT removes the partner and
takes its bid anew: it pre-empts, or with threshold 10 is listed; in CLOSING it is only removed
(R69, R75, R76, R79, R80, R82, R88, R90, R128). -/
def Obligations.HigherBidsPreempt : Prop :=
  (∀ (s : State) (n : SlotId) (src : Source), (s.patch n).state = .talk → (s.patch n).style = .preempt →
    (∀ t, (s.patch n).talker = some (.port t) → src ≠ .port t →
      ((s.patch n).threshold ≤ s.priority src → (s.port t).priority < s.priority src →
        ((s.takeBid n src).patch n).talker = some src ∧ ((s.takeBid n src).patch n).state = .talk ∧
        ((s.takeBid n src).patch n).elapsed = 0 ∧
        ((s.takeBid n src).patch n).bids = s.insertAhead (.port t) ((s.patch n).bids.erase src) ∧
        ((s.port t).state = .talker → ((s.takeBid n src).port t).state = .idle) ∧
        (∀ p, src = .port p → ((s.takeBid n src).port p).state = .talker) ∧
        (∀ c, (s.takeBid n src).offered c ⟨.preempted, portNumber t⟩ ∧ (s.takeBid n src).offered c ⟨.floorChange, slotNumber n⟩)) ∧
      (s.priority src < (s.patch n).threshold ∨ s.priority src ≤ (s.port t).priority →
        s.takeBid n src = s.setPatch n { s.patch n with bids := s.insertBid src (s.patch n).bids })) ∧
    (∀ c, (s.patch n).talker = some (.console c) →
      s.takeBid n src = s.setPatch n { s.patch n with bids := s.insertBid src (s.patch n).bids })) ∧
  (∀ (s : State) (n : SlotId) (p t : PortId), (s.patch n).state = .talk → (s.patch n).style = .preempt →
    (s.port p).patch = some n → .port p ∈ (s.patch n).bids → (s.patch n).bids.Nodup → (s.patch n).talker = some (.port t) → t ≠ p →
    (s.patch n).threshold ≤ (s.port p).priority → (s.port t).priority < (s.port p).priority →
    let u := s.priorityChanged p true
    u.patch n = { s.patch n with
      talker := some (.port p), elapsed := 0, hangLeft := 0, limit := some ((s.patch n).timeOutLimit * 1000)
      bids := s.insertAhead (.port t) ((s.patch n).bids.erase (.port p)) } ∧
    (u.port p).state = .talker ∧
    ∀ c, u.offered c ⟨.preempted, portNumber t⟩ ∧ u.offered c ⟨.floorChange, slotNumber n⟩) ∧
  (∀ (s : State) (n : SlotId), (s.patch n).state = .talk → (s.patch n).style = .mix →
    (∀ c t, (s.patch n).talker = some (.port t) → (s.patch n).partner = none →
      s.takeBid n (.console c) = s.setPatch n { s.patch n with partner := some c }) ∧
    (∀ src, (∀ t, (s.patch n).talker ≠ some (.port t)) ∨ (s.patch n).partner ≠ none ∨ (∃ p, src = .port p) →
      s.takeBid n src = s.setPatch n { s.patch n with bids := s.insertBid src (s.patch n).bids })) ∧
  (∀ (s : State) (c d : Console) (n : SlotId), s.readyFor c → s.raised = [] → s.keyedQuietly n →
    ((s.patch n).owner = some c ∨ (s.patch n).shared = true) → (s.patch n).style = .mix → (s.patch n).partner = some d →
    let P := s.patch n
    let answered := fun u : State => exec (.setPatch c (slotNumber n) { noPatchItem with style := some 0 }) s = .next (u.replied c
      ⟨.ok, [1#8, byteOf (slotNumber n), byteOf (u.patch n).state.code, byteOf (u.patch n).members.length] ++
        (u.patch n).settingsBlock⟩)
    (∀ t, P.state = .talk → P.talker = some (.port t) →
      (P.threshold ≤ 9 → (s.port t).priority < 9 →
        ∃ u : State, answered u ∧
          u.patch n = { P with
            style := .preempt, talker := some (.console d), partner := none, elapsed := 0, hangLeft := 0, limit := none
            bids := s.insertAhead (.port t) (P.bids.erase (.console d)) } ∧
          ∀ e, u.offered e ⟨.preempted, portNumber t⟩ ∧ u.offered e ⟨.floorChange, slotNumber n⟩) ∧
      (9 < P.threshold →
        ∃ u : State, answered u ∧
          u.patch n = { P with style := .preempt, partner := none, bids := s.insertBid (.console d) P.bids })) ∧
    (P.state = .closing → answered ((s.heard c).setPatch n { P with style := .preempt, partner := none })))

/-- The talk right a talker loses in TALK passes to the mix partner, else to the head of the bid list; with neither the patch hangs for
its hang time, or is QUIET where that is 0 (R77, R85, R92). In CLOSING the release retires the patch: its slot is free (as log 5 has it),
its members are in no patch, no target and no listen entry names it, the talk requests stand, and PATCH RETIRED is offered to both
consoles, or, where the release is the outcome of a console's own command, to the other one only (R65, R66, R86). A partner that leaves in
TALK with a port talker is followed by the first listed console, without a grant; without one, and in CLOSING, the slot stays empty
(R74, R89). -/
def Obligations.ReleaseHasItsOutcome : Prop :=
  (∀ (s : State) (n : SlotId) (but : Option Console), (s.patch n).state = .talk →
    let t := (s.release n but).patch n
    (∀ d, (s.patch n).partner = some d → t.talker = some (.console d) ∧ t.partner = none ∧ t.state = .talk ∧ t.limit = none) ∧
    (∀ b l, (s.patch n).partner = none → (s.patch n).bids = b :: l → t.talker = some b ∧ t.bids = l ∧ t.state = .talk ∧ t.elapsed = 0) ∧
    ((s.patch n).partner = none → (s.patch n).bids = [] → t.talker = none ∧ t.limit = none ∧
      (0 < (s.patch n).hangTime → t.state = .hang ∧ t.hangLeft = (s.patch n).hangTime) ∧
      ((s.patch n).hangTime = 0 → t.state = .quiet))) ∧
  (∀ (s : State) (n : SlotId) (but : Option Console), (s.patch n).state = .closing →
    let t := s.release n but
    t.patch n = PatchRec.unused ∧ (∀ m, m ≠ n → t.patch m = s.patch m) ∧
    (∀ p ∈ (s.patch n).members, (t.port p).patch = none ∧ (t.port p).inRelaySet = false) ∧
    (∀ c, (t.console c).target = (if (s.console c).target = .patch n then .none else (s.console c).target) ∧
      (t.console c).request = (s.console c).request ∧ ∀ e, e ∈ (t.console c).listen ↔ e ∈ (s.console c).listen ∧ e.patch ≠ n) ∧
    ∀ c, t.notice c = (if but = some c then s.notice c else (s.notice c).offer ⟨.patchRetired, slotNumber n⟩)) ∧
  (∀ (s : State) (n : SlotId) (c : Console), (s.patch n).partner = some c → (s.patch n).talker ≠ some (.console c) →
    let t := (s.consoleLeaves c n).patch n
    (∀ p d before after, (s.patch n).state = .talk → (s.patch n).talker = some (.port p) →
      (s.patch n).bids = before ++ .console d :: after → (∀ e ∈ before, ∃ q, e = .port q) →
      t = { s.patch n with partner := some d, bids := before ++ after }) ∧
    ((s.patch n).state ≠ .talk ∨ (∀ p, (s.patch n).talker ≠ some (.port p)) ∨ (∀ d, .console d ∉ (s.patch n).bids) →
      t = { s.patch n with partner := none }))

/-- The keying unit's evaluation of a patch keys a member that is not keyed exactly where R97 makes it eligible, and unkeys a keyed one
exactly where it is not, or, in HANG, where it is no longer fit to be held (R97, R98, R99, R101, R102). -/
def Obligations.RelaySetIsTheEligibleSet : Prop :=
  ∀ (s : State) (n : SlotId) (q : PortId), (s.patch n).members.Nodup → q ∈ (s.patch n).members → (s.port q).patch = some n →
    let r := s.port q
    let P := s.patch n
    let held := P.mode = .live ∧ r.cfg.kind ≠ .listenOnly ∧ r.isParked = false ∧ r.fault = false
    let eligible := held ∧ (P.state = .talk ∨ P.state = .closing) ∧ P.talker ≠ some (.port q) ∧
      (r.cfg.kind = .half → .port q ∉ P.bids ∧ (r.carrier = .clear ∨ r.carrier = .qualifying))
    let t := (s.evalPatch n).port q
    (r.inRelaySet = false → eligible →
      t.state = (if r.cfg.keyUpDelay = 0 then .relay else .keyUp) ∧ t.keyUpLeft = r.cfg.keyUpDelay ∧ t.ptt = true) ∧
    (r.inRelaySet = false → ¬eligible → t = r) ∧
    (r.inRelaySet = true → (if P.state = .hang then held else eligible) → t = r) ∧
    (r.inRelaySet = true → ¬(if P.state = .hang then held else eligible) →
      t.state = .idle ∧ t.ptt = false ∧ t.guardLeft = r.cfg.turnaround ∧ t.keyUpLeft = 0 ∧ t.startWindow = 0 ∧
      t.startCheck = .pending ∧ t.lossLeft = 0)

/-! ### Headlines: frames and commands -/

/-- Reading the payload that carries a well-formed command gives the command back, every argument at every value the frame admits
(R168, R173). -/
def Obligations.ParseOfEncodeIsTheCommand : Prop :=
  ∀ r : Request, r.wellFormed = true → parsePayload (encodeRequest r) = .request r

/-- The characters of the frame that carries a well-formed command, each with even parity and its stop bit, received one after the other
on a link in any state of its receiving half, come to what the command's row does (R163 to R168; the row as the model reads it, log 18). -/
def Obligations.FrameOnTheLineIsTheCommand : Prop :=
  ∀ (i : Instr) (c : Console) (r : Request) (s t : State), i.request? = some (c, r) → i.wellFormed = true → s.resetLine = false →
    exec i s = .next t →
    s.after ((frameChars (encodeRequest r)).map (fun b => .characterReceived c (LineChar.sent b))) = some t

/-! ### Headlines: what every step keeps -/

/-- While a carrier machine is masked its state is CLEAR (R10 to R12). -/
def Obligations.MaskedMachinesStayClear : Prop :=
  ∀ s t : State, s.maskedClear → step s = .next t → t.maskedClear

/-- A port's patch field names exactly the patch whose list contains it, no list names a port twice, and a slot out of use is empty
(R24, R29, R30), with the settings the model writes there (log 5). -/
def Obligations.MembershipsStayInAgreement : Prop :=
  ∀ s t : State, s.membersAgree → step s = .next t → t.membersAgree

/-- The talker, the partner and the bid list agree with the patch's state (R26, R64, R70, R77, R85); and a bid list holds no source
twice, nor the talker or the partner, only members of its patch and consoles that talk to it with their request active, in order of
effective priority, and a partner stands only beside a port talker in style MIX (R70, R73, R74, R88). -/
def Obligations.FloorsStayInAgreement : Prop :=
  ∀ s t : State, s.membersAgree → s.floorsAgree → step s = .next t →
    t.floorsAgree ∧ (s.floorsOrdered → t.floorsOrdered)

/-- A response queue holds at most 4, a receiver at most 65 unescaped bytes, a pending set at most 32 entries, each once and of an
enabled kind, and bit 7 of a mask stays set (R166, R169, R180, R181); and every setting of a port, a patch and a console stays in its
range (R1, R20, R25, R61, R131, R139, R140, R179). -/
def Obligations.LimitsAreKept : Prop :=
  ∀ s t : State, step s = .next t →
    (s.linksBounded → t.linksBounded) ∧ (s.settingsInRange → t.settingsInRange)

/-- A port in KEYUP or RELAY is a member of a LIVE patch in TALK, HANG or CLOSING whose talker it is not, is not LISTEN-ONLY and has its
fault flag clear (R97, R98, R102, R104, R106, R109). -/
def Obligations.RelaySetsStayFit : Prop :=
  ∀ s t : State, s.membersAgree → s.relayFit → step s = .next t → t.relayFit

/-- The seven invariants hold right after power-on. -/
def Obligations.InvariantsHoldAtReset : Prop :=
  State.reset.maskedClear ∧ State.reset.membersAgree ∧ State.reset.floorsAgree ∧ State.reset.floorsOrdered ∧ State.reset.linksBounded ∧
    State.reset.settingsInRange ∧ State.reset.relayFit

end Statements
end

