-- ==== Sys2Proof/Laws/State.lean ====
section
/-! SUPPORT. One lemma per field per update of State, all true by rfl, and what the readers of records give after each writer. -/

namespace Sys2Proof.Machine

/-! ### setPort -/

@[simp] theorem State.setPort_pending (s : State) (p : PortId) (r : PortRec) : (s.setPort p r).pending = s.pending := rfl
@[simp] theorem State.setPort_patches (s : State) (p : PortId) (r : PortRec) : (s.setPort p r).patches = s.patches := rfl
@[simp] theorem State.setPort_consoles (s : State) (p : PortId) (r : PortRec) : (s.setPort p r).consoles = s.consoles := rfl
@[simp] theorem State.setPort_links (s : State) (p : PortId) (r : PortRec) : (s.setPort p r).links = s.links := rfl
@[simp] theorem State.setPort_notices (s : State) (p : PortId) (r : PortRec) : (s.setPort p r).notices = s.notices := rfl
@[simp] theorem State.setPort_inputs (s : State) (p : PortId) (r : PortRec) : (s.setPort p r).inputs = s.inputs := rfl
@[simp] theorem State.setPort_outputs (s : State) (p : PortId) (r : PortRec) : (s.setPort p r).outputs = s.outputs := rfl
@[simp] theorem State.setPort_resetCause (s : State) (p : PortId) (r : PortRec) : (s.setPort p r).resetCause = s.resetCause := rfl
@[simp] theorem State.setPort_resetLine (s : State) (p : PortId) (r : PortRec) : (s.setPort p r).resetLine = s.resetLine := rfl
@[simp] theorem State.setPort_coldStart (s : State) (p : PortId) (r : PortRec) : (s.setPort p r).coldStart = s.coldStart := rfl
@[simp] theorem State.setPort_restartFirst (s : State) (p : PortId) (r : PortRec) : (s.setPort p r).restartFirst = s.restartFirst := rfl
@[simp] theorem State.setPort_raised (s : State) (p : PortId) (r : PortRec) : (s.setPort p r).raised = s.raised := rfl
@[simp] theorem State.setPort_patch (s : State) (p : PortId) (r : PortRec) (m : SlotId) : (s.setPort p r).patch m = s.patch m := rfl
@[simp] theorem State.setPort_console (s : State) (p : PortId) (r : PortRec) (d : Console) : (s.setPort p r).console d = s.console d := rfl
@[simp] theorem State.setPort_link (s : State) (p : PortId) (r : PortRec) (d : Console) : (s.setPort p r).link d = s.link d := rfl
@[simp] theorem State.setPort_notice (s : State) (p : PortId) (r : PortRec) (d : Console) : (s.setPort p r).notice d = s.notice d := rfl

/-! ### setPatch -/

@[simp] theorem State.setPatch_pending (s : State) (n : SlotId) (r : PatchRec) : (s.setPatch n r).pending = s.pending := rfl
@[simp] theorem State.setPatch_ports (s : State) (n : SlotId) (r : PatchRec) : (s.setPatch n r).ports = s.ports := rfl
@[simp] theorem State.setPatch_consoles (s : State) (n : SlotId) (r : PatchRec) : (s.setPatch n r).consoles = s.consoles := rfl
@[simp] theorem State.setPatch_links (s : State) (n : SlotId) (r : PatchRec) : (s.setPatch n r).links = s.links := rfl
@[simp] theorem State.setPatch_notices (s : State) (n : SlotId) (r : PatchRec) : (s.setPatch n r).notices = s.notices := rfl
@[simp] theorem State.setPatch_inputs (s : State) (n : SlotId) (r : PatchRec) : (s.setPatch n r).inputs = s.inputs := rfl
@[simp] theorem State.setPatch_outputs (s : State) (n : SlotId) (r : PatchRec) : (s.setPatch n r).outputs = s.outputs := rfl
@[simp] theorem State.setPatch_resetCause (s : State) (n : SlotId) (r : PatchRec) : (s.setPatch n r).resetCause = s.resetCause := rfl
@[simp] theorem State.setPatch_resetLine (s : State) (n : SlotId) (r : PatchRec) : (s.setPatch n r).resetLine = s.resetLine := rfl
@[simp] theorem State.setPatch_coldStart (s : State) (n : SlotId) (r : PatchRec) : (s.setPatch n r).coldStart = s.coldStart := rfl
@[simp] theorem State.setPatch_restartFirst (s : State) (n : SlotId) (r : PatchRec) : (s.setPatch n r).restartFirst = s.restartFirst := rfl
@[simp] theorem State.setPatch_raised (s : State) (n : SlotId) (r : PatchRec) : (s.setPatch n r).raised = s.raised := rfl
@[simp] theorem State.setPatch_port (s : State) (n : SlotId) (r : PatchRec) (q : PortId) : (s.setPatch n r).port q = s.port q := rfl
@[simp] theorem State.setPatch_console (s : State) (n : SlotId) (r : PatchRec) (d : Console) : (s.setPatch n r).console d = s.console d := rfl
@[simp] theorem State.setPatch_link (s : State) (n : SlotId) (r : PatchRec) (d : Console) : (s.setPatch n r).link d = s.link d := rfl
@[simp] theorem State.setPatch_notice (s : State) (n : SlotId) (r : PatchRec) (d : Console) : (s.setPatch n r).notice d = s.notice d := rfl

/-! ### setConsole -/

@[simp] theorem State.setConsole_pending (s : State) (c : Console) (r : ConsoleRec) : (s.setConsole c r).pending = s.pending := rfl
@[simp] theorem State.setConsole_ports (s : State) (c : Console) (r : ConsoleRec) : (s.setConsole c r).ports = s.ports := rfl
@[simp] theorem State.setConsole_patches (s : State) (c : Console) (r : ConsoleRec) : (s.setConsole c r).patches = s.patches := rfl
@[simp] theorem State.setConsole_links (s : State) (c : Console) (r : ConsoleRec) : (s.setConsole c r).links = s.links := rfl
@[simp] theorem State.setConsole_notices (s : State) (c : Console) (r : ConsoleRec) : (s.setConsole c r).notices = s.notices := rfl
@[simp] theorem State.setConsole_inputs (s : State) (c : Console) (r : ConsoleRec) : (s.setConsole c r).inputs = s.inputs := rfl
@[simp] theorem State.setConsole_outputs (s : State) (c : Console) (r : ConsoleRec) : (s.setConsole c r).outputs = s.outputs := rfl
@[simp] theorem State.setConsole_resetCause (s : State) (c : Console) (r : ConsoleRec) : (s.setConsole c r).resetCause = s.resetCause := rfl
@[simp] theorem State.setConsole_resetLine (s : State) (c : Console) (r : ConsoleRec) : (s.setConsole c r).resetLine = s.resetLine := rfl
@[simp] theorem State.setConsole_coldStart (s : State) (c : Console) (r : ConsoleRec) : (s.setConsole c r).coldStart = s.coldStart := rfl
@[simp] theorem State.setConsole_restartFirst (s : State) (c : Console) (r : ConsoleRec) : (s.setConsole c r).restartFirst = s.restartFirst := rfl
@[simp] theorem State.setConsole_raised (s : State) (c : Console) (r : ConsoleRec) : (s.setConsole c r).raised = s.raised := rfl
@[simp] theorem State.setConsole_port (s : State) (c : Console) (r : ConsoleRec) (q : PortId) : (s.setConsole c r).port q = s.port q := rfl
@[simp] theorem State.setConsole_patch (s : State) (c : Console) (r : ConsoleRec) (m : SlotId) : (s.setConsole c r).patch m = s.patch m := rfl
@[simp] theorem State.setConsole_link (s : State) (c : Console) (r : ConsoleRec) (d : Console) : (s.setConsole c r).link d = s.link d := rfl
@[simp] theorem State.setConsole_notice (s : State) (c : Console) (r : ConsoleRec) (d : Console) : (s.setConsole c r).notice d = s.notice d := rfl

/-! ### setLink -/

@[simp] theorem State.setLink_pending (s : State) (c : Console) (u : LinkUnit) : (s.setLink c u).pending = s.pending := rfl
@[simp] theorem State.setLink_ports (s : State) (c : Console) (u : LinkUnit) : (s.setLink c u).ports = s.ports := rfl
@[simp] theorem State.setLink_patches (s : State) (c : Console) (u : LinkUnit) : (s.setLink c u).patches = s.patches := rfl
@[simp] theorem State.setLink_consoles (s : State) (c : Console) (u : LinkUnit) : (s.setLink c u).consoles = s.consoles := rfl
@[simp] theorem State.setLink_notices (s : State) (c : Console) (u : LinkUnit) : (s.setLink c u).notices = s.notices := rfl
@[simp] theorem State.setLink_inputs (s : State) (c : Console) (u : LinkUnit) : (s.setLink c u).inputs = s.inputs := rfl
@[simp] theorem State.setLink_outputs (s : State) (c : Console) (u : LinkUnit) : (s.setLink c u).outputs = s.outputs := rfl
@[simp] theorem State.setLink_resetCause (s : State) (c : Console) (u : LinkUnit) : (s.setLink c u).resetCause = s.resetCause := rfl
@[simp] theorem State.setLink_resetLine (s : State) (c : Console) (u : LinkUnit) : (s.setLink c u).resetLine = s.resetLine := rfl
@[simp] theorem State.setLink_coldStart (s : State) (c : Console) (u : LinkUnit) : (s.setLink c u).coldStart = s.coldStart := rfl
@[simp] theorem State.setLink_restartFirst (s : State) (c : Console) (u : LinkUnit) : (s.setLink c u).restartFirst = s.restartFirst := rfl
@[simp] theorem State.setLink_raised (s : State) (c : Console) (u : LinkUnit) : (s.setLink c u).raised = s.raised := rfl
@[simp] theorem State.setLink_port (s : State) (c : Console) (u : LinkUnit) (q : PortId) : (s.setLink c u).port q = s.port q := rfl
@[simp] theorem State.setLink_patch (s : State) (c : Console) (u : LinkUnit) (m : SlotId) : (s.setLink c u).patch m = s.patch m := rfl
@[simp] theorem State.setLink_console (s : State) (c : Console) (u : LinkUnit) (d : Console) : (s.setLink c u).console d = s.console d := rfl
@[simp] theorem State.setLink_notice (s : State) (c : Console) (u : LinkUnit) (d : Console) : (s.setLink c u).notice d = s.notice d := rfl

/-! ### setNotice -/

@[simp] theorem State.setNotice_pending (s : State) (c : Console) (u : NoticeUnit) : (s.setNotice c u).pending = s.pending := rfl
@[simp] theorem State.setNotice_ports (s : State) (c : Console) (u : NoticeUnit) : (s.setNotice c u).ports = s.ports := rfl
@[simp] theorem State.setNotice_patches (s : State) (c : Console) (u : NoticeUnit) : (s.setNotice c u).patches = s.patches := rfl
@[simp] theorem State.setNotice_consoles (s : State) (c : Console) (u : NoticeUnit) : (s.setNotice c u).consoles = s.consoles := rfl
@[simp] theorem State.setNotice_links (s : State) (c : Console) (u : NoticeUnit) : (s.setNotice c u).links = s.links := rfl
@[simp] theorem State.setNotice_inputs (s : State) (c : Console) (u : NoticeUnit) : (s.setNotice c u).inputs = s.inputs := rfl
@[simp] theorem State.setNotice_outputs (s : State) (c : Console) (u : NoticeUnit) : (s.setNotice c u).outputs = s.outputs := rfl
@[simp] theorem State.setNotice_resetCause (s : State) (c : Console) (u : NoticeUnit) : (s.setNotice c u).resetCause = s.resetCause := rfl
@[simp] theorem State.setNotice_resetLine (s : State) (c : Console) (u : NoticeUnit) : (s.setNotice c u).resetLine = s.resetLine := rfl
@[simp] theorem State.setNotice_coldStart (s : State) (c : Console) (u : NoticeUnit) : (s.setNotice c u).coldStart = s.coldStart := rfl
@[simp] theorem State.setNotice_restartFirst (s : State) (c : Console) (u : NoticeUnit) : (s.setNotice c u).restartFirst = s.restartFirst := rfl
@[simp] theorem State.setNotice_raised (s : State) (c : Console) (u : NoticeUnit) : (s.setNotice c u).raised = s.raised := rfl
@[simp] theorem State.setNotice_port (s : State) (c : Console) (u : NoticeUnit) (q : PortId) : (s.setNotice c u).port q = s.port q := rfl
@[simp] theorem State.setNotice_patch (s : State) (c : Console) (u : NoticeUnit) (m : SlotId) : (s.setNotice c u).patch m = s.patch m := rfl
@[simp] theorem State.setNotice_console (s : State) (c : Console) (u : NoticeUnit) (d : Console) : (s.setNotice c u).console d = s.console d := rfl
@[simp] theorem State.setNotice_link (s : State) (c : Console) (u : NoticeUnit) (d : Console) : (s.setNotice c u).link d = s.link d := rfl

/-! ### raise -/

@[simp] theorem State.raise_pending (s : State) (p : PortId) (news : List CarrierNews) : (s.raise p news).pending = s.pending := rfl
@[simp] theorem State.raise_ports (s : State) (p : PortId) (news : List CarrierNews) : (s.raise p news).ports = s.ports := rfl
@[simp] theorem State.raise_patches (s : State) (p : PortId) (news : List CarrierNews) : (s.raise p news).patches = s.patches := rfl
@[simp] theorem State.raise_consoles (s : State) (p : PortId) (news : List CarrierNews) : (s.raise p news).consoles = s.consoles := rfl
@[simp] theorem State.raise_links (s : State) (p : PortId) (news : List CarrierNews) : (s.raise p news).links = s.links := rfl
@[simp] theorem State.raise_notices (s : State) (p : PortId) (news : List CarrierNews) : (s.raise p news).notices = s.notices := rfl
@[simp] theorem State.raise_inputs (s : State) (p : PortId) (news : List CarrierNews) : (s.raise p news).inputs = s.inputs := rfl
@[simp] theorem State.raise_outputs (s : State) (p : PortId) (news : List CarrierNews) : (s.raise p news).outputs = s.outputs := rfl
@[simp] theorem State.raise_resetCause (s : State) (p : PortId) (news : List CarrierNews) : (s.raise p news).resetCause = s.resetCause := rfl
@[simp] theorem State.raise_resetLine (s : State) (p : PortId) (news : List CarrierNews) : (s.raise p news).resetLine = s.resetLine := rfl
@[simp] theorem State.raise_coldStart (s : State) (p : PortId) (news : List CarrierNews) : (s.raise p news).coldStart = s.coldStart := rfl
@[simp] theorem State.raise_restartFirst (s : State) (p : PortId) (news : List CarrierNews) : (s.raise p news).restartFirst = s.restartFirst := rfl
@[simp] theorem State.raise_port (s : State) (p : PortId) (news : List CarrierNews) (q : PortId) : (s.raise p news).port q = s.port q := rfl
@[simp] theorem State.raise_patch (s : State) (p : PortId) (news : List CarrierNews) (m : SlotId) : (s.raise p news).patch m = s.patch m := rfl
@[simp] theorem State.raise_console (s : State) (p : PortId) (news : List CarrierNews) (d : Console) : (s.raise p news).console d = s.console d := rfl
@[simp] theorem State.raise_link (s : State) (p : PortId) (news : List CarrierNews) (d : Console) : (s.raise p news).link d = s.link d := rfl
@[simp] theorem State.raise_notice (s : State) (p : PortId) (news : List CarrierNews) (d : Console) : (s.raise p news).notice d = s.notice d := rfl

/-! ### What a writer's own reader gives -/

theorem State.setPort_port (s : State) (p q : PortId) (r : PortRec) :
    (s.setPort p r).port q = if q = p then r else s.port q := by
  unfold State.setPort State.port
  by_cases h : q = p
  · subst h; simp
  · have : p.val ≠ q.val := fun e => h (Fin.ext e.symm)
    simp [h, Vector.getElem_set_ne, this]

@[simp] theorem State.setPort_port_same (s : State) (p : PortId) (r : PortRec) : (s.setPort p r).port p = r := by
  simp [State.setPort_port]

theorem State.setPatch_patch (s : State) (n m : SlotId) (r : PatchRec) :
    (s.setPatch n r).patch m = if m = n then r else s.patch m := by
  unfold State.setPatch State.patch
  by_cases h : m = n
  · subst h; simp
  · have : n.val ≠ m.val := fun e => h (Fin.ext e.symm)
    simp [h, Vector.getElem_set_ne, this]

@[simp] theorem State.setPatch_patch_same (s : State) (n : SlotId) (r : PatchRec) : (s.setPatch n r).patch n = r := by
  simp [State.setPatch_patch]

theorem Pair.get_set {α : Type} (x : Pair α) (c d : Console) (v : α) : (x.set c v).get d = if d = c then v else x.get d := by
  cases c <;> cases d <;> rfl

@[simp] theorem Pair.get_set_same {α : Type} (x : Pair α) (c : Console) (v : α) : (x.set c v).get c = v := by cases c <;> rfl

@[simp] theorem Pair.get_map {α β : Type} (f : α → β) (x : Pair α) (c : Console) : (x.map f).get c = f (x.get c) := by
  cases c <;> rfl

theorem State.setConsole_console (s : State) (c d : Console) (r : ConsoleRec) :
    (s.setConsole c r).console d = if d = c then r else s.console d := Pair.get_set _ _ _ _

@[simp] theorem State.setConsole_console_same (s : State) (c : Console) (r : ConsoleRec) : (s.setConsole c r).console c = r :=
  Pair.get_set_same _ _ _

theorem State.setLink_link (s : State) (c d : Console) (u : LinkUnit) :
    (s.setLink c u).link d = if d = c then u else s.link d := Pair.get_set _ _ _ _

@[simp] theorem State.setLink_link_same (s : State) (c : Console) (u : LinkUnit) : (s.setLink c u).link c = u :=
  Pair.get_set_same _ _ _

theorem State.setNotice_notice (s : State) (c d : Console) (u : NoticeUnit) :
    (s.setNotice c u).notice d = if d = c then u else s.notice d := Pair.get_set _ _ _ _

@[simp] theorem State.setNotice_notice_same (s : State) (c : Console) (u : NoticeUnit) : (s.setNotice c u).notice c = u :=
  Pair.get_set_same _ _ _

@[simp] theorem mapVec_getElem {α β : Type} {k : Nat} (f : α → β) (v : Vector α k) (i : Nat) (h : i < k) :
    (mapVec f v)[i] = f v[i] := by
  simp [mapVec]

@[simp] theorem replicate_getElem {α : Type} {k : Nat} (a : α) (i : Nat) (h : i < k) : (Vector.replicate k a)[i] = a := by
  simp

/-! ### A character as the part sends it (R163) -/

@[simp] theorem sent_data (b : Byte) : (LineChar.sent b).data = b := rfl
@[simp] theorem sent_stop (b : Byte) : (LineChar.sent b).stop = true := rfl

@[simp] theorem sent_error (b : Byte) : (LineChar.sent b).error = false := by
  unfold LineChar.error LineChar.sent
  rcases Nat.mod_two_eq_zero_or_one (onesCount b) with h | h <;> simp [h, Nat.add_mod]

end Sys2Proof.Machine
end

