-- ==== Sys2Proof/Laws/Kept.lean ====
section
/-! SUPPORT. Kept ns ps s t: what every action of the carrier machines, the keying unit, the arbiter and the patch table leaves
alone, from s to t, where the patches of ns and the memberships of the ports of ps may change freely. It is reflexive and transitive,
and each primitive update has its lemma here. -/

namespace Sys2Proof.Machine

/-- The frame of Safety.lean, and besides it the bounds of the pending sets and masked machines at CLEAR. -/
structure Kept (ns : List SlotId) (ps : List PortId) (s t : State) : Prop where
  ports : ∀ p, (t.port p).fixedPart = (s.port p).fixedPart
  portPatch : ∀ p, p ∉ ps → (t.port p).patch = (s.port p).patch ∨ (t.port p).patch = none
  patches : ∀ n, n ∉ ns → (t.patch n).fixedPart = (s.patch n).fixedPart ∨ (t.patch n).fixedPart = PatchRec.unused.fixedPart
  consoles : ∀ c, (t.console c).fixedPart = (s.console c).fixedPart
  links : ∀ c, (t.link c).fixedPart = (s.link c).fixedPart
  masks : ∀ c, (t.notice c).mask = (s.notice c).mask
  entries : ∀ c, ∀ e ∈ (s.notice c).entries, e ∈ (t.notice c).entries
  rest : t.fixedPart = s.fixedPart
  mask : ∀ p, (s.port p).maskedClear → (t.port p).maskedClear
  notices : ∀ c, (s.notice c).bounded → (t.notice c).bounded

variable {ns : List SlotId} {ps : List PortId}

theorem Kept.frame {s t : State} (h : Kept ns ps s t) : State.trafficOnly ns ps s t :=
  ⟨h.ports, h.portPatch, h.patches, h.consoles, h.links, h.masks, h.entries, h.rest⟩

theorem Kept.refl (s : State) : Kept ns ps s s where
  ports _ := rfl
  portPatch _ _ := .inl rfl
  patches _ _ := .inl rfl
  consoles _ := rfl
  links _ := rfl
  masks _ := rfl
  entries _ _ h := h
  rest := rfl
  mask _ h := h
  notices _ h := h

theorem Kept.trans {s t u : State} (h : Kept ns ps s t) (k : Kept ns ps t u) : Kept ns ps s u where
  ports p := (k.ports p).trans (h.ports p)
  portPatch p hp := by
    rcases k.portPatch p hp with e | e
    · rw [e]; exact h.portPatch p hp
    · exact .inr e
  patches n hn := by
    rcases k.patches n hn with e | e
    · rw [e]; exact h.patches n hn
    · exact .inr e
  consoles c := (k.consoles c).trans (h.consoles c)
  links c := (k.links c).trans (h.links c)
  masks c := (k.masks c).trans (h.masks c)
  entries c e he := k.entries c e (h.entries c e he)
  rest := k.rest.trans h.rest
  mask p m := k.mask p (h.mask p m)
  notices c b := k.notices c (h.notices c b)

/-- More patches and memberships may be excepted. -/
theorem Kept.mono {s t : State} (h : Kept [] [] s t) : Kept ns ps s t where
  ports := h.ports
  portPatch p _ := h.portPatch p (by simp)
  patches n _ := h.patches n (by simp)
  consoles := h.consoles
  links := h.links
  masks := h.masks
  entries := h.entries
  rest := h.rest
  mask := h.mask
  notices := h.notices

/-! ### Reading a fixed part -/

theorem PortRec.fixedPart_cfg {r r' : PortRec} (h : r'.fixedPart = r.fixedPart) : r'.cfg = r.cfg := by
  have e := congrArg PortRec.cfg h; exact e
theorem PortRec.fixedPart_reservedBy {r r' : PortRec} (h : r'.fixedPart = r.fixedPart) : r'.reservedBy = r.reservedBy := by
  have e := congrArg PortRec.reservedBy h; exact e
theorem PortRec.fixedPart_fault {r r' : PortRec} (h : r'.fixedPart = r.fixedPart) : r'.fault = r.fault := by
  have e := congrArg PortRec.fault h; exact e
theorem PortRec.fixedPart_emergency {r r' : PortRec} (h : r'.fixedPart = r.fixedPart) : r'.emergency = r.emergency := by
  have e := congrArg PortRec.emergency h; exact e
theorem PortRec.fixedPart_lockoutLeft {r r' : PortRec} (h : r'.fixedPart = r.fixedPart) : r'.lockoutLeft = r.lockoutLeft := by
  have e := congrArg PortRec.lockoutLeft h; exact e
theorem LinkUnit.fixedPart_queue {u u' : LinkUnit} (h : u'.fixedPart = u.fixedPart) : u'.queue = u.queue := by
  have e := congrArg LinkUnit.queue h; exact e
theorem LinkUnit.fixedPart_rx {u u' : LinkUnit} (h : u'.fixedPart = u.fixedPart) : u'.rx = u.rx := by
  have e := congrArg LinkUnit.rx h; exact e
theorem LinkUnit.fixedPart_restartPending {u u' : LinkUnit} (h : u'.fixedPart = u.fixedPart) :
    u'.restartPending = u.restartPending := by
  have e := congrArg LinkUnit.restartPending h; exact e
theorem State.fixedPart_pending {s t : State} (h : t.fixedPart = s.fixedPart) : t.pending = s.pending := by
  have e := congrArg State.pending h; exact e
theorem State.fixedPart_resetLine {s t : State} (h : t.fixedPart = s.fixedPart) : t.resetLine = s.resetLine := by
  have e := congrArg State.resetLine h; exact e

/-! ### Updates of a port -/

/-- What a carrier machine's own step changes: the carrier and its timers. -/
theorem PortRec.corAsserts_fixed (r : PortRec) : r.corAsserts.1.fixedPart = r.fixedPart := by
  unfold PortRec.corAsserts; split
  · split <;> rfl
  all_goals rfl
theorem PortRec.corDeasserts_fixed (r : PortRec) : r.corDeasserts.1.fixedPart = r.fixedPart := by
  unfold PortRec.corDeasserts; split
  · rfl
  · split <;> rfl
  all_goals rfl
theorem PortRec.qualifyExpires_fixed (r : PortRec) : r.qualifyExpires.1.fixedPart = r.fixedPart := by
  unfold PortRec.qualifyExpires; split <;> rfl
theorem PortRec.dropExpires_fixed (r : PortRec) : r.dropExpires.1.fixedPart = r.fixedPart := by
  unfold PortRec.dropExpires; split <;> rfl
theorem PortRec.maskEnds_fixed (r : PortRec) : r.maskEnds.1.fixedPart = r.fixedPart := by
  unfold PortRec.maskEnds; split
  · exact r.corAsserts_fixed
  · rfl
theorem PortRec.remask_fixed (old new : PortRec) : (PortRec.remask old new).1.fixedPart = new.fixedPart := by
  unfold PortRec.remask; split
  · rfl
  · split
    · exact new.maskEnds_fixed
    · rfl

/-- Masking reads kind, state and guard only. -/
theorem PortRec.corAsserts_masked (r : PortRec) : r.corAsserts.1.masked = r.masked := by
  unfold PortRec.corAsserts; split
  · split <;> rfl
  all_goals rfl
theorem PortRec.corDeasserts_masked (r : PortRec) : r.corDeasserts.1.masked = r.masked := by
  unfold PortRec.corDeasserts; split
  · rfl
  · split <;> rfl
  all_goals rfl
theorem PortRec.maskEnds_masked (r : PortRec) : r.maskEnds.1.masked = r.masked := by
  unfold PortRec.maskEnds; split
  · exact r.corAsserts_masked
  · rfl

/-- A request that leaves the carrier state to the machine keeps a masked machine CLEAR (R11, R12). -/
theorem PortRec.remask_maskedClear {old new : PortRec} (hc : new.carrier = old.carrier) (h : old.maskedClear) :
    (PortRec.remask old new).1.maskedClear := by
  unfold PortRec.remask
  split
  · intro _; rfl
  · split
    · rename_i h1 h2
      intro hm
      rw [PortRec.maskEnds_masked] at hm
      simp [hm] at h2
    · rename_i h1 h2
      intro hm
      have hm' : new.masked = true := hm
      have : old.masked = true := by
        cases ho : old.masked <;> simp [ho, hm'] at h1 ⊢
      exact hc.trans (h this)

theorem PortRec.qualifyExpires_maskedClear {r : PortRec} (h : r.maskedClear) : r.qualifyExpires.1.maskedClear := by
  unfold PortRec.qualifyExpires; split
  · rename_i hq
    intro hm
    have := h hm
    rw [hq] at this
    cases this
  · exact h
theorem PortRec.dropExpires_maskedClear {r : PortRec} (h : r.maskedClear) : r.dropExpires.1.maskedClear := by
  unfold PortRec.dropExpires; split
  · intro _; rfl
  · exact h

/-! ### The carrier machine leaves every other field -/

theorem PortRec.corAsserts_frame (r : PortRec) :
    r.corAsserts.1 = { r with
      carrier := r.corAsserts.1.carrier, qualifyLeft := r.corAsserts.1.qualifyLeft, dropLeft := r.corAsserts.1.dropLeft } := by
  unfold PortRec.corAsserts; split
  · split <;> rfl
  all_goals rfl

theorem PortRec.maskEnds_frame (r : PortRec) :
    r.maskEnds.1 = { r with
      carrier := r.maskEnds.1.carrier, qualifyLeft := r.maskEnds.1.qualifyLeft, dropLeft := r.maskEnds.1.dropLeft } := by
  unfold PortRec.maskEnds; split
  · exact r.corAsserts_frame
  · rfl

theorem PortRec.remask_frame (old new : PortRec) :
    (PortRec.remask old new).1 = { new with
      carrier := (PortRec.remask old new).1.carrier
      qualifyLeft := (PortRec.remask old new).1.qualifyLeft
      dropLeft := (PortRec.remask old new).1.dropLeft } := by
  unfold PortRec.remask; split
  · rfl
  · split
    · exact new.maskEnds_frame
    · rfl

@[simp] theorem PortRec.remask_state (old new : PortRec) : (PortRec.remask old new).1.state = new.state := by
  rw [PortRec.remask_frame]
@[simp] theorem PortRec.remask_patch (old new : PortRec) : (PortRec.remask old new).1.patch = new.patch := by
  rw [PortRec.remask_frame]
@[simp] theorem PortRec.remask_cfg (old new : PortRec) : (PortRec.remask old new).1.cfg = new.cfg := by
  rw [PortRec.remask_frame]
@[simp] theorem PortRec.remask_fault (old new : PortRec) : (PortRec.remask old new).1.fault = new.fault := by
  rw [PortRec.remask_frame]
@[simp] theorem PortRec.remask_emergency (old new : PortRec) : (PortRec.remask old new).1.emergency = new.emergency := by
  rw [PortRec.remask_frame]
@[simp] theorem PortRec.remask_guardLeft (old new : PortRec) : (PortRec.remask old new).1.guardLeft = new.guardLeft := by
  rw [PortRec.remask_frame]
@[simp] theorem PortRec.remask_lockoutLeft (old new : PortRec) : (PortRec.remask old new).1.lockoutLeft = new.lockoutLeft := by
  rw [PortRec.remask_frame]
@[simp] theorem PortRec.remask_reservedBy (old new : PortRec) : (PortRec.remask old new).1.reservedBy = new.reservedBy := by
  rw [PortRec.remask_frame]
@[simp] theorem PortRec.remask_keyUpLeft (old new : PortRec) : (PortRec.remask old new).1.keyUpLeft = new.keyUpLeft := by
  rw [PortRec.remask_frame]
@[simp] theorem PortRec.remask_startWindow (old new : PortRec) : (PortRec.remask old new).1.startWindow = new.startWindow := by
  rw [PortRec.remask_frame]
@[simp] theorem PortRec.remask_startCheck (old new : PortRec) : (PortRec.remask old new).1.startCheck = new.startCheck := by
  rw [PortRec.remask_frame]
@[simp] theorem PortRec.remask_lossLeft (old new : PortRec) : (PortRec.remask old new).1.lossLeft = new.lossLeft := by
  rw [PortRec.remask_frame]

/-! ### Updates of the state -/

@[simp] theorem State.fixedPart_setPort (s : State) (p : PortId) (r : PortRec) : (s.setPort p r).fixedPart = s.fixedPart := rfl
@[simp] theorem State.fixedPart_setPatch (s : State) (n : SlotId) (r : PatchRec) : (s.setPatch n r).fixedPart = s.fixedPart := rfl
@[simp] theorem State.fixedPart_setConsole (s : State) (c : Console) (r : ConsoleRec) :
    (s.setConsole c r).fixedPart = s.fixedPart := rfl
@[simp] theorem State.fixedPart_setLink (s : State) (c : Console) (u : LinkUnit) : (s.setLink c u).fixedPart = s.fixedPart := rfl
@[simp] theorem State.fixedPart_setNotice (s : State) (c : Console) (u : NoticeUnit) :
    (s.setNotice c u).fixedPart = s.fixedPart := rfl

theorem kept_setPort {s : State} {p : PortId} {r : PortRec} (hf : r.fixedPart = (s.port p).fixedPart)
    (hp : p ∈ ps ∨ r.patch = (s.port p).patch ∨ r.patch = none) (hm : (s.port p).maskedClear → r.maskedClear) :
    Kept ns ps s (s.setPort p r) :=
  { Kept.refl (ns := ns) (ps := ps) s with
    ports := fun q => by
      rw [State.setPort_port]; split
      · rename_i h; rw [h, hf]
      · rfl
    portPatch := fun q hq => by
      rw [State.setPort_port]; split
      · rename_i h; rw [h] at hq ⊢; exact hp.resolve_left hq
      · exact .inl rfl
    mask := fun q h => by
      rw [State.setPort_port]; split
      · rename_i e; rw [e] at h; exact hm h
      · exact h }

theorem kept_raise (s : State) (p : PortId) (news : List CarrierNews) : Kept ns ps s (s.raise p news) :=
  { Kept.refl (ns := ns) (ps := ps) s with }

theorem kept_raised (s : State) (l : List CarrierEvent) : Kept ns ps s { s with raised := l } :=
  { Kept.refl (ns := ns) (ps := ps) s with }

theorem kept_writePort {s : State} {p : PortId} {rn : PortRec × List CarrierNews} (hf : rn.1.fixedPart = (s.port p).fixedPart)
    (hp : p ∈ ps ∨ rn.1.patch = (s.port p).patch ∨ rn.1.patch = none) (hm : (s.port p).maskedClear → rn.1.maskedClear) :
    Kept ns ps s (s.writePort p rn) :=
  (kept_setPort hf hp hm).trans (kept_raise _ _ _)

/-- Everything a request on a port record does: the record as remask leaves it, with the raised events longer by what it raised, or
shorter by the carrier-qualified that masking which begins again calls off (R11 to R13). -/
theorem State.updPort_cases (s : State) (p : PortId) (f : PortRec → PortRec) :
    s.updPort p f = s.writePort p (PortRec.remask (s.port p) (f (s.port p))) ∨
    (s.maskedAgain p (s.port p) (f (s.port p)) = true ∧
      s.updPort p f = { s.setPort p (PortRec.remask (s.port p) (f (s.port p))).1 with raised := s.raised.erase ⟨.unmasked, p⟩ }) := by
  unfold State.updPort
  split
  · rename_i h
    refine .inr ⟨h, ?_⟩
    unfold State.maskedAgain at h
    simp only [Bool.and_eq_true] at h
    simp [PortRec.remask, h.1.1]
  · exact .inl rfl

/-- A request on a port record that leaves its fixed part and its carrier state. -/
theorem kept_updPort {s : State} {p : PortId} {f : PortRec → PortRec} (hf : (f (s.port p)).fixedPart = (s.port p).fixedPart)
    (hc : (f (s.port p)).carrier = (s.port p).carrier)
    (hp : p ∈ ps ∨ (f (s.port p)).patch = (s.port p).patch ∨ (f (s.port p)).patch = none) : Kept ns ps s (s.updPort p f) := by
  have hf' := (PortRec.remask_fixed (s.port p) (f (s.port p))).trans hf
  have hp' : p ∈ ps ∨ (PortRec.remask (s.port p) (f (s.port p))).1.patch = (s.port p).patch ∨
      (PortRec.remask (s.port p) (f (s.port p))).1.patch = none := by rw [PortRec.remask_patch]; exact hp
  rcases s.updPort_cases p f with h | ⟨_, h⟩ <;> rw [h]
  · exact kept_writePort hf' hp' (PortRec.remask_maskedClear hc)
  · exact (kept_setPort hf' hp' (PortRec.remask_maskedClear hc)).trans (kept_raised _ _)

theorem kept_setPatch {s : State} {n : SlotId} {r : PatchRec}
    (h : n ∈ ns ∨ r.fixedPart = (s.patch n).fixedPart ∨ r.fixedPart = PatchRec.unused.fixedPart) : Kept ns ps s (s.setPatch n r) :=
  { Kept.refl (ns := ns) (ps := ps) s with
    patches := fun m hm => by
      rw [State.setPatch_patch]; split
      · rename_i e; rw [e] at hm ⊢; exact h.resolve_left hm
      · exact .inl rfl }

theorem kept_modPatch {s : State} {n : SlotId} {f : PatchRec → PatchRec}
    (h : n ∈ ns ∨ (f (s.patch n)).fixedPart = (s.patch n).fixedPart) : Kept ns ps s (s.modPatch n f) :=
  kept_setPatch (h.imp_right .inl)

theorem kept_modConsole {s : State} {c : Console} {f : ConsoleRec → ConsoleRec}
    (hf : (f (s.console c)).fixedPart = (s.console c).fixedPart) : Kept ns ps s (s.modConsole c f) :=
  { Kept.refl (ns := ns) (ps := ps) s with
    consoles := fun d => by
      unfold State.modConsole; rw [State.setConsole_console]; split
      · rename_i h; rw [h, hf]
      · rfl }

theorem kept_alert (s : State) (c : Console) (b : Bool) :
    Kept ns ps s (s.modLink c (fun u => { u with alertWaiting := b })) :=
  { Kept.refl (ns := ns) (ps := ps) s with
    links := fun d => by
      unfold State.modLink; rw [State.setLink_link]; split
      · rename_i h; rw [h]; rfl
      · rfl }

/-! ### Notices -/

theorem NoticeUnit.offer_mask (u : NoticeUnit) (e : Notice) : (u.offer e).mask = u.mask := by
  unfold NoticeUnit.offer; split
  · rfl
  · split
    · rfl
    · split <;> rfl

theorem NoticeUnit.offer_bounded {u : NoticeUnit} (e : Notice) (h : u.bounded) : (u.offer e).bounded := by
  unfold NoticeUnit.offer
  obtain ⟨h1, h2, h3, h4⟩ := h
  split
  · exact ⟨h1, h2, h3, h4⟩
  · split
    · exact ⟨h1, h2, h3, h4⟩
    · split
      · exact ⟨h1, h2, h3, h4⟩
      · rename_i hm hc hn
        refine ⟨?_, ?_, ?_, h4⟩
        · simp [Config.noticeCapacity] at hn ⊢; omega
        · refine List.nodup_append.mpr ⟨h2, by simp, ?_⟩
          intro a ha b hb
          simp at hb hc
          subst hb
          rintro rfl
          exact hc ha
        · intro x hx
          simp at hx hm
          rcases hx with hx | rfl
          · exact h3 x hx
          · exact hm

theorem NoticeUnit.offer_entries (u : NoticeUnit) (e : Notice) : ∀ x ∈ u.entries, x ∈ (u.offer e).entries := by
  intro x hx
  unfold NoticeUnit.offer; split
  · exact hx
  · split
    · exact hx
    · split
      · exact hx
      · exact List.mem_append_left _ hx

theorem kept_modNotice {s : State} {c : Console} {f : NoticeUnit → NoticeUnit} (hm : (f (s.notice c)).mask = (s.notice c).mask)
    (he : ∀ x ∈ (s.notice c).entries, x ∈ (f (s.notice c)).entries)
    (hb : (s.notice c).bounded → (f (s.notice c)).bounded) : Kept ns ps s (s.modNotice c f) :=
  { Kept.refl (ns := ns) (ps := ps) s with
    masks := fun d => by
      unfold State.modNotice; rw [State.setNotice_notice]; split
      · rename_i h; rw [h, hm]
      · rfl
    entries := fun d => by
      unfold State.modNotice; rw [State.setNotice_notice]; split
      · rename_i h; rw [h]; exact he
      · exact fun _ h => h
    notices := fun d h => by
      unfold State.modNotice; rw [State.setNotice_notice]; split
      · rename_i e; rw [e] at h; exact hb h
      · exact h }

theorem kept_startAlert (s : State) (c : Console) (u : NoticeUnit) : Kept ns ps s (s.startAlert c u) := by
  unfold State.startAlert; split
  · exact kept_alert s c true
  · exact Kept.refl s

theorem kept_offer (s : State) (c : Console) (e : Notice) : Kept ns ps s (s.offer c e) :=
  (kept_modNotice (NoticeUnit.offer_mask _ e) (NoticeUnit.offer_entries _ e) (NoticeUnit.offer_bounded e)).trans (kept_startAlert _ _ _)

theorem kept_offerBoth (s : State) (e : Notice) : Kept ns ps s (s.offerBoth e) := (kept_offer s .A e).trans (kept_offer _ .B e)

theorem kept_offerRetired (s : State) (n : SlotId) (but : Option Console) : Kept ns ps s (s.offerRetired n but) := by
  have hA : ∀ t : State, Kept ns ps s t → Kept ns ps s (if but = some .B then t else t.offer .B ⟨.patchRetired, slotNumber n⟩) := by
    intro t h; split
    · exact h
    · exact h.trans (kept_offer _ _ _)
  unfold State.offerRetired
  refine hA _ ?_
  split
  · exact Kept.refl s
  · exact kept_offer _ _ _

/-! ### Folds -/

theorem kept_foldl {α : Type} {f : State → α → State} (hf : ∀ s a, Kept ns ps s (f s a)) (l : List α) (s : State) :
    Kept ns ps s (l.foldl f s) := by
  induction l generalizing s with
  | nil => exact Kept.refl s
  | cons a l ih => exact (hf s a).trans (ih _)

theorem kept_foldl_mem {α : Type} {f : State → α → State} {l : List α} (hf : ∀ s, ∀ a ∈ l, Kept ns ps s (f s a)) (s : State) :
    Kept ns ps s (l.foldl f s) := by
  induction l generalizing s with
  | nil => exact Kept.refl s
  | cons a l ih => exact (hf s a (by simp)).trans (ih (fun t b hb => hf t b (by simp [hb])) _)

end Sys2Proof.Machine
end

