-- ==== Sys2Proof/Laws/Ports.lean ====
section
/-! SUPPORT. What the operations on one port's record change: the carrier machine touches the carrier and its two timers, the keying
requests the state, the guard and the supervision; and where updPort and writePort reach. -/

namespace Sys2Proof.Machine

/-! ### Masking -/

/-- With masking as it was, a request is the whole change. -/
theorem PortRec.remask_same {old new : PortRec} (h : new.masked = old.masked) : PortRec.remask old new = (new, []) := by
  unfold PortRec.remask; cases ho : old.masked <;> simp [h, ho]

/-- Masking begins on a machine that is not qualified: it is CLEAR, and nothing is raised (R11). -/
theorem PortRec.remask_begins_unqualified {old new : PortRec} (ho : old.masked = false) (hn : new.masked = true)
    (hq : new.qualified = false) :
    PortRec.remask old new = ({ new with carrier := .clear, qualifyLeft := 0, dropLeft := 0 }, []) := by
  simp [PortRec.remask, ho, hn, PortRec.maskBegins, hq]

/-! ### Keying requests -/

theorem PortRec.startSupervision_frame (r : PortRec) (w : Nat) :
    r.startSupervision w = { r with
      startWindow := (r.startSupervision w).startWindow, startCheck := (r.startSupervision w).startCheck, lossLeft := 0 } := by
  unfold PortRec.startSupervision; split
  · rfl
  · split <;> rfl

theorem PortRec.startSupervision_fixed (r : PortRec) (w : Nat) : (r.startSupervision w).fixedPart = r.fixedPart := by
  rw [PortRec.startSupervision_frame]; rfl
theorem PortRec.startSupervision_carrier (r : PortRec) (w : Nat) : (r.startSupervision w).carrier = r.carrier := by
  rw [PortRec.startSupervision_frame]
theorem PortRec.startSupervision_patch (r : PortRec) (w : Nat) : (r.startSupervision w).patch = r.patch := by
  rw [PortRec.startSupervision_frame]
theorem PortRec.startSupervision_state (r : PortRec) (w : Nat) : (r.startSupervision w).state = r.state := by
  rw [PortRec.startSupervision_frame]

theorem PortRec.keyInto_fixed (r : PortRec) (up on : PortState) : (r.keyInto up on).fixedPart = r.fixedPart := by
  unfold PortRec.keyInto; rw [PortRec.startSupervision_fixed]; rfl
theorem PortRec.keyInto_carrier (r : PortRec) (up on : PortState) : (r.keyInto up on).carrier = r.carrier := by
  unfold PortRec.keyInto; rw [PortRec.startSupervision_carrier]
theorem PortRec.keyInto_patch (r : PortRec) (up on : PortState) : (r.keyInto up on).patch = r.patch := by
  unfold PortRec.keyInto; rw [PortRec.startSupervision_patch]
theorem PortRec.keyInto_state (r : PortRec) (up on : PortState) :
    (r.keyInto up on).state = if r.cfg.keyUpDelay = 0 then on else up := by
  unfold PortRec.keyInto; rw [PortRec.startSupervision_state]

/-! ### Where a write reaches -/

theorem State.updPort_port (s : State) (p q : PortId) (f : PortRec → PortRec) :
    (s.updPort p f).port q = if q = p then (PortRec.remask (s.port p) (f (s.port p))).1 else s.port q := by
  rcases s.updPort_cases p f with h | ⟨_, h⟩ <;> rw [h]
  · unfold State.writePort; rw [State.raise_port, State.setPort_port]
  · exact State.setPort_port _ _ _ _

theorem State.writePort_port (s : State) (p q : PortId) (rn : PortRec × List CarrierNews) :
    (s.writePort p rn).port q = if q = p then rn.1 else s.port q := by
  unfold State.writePort; rw [State.raise_port, State.setPort_port]

@[simp] theorem State.updPort_patch (s : State) (p : PortId) (f : PortRec → PortRec) (n : SlotId) :
    (s.updPort p f).patch n = s.patch n := by unfold State.updPort; split <;> rfl
@[simp] theorem State.updPort_console (s : State) (p : PortId) (f : PortRec → PortRec) (c : Console) :
    (s.updPort p f).console c = s.console c := by unfold State.updPort; split <;> rfl
@[simp] theorem State.updPort_link (s : State) (p : PortId) (f : PortRec → PortRec) (c : Console) :
    (s.updPort p f).link c = s.link c := by unfold State.updPort; split <;> rfl
@[simp] theorem State.updPort_notice (s : State) (p : PortId) (f : PortRec → PortRec) (c : Console) :
    (s.updPort p f).notice c = s.notice c := by unfold State.updPort; split <;> rfl
@[simp] theorem State.writePort_patch (s : State) (p : PortId) (rn : PortRec × List CarrierNews) (n : SlotId) :
    (s.writePort p rn).patch n = s.patch n := rfl

/-! ### Offers leave ports, patches and consoles -/

@[simp] theorem State.startAlert_port (s : State) (c : Console) (u : NoticeUnit) (p : PortId) :
    (s.startAlert c u).port p = s.port p := by unfold State.startAlert; split <;> rfl
@[simp] theorem State.startAlert_patch (s : State) (c : Console) (u : NoticeUnit) (n : SlotId) :
    (s.startAlert c u).patch n = s.patch n := by unfold State.startAlert; split <;> rfl
@[simp] theorem State.startAlert_console (s : State) (c d : Console) (u : NoticeUnit) :
    (s.startAlert c u).console d = s.console d := by unfold State.startAlert; split <;> rfl
@[simp] theorem State.startAlert_raised (s : State) (c : Console) (u : NoticeUnit) :
    (s.startAlert c u).raised = s.raised := by unfold State.startAlert; split <;> rfl
@[simp] theorem State.startAlert_notice (s : State) (c d : Console) (u : NoticeUnit) :
    (s.startAlert c u).notice d = s.notice d := by unfold State.startAlert; split <;> rfl
@[simp] theorem State.offer_port (s : State) (c : Console) (e : Notice) (p : PortId) : (s.offer c e).port p = s.port p := by
  unfold State.offer; rw [State.startAlert_port]; rfl
@[simp] theorem State.offer_patch (s : State) (c : Console) (e : Notice) (n : SlotId) : (s.offer c e).patch n = s.patch n := by
  unfold State.offer; rw [State.startAlert_patch]; rfl
@[simp] theorem State.offer_console (s : State) (c d : Console) (e : Notice) : (s.offer c e).console d = s.console d := by
  unfold State.offer; rw [State.startAlert_console]; rfl
@[simp] theorem State.offer_raised (s : State) (c : Console) (e : Notice) : (s.offer c e).raised = s.raised := by
  unfold State.offer; rw [State.startAlert_raised]; rfl
/-- An offer acts on the set of its own console only (R180). -/
theorem State.offer_notice (s : State) (c d : Console) (e : Notice) :
    (s.offer c e).notice d = if d = c then (s.notice c).offer e else s.notice d := by
  unfold State.offer; rw [State.startAlert_notice]; unfold State.modNotice; rw [State.setNotice_notice]
@[simp] theorem State.offerBoth_port (s : State) (e : Notice) (p : PortId) : (s.offerBoth e).port p = s.port p := by
  simp [State.offerBoth]
@[simp] theorem State.offerBoth_patch (s : State) (e : Notice) (n : SlotId) : (s.offerBoth e).patch n = s.patch n := by
  simp [State.offerBoth]
@[simp] theorem State.offerBoth_console (s : State) (e : Notice) (d : Console) : (s.offerBoth e).console d = s.console d := by
  simp [State.offerBoth]
@[simp] theorem State.offerBoth_raised (s : State) (e : Notice) : (s.offerBoth e).raised = s.raised := by
  simp [State.offerBoth]
/-- An offer for both consoles acts on each set separately (R180). -/
@[simp] theorem State.offerBoth_notice (s : State) (e : Notice) (d : Console) :
    (s.offerBoth e).notice d = (s.notice d).offer e := by
  cases d <;> simp [State.offerBoth, State.offer_notice]
@[simp] theorem State.offerRetired_port (s : State) (n : SlotId) (but : Option Console) (p : PortId) :
    (s.offerRetired n but).port p = s.port p := by
  unfold State.offerRetired; split <;> split <;> simp
@[simp] theorem State.offerRetired_patch (s : State) (n m : SlotId) (but : Option Console) :
    (s.offerRetired n but).patch m = s.patch m := by
  unfold State.offerRetired; split <;> split <;> simp

/-! ### Readers after the mod updates -/

theorem State.modPatch_patch (s : State) (n m : SlotId) (f : PatchRec → PatchRec) :
    (s.modPatch n f).patch m = if m = n then f (s.patch n) else s.patch m := State.setPatch_patch _ _ _ _
@[simp] theorem State.modPatch_port (s : State) (n : SlotId) (f : PatchRec → PatchRec) (p : PortId) :
    (s.modPatch n f).port p = s.port p := rfl
@[simp] theorem State.modPatch_console (s : State) (n : SlotId) (f : PatchRec → PatchRec) (c : Console) :
    (s.modPatch n f).console c = s.console c := rfl
@[simp] theorem State.modPatch_raised (s : State) (n : SlotId) (f : PatchRec → PatchRec) :
    (s.modPatch n f).raised = s.raised := rfl
theorem State.modConsole_console (s : State) (c d : Console) (f : ConsoleRec → ConsoleRec) :
    (s.modConsole c f).console d = if d = c then f (s.console c) else s.console d := State.setConsole_console _ _ _ _
@[simp] theorem State.modConsole_port (s : State) (c : Console) (f : ConsoleRec → ConsoleRec) (p : PortId) :
    (s.modConsole c f).port p = s.port p := rfl
@[simp] theorem State.modConsole_patch (s : State) (c : Console) (f : ConsoleRec → ConsoleRec) (n : SlotId) :
    (s.modConsole c f).patch n = s.patch n := rfl
theorem State.modLink_link (s : State) (c d : Console) (f : LinkUnit → LinkUnit) :
    (s.modLink c f).link d = if d = c then f (s.link c) else s.link d := State.setLink_link _ _ _ _
@[simp] theorem State.modLink_port (s : State) (c : Console) (f : LinkUnit → LinkUnit) (p : PortId) :
    (s.modLink c f).port p = s.port p := rfl
@[simp] theorem State.modLink_patch (s : State) (c : Console) (f : LinkUnit → LinkUnit) (n : SlotId) :
    (s.modLink c f).patch n = s.patch n := rfl
@[simp] theorem State.modLink_console (s : State) (c d : Console) (f : LinkUnit → LinkUnit) :
    (s.modLink c f).console d = s.console d := rfl
@[simp] theorem State.modLink_notice (s : State) (c d : Console) (f : LinkUnit → LinkUnit) :
    (s.modLink c f).notice d = s.notice d := rfl
theorem State.modNotice_notice (s : State) (c d : Console) (f : NoticeUnit → NoticeUnit) :
    (s.modNotice c f).notice d = if d = c then f (s.notice c) else s.notice d := State.setNotice_notice _ _ _ _

end Sys2Proof.Machine
end

