-- ==== Sys2Proof/Laws/Flow.lean ====
section
/-! SUPPORT. Flow s t: Kept, and what the traffic of the keying unit and the arbiter does to patches: a patch keeps its label, owner,
sharing, members and settings or is retired, an unused slot stays as it is, and memberships stay in agreement. Every operation of
Keying.lean, Arbiter.lean and the event traffic has its lemma here, to be cited in place of unfolding it. -/

namespace Sys2Proof.Machine

variable {ns : List SlotId} {ps : List PortId}

/-- Kept, with every slot in use kept in use, but for the arbiter's fields, or retired, and memberships in agreement. -/
structure Flow (s t : State) : Prop extends Kept [] [] s t where
  slots : ∀ n, t.patch n = s.patch n ∨ t.patch n = PatchRec.unused ∨
    ((t.patch n).fixedPart = (s.patch n).fixedPart ∧ (t.patch n).state ≠ .unused ∧ (s.patch n).state ≠ .unused)
  agree : s.membersAgree → t.membersAgree

theorem Flow.refl (s : State) : Flow s s := ⟨Kept.refl s, fun _ => .inl rfl, fun h => h⟩

theorem Flow.trans {s t u : State} (h : Flow s t) (k : Flow t u) : Flow s u where
  toKept := h.toKept.trans k.toKept
  slots n := by
    rcases k.slots n with e | e | ⟨e, e1, e2⟩
    · rw [e]; exact h.slots n
    · exact .inr (.inl e)
    · rcases h.slots n with f | f | ⟨f, f1, f2⟩
      · rw [f] at e e2; exact .inr (.inr ⟨e, e1, e2⟩)
      · rw [f] at e2; exact absurd rfl e2
      · exact .inr (.inr ⟨e.trans f, e1, f2⟩)
  agree a := k.agree (h.agree a)

/-- An unused slot stays as it is. -/
theorem Flow.unused_stays {s t : State} (h : Flow s t) {n : SlotId} (e : s.patch n = PatchRec.unused) :
    t.patch n = PatchRec.unused := by
  rcases h.slots n with f | f | ⟨_, _, f⟩
  · rw [f, e]
  · exact f
  · rw [e] at f; exact absurd rfl f

theorem PatchRec.fixedPart_members {r r' : PatchRec} (h : r'.fixedPart = r.fixedPart) : r'.members = r.members := by
  have e := congrArg PatchRec.members h; exact e
theorem PatchRec.fixedPart_mode {r r' : PatchRec} (h : r'.fixedPart = r.fixedPart) : r'.mode = r.mode := by
  have e := congrArg PatchRec.mode h; exact e
theorem PatchRec.fixedPart_owner {r r' : PatchRec} (h : r'.fixedPart = r.fixedPart) : r'.owner = r.owner := by
  have e := congrArg PatchRec.owner h; exact e

/-- Kept, with no patch and no port's patch field changed. -/
theorem Flow.of_kept {s t : State} (h : Kept [] [] s t) (hp : ∀ n, t.patch n = s.patch n)
    (hq : ∀ p, (t.port p).patch = (s.port p).patch) : Flow s t where
  toKept := h
  slots n := .inl (hp n)
  agree a := by
    obtain ⟨a1, a2, a3⟩ := a
    refine ⟨fun n p => ?_, fun n => ?_, fun n => ?_⟩
    · rw [hp, hq]; exact a1 n p
    · rw [hp]; exact a2 n
    · rw [hp]; exact a3 n

/-! ### The primitive updates -/

/-- A request on a port record that leaves its fixed part, its carrier state and its patch. -/
theorem flow_updPort {s : State} {p : PortId} {f : PortRec → PortRec} (hf : (f (s.port p)).fixedPart = (s.port p).fixedPart)
    (hc : (f (s.port p)).carrier = (s.port p).carrier) (hp : (f (s.port p)).patch = (s.port p).patch) :
    Flow s (s.updPort p f) :=
  Flow.of_kept (kept_updPort hf hc (.inr (.inl hp))) (fun _ => State.updPort_patch _ _ _ _) (fun q => by
    rw [State.updPort_port]; split
    · rename_i e; rw [PortRec.remask_patch, hp, e]
    · rfl)

theorem flow_writePort {s : State} {p : PortId} {rn : PortRec × List CarrierNews}
    (hf : rn.1.fixedPart = (s.port p).fixedPart) (hm : (s.port p).maskedClear → rn.1.maskedClear)
    (hp : rn.1.patch = (s.port p).patch) : Flow s (s.writePort p rn) :=
  Flow.of_kept (kept_writePort hf (.inr (.inl hp)) hm) (fun _ => rfl) (fun q => by
    rw [State.writePort_port]; split
    · rename_i e; rw [hp, e]
    · rfl)

/-- An update of the arbiter's fields and the state of a patch in use. -/
theorem flow_modPatch {s : State} {n : SlotId} {f : PatchRec → PatchRec} (hu : (s.patch n).state ≠ .unused)
    (hf : (f (s.patch n)).fixedPart = (s.patch n).fixedPart) (hs : (f (s.patch n)).state ≠ .unused) : Flow s (s.modPatch n f) where
  toKept := kept_modPatch (.inr hf)
  slots m := by
    rw [State.modPatch_patch]; split
    · rename_i e; subst e; exact .inr (.inr ⟨hf, hs, hu⟩)
    · exact .inl rfl
  agree a := by
    obtain ⟨a1, a2, a3⟩ := a
    have hm := PatchRec.fixedPart_members hf
    refine ⟨fun m p => ?_, fun m => ?_, fun m => ?_⟩
    · rw [State.modPatch_patch, State.modPatch_port]; split
      · rename_i e; subst e; rw [hm]; exact a1 m p
      · exact a1 m p
    · rw [State.modPatch_patch]; split
      · rename_i e; subst e; rw [hm]; exact a2 m
      · exact a2 m
    · rw [State.modPatch_patch]; split
      · intro h; exact absurd h hs
      · exact a3 m

theorem flow_offer (s : State) (c : Console) (e : Notice) : Flow s (s.offer c e) :=
  Flow.of_kept (kept_offer s c e) (fun _ => State.offer_patch _ _ _ _) (fun p => by rw [State.offer_port])
theorem flow_offerBoth (s : State) (e : Notice) : Flow s (s.offerBoth e) := (flow_offer s .A e).trans (flow_offer _ .B e)
theorem flow_raised (s : State) (l : List CarrierEvent) : Flow s { s with raised := l } :=
  Flow.of_kept (kept_raised s l) (fun _ => rfl) (fun _ => rfl)
theorem flow_modConsole {s : State} {c : Console} {f : ConsoleRec → ConsoleRec}
    (hf : (f (s.console c)).fixedPart = (s.console c).fixedPart) : Flow s (s.modConsole c f) :=
  Flow.of_kept (kept_modConsole hf) (fun _ => rfl) (fun _ => rfl)

theorem flow_foldl {α : Type} {f : State → α → State} (hf : ∀ s a, Flow s (f s a)) (l : List α) (s : State) :
    Flow s (l.foldl f s) := by
  induction l generalizing s with
  | nil => exact Flow.refl s
  | cons a l ih => exact (hf s a).trans (ih _)

/-! ### The keying unit -/

theorem flow_keyMember (s : State) (p : PortId) : Flow s (s.keyMember p) :=
  flow_updPort (PortRec.keyInto_fixed _ _ _) (PortRec.keyInto_carrier _ _ _) (PortRec.keyInto_patch _ _ _)
theorem flow_keyParked (s : State) (p : PortId) : Flow s (s.keyParked p) :=
  flow_updPort (PortRec.keyInto_fixed _ _ _) (PortRec.keyInto_carrier _ _ _) (PortRec.keyInto_patch _ _ _)
theorem flow_unkeyMember (s : State) (p : PortId) : Flow s (s.unkeyMember p) := flow_updPort rfl rfl rfl
theorem flow_unkeyParked (s : State) (p : PortId) : Flow s (s.unkeyParked p) := flow_updPort rfl rfl rfl
theorem flow_restInto (s : State) (p : PortId) (st : PortState) : Flow s (s.updPort p (fun r => r.restInto st)) :=
  flow_updPort rfl rfl rfl

theorem flow_applyKey (s : State) (p : PortId) (d : KeyDecision) : Flow s (s.applyKey p d) := by
  cases d
  · exact flow_keyMember s p
  · exact flow_unkeyMember s p
  · exact Flow.refl s

theorem flow_evalPatch (s : State) (n : SlotId) : Flow s (s.evalPatch n) :=
  flow_foldl (f := fun acc p => acc.applyKey p (s.keyDecision n p)) (fun _ _ => flow_applyKey _ _ _) _ _

theorem flow_evalParked (s : State) (p : PortId) : Flow s (s.evalParked p) := by
  unfold State.evalParked
  split
  · split
    · exact flow_keyParked s p
    · exact Flow.refl s
  · split
    · split
      · exact Flow.refl s
      · exact flow_unkeyParked s p
    · exact Flow.refl s

theorem flow_evalPort (s : State) (p : PortId) : Flow s (s.evalPort p) := by
  unfold State.evalPort
  split
  · exact flow_evalParked s p
  · split
    · exact flow_applyKey _ _ _
    · exact Flow.refl s

theorem flow_keyUpRunsOut (s : State) (p : PortId) : Flow s (s.keyUpRunsOut p) := by
  unfold State.keyUpRunsOut
  split
  · exact flow_updPort rfl rfl rfl
  · exact flow_updPort rfl rfl rfl
  · exact Flow.refl s

theorem flow_unkeyIfRelaying (s : State) (p : PortId) : Flow s (s.unkeyIfRelaying p) := by
  unfold State.unkeyIfRelaying
  split
  · exact flow_unkeyMember s p
  · exact Flow.refl s

/-! ### The arbiter -/

theorem flow_grant {s : State} {n : SlotId} (hu : (s.patch n).state ≠ .unused) (src : Source) : Flow s (s.grant n src) := by
  have h1 : Flow s (s.modPatch n (fun r => { r with
      state := .talk
      talker := some src
      partner := if r.partner.map Source.console = some src then none else r.partner
      bids := r.bids.erase src
      hangLeft := 0
      elapsed := 0
      limit := if isConsole src then none else some (r.timeOutLimit * 1000) })) :=
    flow_modPatch hu rfl (by simp)
  unfold State.grant
  cases src with
  | port p => exact (h1.trans (flow_restInto _ p .talker)).trans (flow_offerBoth _ _)
  | console c => exact h1.trans (flow_offerBoth _ _)

theorem State.grant_patch (s : State) (n m : SlotId) (src : Source) :
    (s.grant n src).patch m = if m = n then { s.patch n with
      state := .talk
      talker := some src
      partner := if (s.patch n).partner.map Source.console = some src then none else (s.patch n).partner
      bids := (s.patch n).bids.erase src
      hangLeft := 0
      elapsed := 0
      limit := if isConsole src then none else some ((s.patch n).timeOutLimit * 1000) } else s.patch m := by
  unfold State.grant
  cases src <;> simp [State.modPatch_patch]

theorem flow_idleTalker (s : State) (src : Option Source) : Flow s (s.idleTalker src) := by
  unfold State.idleTalker
  split
  · split
    · exact flow_restInto _ _ _
    · exact Flow.refl s
  · exact Flow.refl s

@[simp] theorem State.idleTalker_patch (s : State) (src : Option Source) (m : SlotId) :
    (s.idleTalker src).patch m = s.patch m := by
  unfold State.idleTalker
  split
  · split <;> simp
  · rfl

theorem State.dropTalker_patch (s : State) (n m : SlotId) :
    (s.dropTalker n).patch m = if m = n then { s.patch n with talker := none, limit := none } else s.patch m := by
  simp [State.dropTalker, State.modPatch_patch]

theorem flow_dropTalker {s : State} {n : SlotId} (hu : (s.patch n).state ≠ .unused) : Flow s (s.dropTalker n) :=
  (flow_modPatch hu rfl hu).trans (flow_idleTalker _ _)

theorem flow_preempt {s : State} {n : SlotId} (hu : (s.patch n).state ≠ .unused) (src : Source) (t : PortId) :
    Flow s (s.preempt n src t) := by
  have hd : ((s.dropTalker n).patch n).state ≠ .unused := by rw [State.dropTalker_patch]; simpa using hu
  have hg : (((s.dropTalker n).grant n src).patch n).state ≠ .unused := by rw [State.grant_patch]; simp
  exact (((flow_dropTalker hu).trans (flow_grant hd src)).trans (flow_modPatch hg rfl hg)).trans (flow_offerBoth _ _)

theorem flow_listBid {s : State} {n : SlotId} (hu : (s.patch n).state ≠ .unused) (src : Source) : Flow s (s.listBid n src) :=
  flow_modPatch hu rfl hu

theorem flow_bidOnTalk {s : State} {n : SlotId} (hu : (s.patch n).state ≠ .unused) (src : Source) :
    Flow s (s.bidOnTalk n src) := by
  unfold State.bidOnTalk
  split
  · split
    · exact flow_preempt hu _ _
    · exact flow_listBid hu _
  · exact flow_listBid hu _
  · split
    · exact flow_modPatch hu rfl hu
    · exact flow_listBid hu _
  · exact flow_listBid hu _

theorem flow_takeBid (s : State) (n : SlotId) (src : Source) : Flow s (s.takeBid n src) := by
  unfold State.takeBid
  split
  all_goals first | exact Flow.refl s | rename_i h
  · exact flow_grant (by rw [h]; decide) _
  · exact flow_grant (by rw [h]; decide) _
  · exact flow_bidOnTalk (by rw [h]; decide) _

theorem flow_portBids (s : State) (p : PortId) : Flow s (s.portBids p) := by
  unfold State.portBids
  split
  · exact (flow_takeBid _ _ _).trans (flow_evalPatch _ _)
  · exact Flow.refl s

theorem flow_portBidsIfQualified (s : State) (p : PortId) : Flow s (s.portBidsIfQualified p) := by
  unfold State.portBidsIfQualified
  split
  · exact flow_portBids s p
  · exact Flow.refl s

theorem flow_consoleBids (s : State) (c : Console) (n : SlotId) : Flow s (s.consoleBids c n) := by
  unfold State.consoleBids
  split
  · exact (flow_takeBid _ _ _).trans (flow_evalPatch _ _)
  · exact Flow.refl s

theorem flow_withdraw {s : State} {n : SlotId} (hu : (s.patch n).state ≠ .unused) (src : Source) : Flow s (s.withdraw n src) :=
  flow_modPatch hu rfl hu

/-! ### Retirement -/

theorem foldl_unkeyIfRelaying_patch (l : List PortId) (s : State) (m : SlotId) :
    (l.foldl State.unkeyIfRelaying s).patch m = s.patch m := by
  induction l generalizing s with
  | nil => rfl
  | cons p l ih =>
    rw [List.foldl_cons, ih]
    unfold State.unkeyIfRelaying State.unkeyMember; split <;> simp

theorem unkeyIfRelaying_portPatch (s : State) (p q : PortId) : ((s.unkeyIfRelaying p).port q).patch = (s.port q).patch := by
  unfold State.unkeyIfRelaying State.unkeyMember
  split
  · rw [State.updPort_port]; split
    · rename_i e; rw [PortRec.remask_patch, e]; rfl
    · rfl
  · rfl

theorem foldl_unkeyIfRelaying_portPatch (l : List PortId) (s : State) (q : PortId) :
    ((l.foldl State.unkeyIfRelaying s).port q).patch = (s.port q).patch := by
  induction l generalizing s with
  | nil => rfl
  | cons p l ih => rw [List.foldl_cons, ih, unkeyIfRelaying_portPatch]

theorem PortRec.leavePatch_fixed (r : PortRec) : r.leavePatch.fixedPart = r.fixedPart := by
  unfold PortRec.leavePatch; split <;> rfl
theorem PortRec.leavePatch_carrier (r : PortRec) : r.leavePatch.carrier = r.carrier := by
  unfold PortRec.leavePatch; split <;> rfl
theorem PortRec.leavePatch_patch (r : PortRec) : r.leavePatch.patch = none := by
  unfold PortRec.leavePatch; split <;> rfl

/-- The named ports leave, the others keep their patch (R48, R65). -/
theorem foldl_leavePatch_portPatch (l : List PortId) (s : State) (q : PortId) :
    ((l.foldl (fun a p => a.updPort p PortRec.leavePatch) s).port q).patch = if q ∈ l then none else (s.port q).patch := by
  induction l generalizing s with
  | nil => simp
  | cons p l ih =>
    rw [List.foldl_cons, ih, State.updPort_port]
    by_cases h : q = p
    · subst h; simp [PortRec.leavePatch_patch]
    · simp [h]

theorem foldl_leavePatch_patch (l : List PortId) (s : State) (m : SlotId) :
    (l.foldl (fun a p => a.updPort p PortRec.leavePatch) s).patch m = s.patch m := by
  induction l generalizing s with
  | nil => rfl
  | cons p l ih => rw [List.foldl_cons, ih, State.updPort_patch]

theorem kept_leaveFold (l : List PortId) (s : State) :
    Kept ns ps s (l.foldl (fun a p => a.updPort p PortRec.leavePatch) s) :=
  kept_foldl (fun _ _ => kept_updPort (PortRec.leavePatch_fixed _) (PortRec.leavePatch_carrier _)
    (.inr (.inr (PortRec.leavePatch_patch _)))) _ _

theorem ConsoleRec.forgetPatch_fixed (r : ConsoleRec) (n : SlotId) : (r.forgetPatch n).fixedPart = r.fixedPart := rfl

/-- After retirement the slot is unused; every other patch stands (R65). -/
theorem State.retire_patch (s : State) (n m : SlotId) (but : Option Console) :
    (s.retire n but).patch m = if m = n then PatchRec.unused else s.patch m := by
  unfold State.retire
  rw [State.offerRetired_patch, State.setPatch_patch]
  by_cases h : m = n
  · simp [h]
  · simp only [h, if_false, State.modConsole_patch]
    rw [foldl_leavePatch_patch, foldl_unkeyIfRelaying_patch, State.modPatch_patch, if_neg h]

/-- After retirement its members are in no patch (R65). -/
theorem State.retire_portPatch (s : State) (n : SlotId) (but : Option Console) (q : PortId) :
    ((s.retire n but).port q).patch = if q ∈ (s.patch n).members then none else (s.port q).patch := by
  unfold State.retire
  rw [State.offerRetired_port, State.setPatch_port, State.modConsole_port, State.modConsole_port, foldl_leavePatch_portPatch,
    foldl_unkeyIfRelaying_portPatch]
  rfl

theorem kept_retire (s : State) (n : SlotId) (but : Option Console) : Kept ns ps s (s.retire n but) := by
  unfold State.retire
  refine Kept.trans ?_ (kept_offerRetired _ _ _)
  refine Kept.trans ?_ (kept_setPatch (.inr (.inr rfl)))
  refine Kept.trans ?_ (kept_modConsole rfl)
  refine Kept.trans ?_ (kept_modConsole rfl)
  refine Kept.trans ?_ (kept_leaveFold _ _)
  refine Kept.trans ?_ (kept_foldl (fun _ _ => (flow_unkeyIfRelaying _ _).toKept.mono) _ _)
  exact kept_modPatch (.inr rfl)

theorem flow_retire (s : State) (n : SlotId) (but : Option Console) : Flow s (s.retire n but) where
  toKept := kept_retire s n but
  slots m := by
    rw [State.retire_patch]; split
    · exact .inr (.inl rfl)
    · exact .inl rfl
  agree a := by
    obtain ⟨a1, a2, a3⟩ := a
    refine ⟨fun m p => ?_, fun m => ?_, fun m => ?_⟩
    · rw [State.retire_patch, State.retire_portPatch]
      by_cases hm : m = n
      · subst hm
        rw [if_pos rfl]
        by_cases hp : p ∈ (s.patch m).members
        · simp [hp, PatchRec.unused]
        · have := mt (a1 m p).mpr hp
          simp [hp, PatchRec.unused, this]
      · rw [if_neg hm]
        by_cases hp : p ∈ (s.patch n).members
        · have hn := (a1 n p).mp hp
          rw [if_pos hp, a1 m p, hn]
          simp
          exact fun e => hm e.symm
        · rw [if_neg hp]; exact a1 m p
    · rw [State.retire_patch]; split
      · simp [PatchRec.unused]
      · exact a2 m
    · rw [State.retire_patch]; split
      · exact fun _ => rfl
      · exact a3 m

/-! ### Release and leaving -/

theorem flow_releaseOutcome {s : State} {n : SlotId} (hu : (s.patch n).state ≠ .unused) : Flow s (s.releaseOutcome n) := by
  unfold State.releaseOutcome
  split
  · exact flow_grant hu _
  · exact flow_grant hu _
  · exact flow_modPatch hu (by split <;> rfl) (by split <;> simp)

theorem flow_release {s : State} {n : SlotId} (hu : (s.patch n).state ≠ .unused) (but : Option Console) :
    Flow s (s.release n but) := by
  have hd : ((s.dropTalker n).patch n).state ≠ .unused := by rw [State.dropTalker_patch]; simpa using hu
  unfold State.release
  simp only []
  split
  · exact (flow_dropTalker hu).trans (flow_retire _ _ _)
  · exact (flow_dropTalker hu).trans (flow_releaseOutcome hd)

/-- A patch with a talker, a partner or a bid is in use, where memberships agree. -/
theorem used_of_stands {s : State} (a : s.membersAgree) {n : SlotId} {src : Source} (h : (s.patch n).stands src = true) :
    (s.patch n).state ≠ .unused := by
  intro e
  rw [a.2.2 n e] at h
  simp [PatchRec.stands, PatchRec.unused] at h

/-! ### Kept, in every state -/

theorem kept_grant (s : State) (n : SlotId) (src : Source) : Kept ns ps s (s.grant n src) := by
  unfold State.grant
  cases src with
  | port p => exact ((kept_modPatch (.inr rfl)).trans (flow_restInto _ p .talker).toKept.mono).trans (kept_offerBoth _ _)
  | console c => exact (kept_modPatch (.inr rfl)).trans (kept_offerBoth _ _)

theorem kept_dropTalker (s : State) (n : SlotId) : Kept ns ps s (s.dropTalker n) :=
  (kept_modPatch (.inr rfl)).trans (flow_idleTalker _ _).toKept.mono

theorem kept_preempt (s : State) (n : SlotId) (src : Source) (t : PortId) : Kept ns ps s (s.preempt n src t) :=
  (((kept_dropTalker _ _).trans (kept_grant _ _ _)).trans (kept_modPatch (.inr rfl))).trans (kept_offerBoth _ _)

theorem kept_releaseOutcome (s : State) (n : SlotId) : Kept ns ps s (s.releaseOutcome n) := by
  unfold State.releaseOutcome
  split
  · exact kept_grant _ _ _
  · exact kept_grant _ _ _
  · exact kept_modPatch (.inr (by split <;> rfl))

theorem kept_release (s : State) (n : SlotId) (but : Option Console) : Kept ns ps s (s.release n but) := by
  unfold State.release
  simp only []
  split
  · exact (kept_dropTalker _ _).trans (kept_retire _ _ _)
  · exact (kept_dropTalker _ _).trans (kept_releaseOutcome _ _)

theorem kept_evalPatch (s : State) (n : SlotId) : Kept ns ps s (s.evalPatch n) := (flow_evalPatch s n).toKept.mono
theorem kept_evalPort (s : State) (p : PortId) : Kept ns ps s (s.evalPort p) := (flow_evalPort s p).toKept.mono

theorem PatchRec.vacatePartner_fixed (r : PatchRec) : r.vacatePartner.fixedPart = r.fixedPart := by
  unfold PatchRec.vacatePartner; split <;> rfl

theorem kept_consoleLeaves (s : State) (c : Console) (n : SlotId) : Kept ns ps s (s.consoleLeaves c n) := by
  unfold State.consoleLeaves
  refine Kept.trans ?_ (kept_evalPatch _ _)
  split
  · exact kept_release _ _ _
  · split
    · exact kept_modPatch (.inr (PatchRec.vacatePartner_fixed _))
    · split
      · exact kept_modPatch (.inr rfl)
      · exact Kept.refl s

theorem kept_checkEmergency (s : State) (n : SlotId) (p : PortId) : Kept ns ps s (s.checkEmergency n p) := by
  unfold State.checkEmergency
  split
  · split
    · exact (kept_preempt _ _ _ _).trans (kept_evalPatch _ _)
    · exact Kept.refl s
  · exact Kept.refl s

theorem kept_priorityChanged (s : State) (p : PortId) (rise : Bool) : Kept ns ps s (s.priorityChanged p rise) := by
  unfold State.priorityChanged
  split
  · exact Kept.refl s
  · split
    · simp only []
      split
      · exact (kept_modPatch (.inr rfl)).trans (kept_checkEmergency _ _ _)
      · exact kept_modPatch (.inr rfl)
    · exact Kept.refl s

theorem kept_hangRunsOut (s : State) (n : SlotId) : Kept ns ps s (s.hangRunsOut n) := by
  unfold State.hangRunsOut
  split
  · exact (kept_modPatch (.inr rfl)).trans (kept_evalPatch _ _)
  · exact Kept.refl s

theorem kept_carrierQualified (s : State) (p : PortId) : Kept ns ps s (s.carrierQualified p) :=
  (flow_portBids s p).toKept.mono.trans (kept_evalPort _ _)

theorem kept_portLosesPlace (s : State) (p : PortId) : Kept ns ps s (s.portLosesPlace p) := by
  unfold State.portLosesPlace
  split
  · exact Kept.refl s
  · split
    · exact (kept_release _ _ _).trans (kept_evalPatch _ _)
    · split
      · exact (kept_modPatch (.inr rfl)).trans (kept_evalPatch _ _)
      · exact Kept.refl s

/-- A carrier event is taken as carrier-qualified or as carrier-lost. -/
theorem State.handOn_cases (s : State) (e : CarrierEvent) :
    s.handOn e = s.carrierQualified e.port ∨ s.handOn e = s.carrierLost e.port := by
  unfold State.handOn; split <;> simp

theorem kept_handOn (s : State) (e : CarrierEvent) : Kept ns ps s (s.handOn e) := by
  rcases s.handOn_cases e with h | h <;> rw [h]
  · exact kept_carrierQualified _ _
  · exact (kept_portLosesPlace _ _).trans (kept_evalPort _ _)

theorem kept_settleN (k : Nat) (s : State) : Kept ns ps s (settleN k s) := by
  induction k generalizing s with
  | zero => exact Kept.refl s
  | succ k ih =>
    unfold settleN
    split
    · exact Kept.refl s
    · exact ((kept_raised s _).trans (kept_handOn _ _)).trans (ih _)

/-- Handing on the raised carrier events leaves settings, flags, pins, links, masks and the audio slots. -/
theorem kept_settle (s : State) : Kept ns ps s s.settle := kept_settleN _ s

theorem kept_requestRises (s : State) (c : Console) : Kept ns ps s (s.requestRises c) := by
  unfold State.requestRises
  split
  · exact Kept.refl s
  · exact (flow_consoleBids _ _ _).toKept.mono
  · exact (flow_evalParked _ _).toKept.mono

theorem kept_requestFalls (s : State) (c : Console) : Kept ns ps s (s.requestFalls c) := by
  unfold State.requestFalls
  split
  · exact Kept.refl s
  · exact kept_consoleLeaves _ _ _
  · exact (flow_evalParked _ _).toKept.mono

theorem kept_changeTarget (s : State) (c : Console) (t : Target) : Kept ns ps s (s.changeTarget c t) := by
  unfold State.changeTarget
  have h : Kept ns ps s (s.modConsole c (fun r => { r with target := t })) := kept_modConsole rfl
  simp only []
  split
  · exact h
  · refine (h.trans ?_).trans (kept_requestRises _ _)
    split
    · exact Kept.refl _
    · exact kept_consoleLeaves _ _ _
    · exact (flow_evalParked _ _).toKept.mono

/-- A merge changes the two patches named and the memberships of the absorbed patch's members (R58 to R60). -/
theorem kept_merge (s : State) (c : Console) (a b : SlotId) : Kept [a, b] (s.patch b).members s (s.merge c a b) := by
  unfold State.merge
  refine Kept.trans ?_ (kept_offer _ _ _)
  refine Kept.trans ?_ (kept_modConsole rfl)
  refine Kept.trans ?_ (kept_modConsole rfl)
  refine Kept.trans ?_ (kept_evalPatch _ _)
  refine Kept.trans ?_ (kept_foldl_mem (fun _ _ h => kept_updPort rfl rfl (.inl h)) _)
  exact (kept_setPatch (.inl (by simp))).trans (kept_setPatch (.inl (by simp)))

/-- A join changes the patch joined and the membership of the port (R47). -/
theorem kept_join {n : SlotId} {p : PortId} (hn : n ∈ ns) (hp : p ∈ ps) (s : State) : Kept ns ps s (s.join n p) := by
  unfold State.join
  simp only []
  have h1 : Kept ns ps s (s.modPatch n (fun r => { r with members := r.members ++ [p] })) := kept_modPatch (.inl hn)
  have h2 : Kept ns ps (s.modPatch n (fun r => { r with members := r.members ++ [p] }))
      ((s.modPatch n (fun r => { r with members := r.members ++ [p] })).updPort p (fun r =>
        if r.isParked then { r with patch := some n } else { r.restInto .idle with patch := some n })) :=
    kept_updPort (by split <;> rfl) (by split <;> rfl) (.inl hp)
  split
  · exact h1.trans h2
  · exact ((h1.trans h2).trans (flow_portBidsIfQualified _ _).toKept.mono).trans (kept_evalPort _ _)

theorem kept_joinAll {n : SlotId} (s : State) (l : List PortId) : Kept [n] l s (s.joinAll n l) :=
  kept_foldl_mem (f := fun a p => a.join n p) (fun _ _ h => kept_join (by simp) h _) _

/-- A leave changes the patch left; the ports that leave are in no patch (R48, R54). -/
theorem kept_leaveAll {n : SlotId} (hn : n ∈ ns) (s : State) (l : List PortId) (c : Console) :
    Kept ns ps s (s.leaveAll n l c) := by
  unfold State.leaveAll
  simp only []
  refine Kept.trans ?_ (kept_evalPatch _ _)
  have h1 : Kept ns ps s (l.foldl (fun a p => a.withdraw n (.port p)) s) :=
    kept_foldl (fun _ _ => kept_modPatch (.inr rfl)) _ _
  have h2 := h1.trans (kept_foldl (f := State.unkeyIfRelaying) (fun s p => (flow_unkeyIfRelaying s p).toKept.mono) l _)
  have h3 := h2.trans (kept_modPatch (n := n) (f := fun r => { r with members := r.members.filter (fun p => !l.contains p) })
    (.inl hn))
  have h4 := h3.trans (kept_leaveFold l _)
  split
  · exact h4.trans (kept_release _ _ _)
  · exact h4

theorem kept_dissolve (s : State) (c : Console) (n : SlotId) (k : Nat) : Kept ns ps s (s.dissolve c n k) := by
  unfold State.dissolve
  split
  · exact (kept_modPatch (.inr rfl)).trans (kept_evalPatch _ _)
  · exact kept_retire _ _ _

/-! ### Flow, where memberships agree -/

theorem flow_release_of_stands {s : State} (a : s.membersAgree) {n : SlotId} {src : Source}
    (h : (s.patch n).talker = some src) (but : Option Console) : Flow s (s.release n but) :=
  flow_release (used_of_stands a (src := src) (by simp [PatchRec.stands, h])) but

theorem flow_consoleLeaves {s : State} (a : s.membersAgree) (c : Console) (n : SlotId) : Flow s (s.consoleLeaves c n) := by
  unfold State.consoleLeaves
  refine Flow.trans ?_ (flow_evalPatch _ _)
  split
  · rename_i h; exact flow_release_of_stands a h none
  · split
    · rename_i h
      have hu := used_of_stands a (n := n) (src := .console c) (by simp [PatchRec.stands, h])
      refine flow_modPatch hu ?_ ?_
      · unfold PatchRec.vacatePartner; split <;> rfl
      · unfold PatchRec.vacatePartner; split <;> exact hu
    · split
      · rename_i h
        exact flow_withdraw (used_of_stands a (src := .console c) (by have := List.contains_iff_mem.mp h; simp [PatchRec.stands, this])) _
      · exact Flow.refl s

theorem flow_portLosesPlace {s : State} (a : s.membersAgree) (p : PortId) : Flow s (s.portLosesPlace p) := by
  unfold State.portLosesPlace
  split
  · exact Flow.refl s
  · split
    · rename_i h; exact (flow_release_of_stands a h none).trans (flow_evalPatch _ _)
    · split
      · rename_i h
        exact (flow_withdraw (used_of_stands a (src := .port p) (by have := List.contains_iff_mem.mp h; simp [PatchRec.stands, this])) _).trans
          (flow_evalPatch _ _)
      · exact Flow.refl s

theorem flow_handOn {s : State} (a : s.membersAgree) (e : CarrierEvent) : Flow s (s.handOn e) := by
  rcases s.handOn_cases e with h | h <;> rw [h]
  · exact (flow_portBids s _).trans (flow_evalPort _ _)
  · exact (flow_portLosesPlace a _).trans (flow_evalPort _ _)

theorem flow_settleN (k : Nat) {s : State} (a : s.membersAgree) : Flow s (settleN k s) := by
  induction k generalizing s with
  | zero => exact Flow.refl s
  | succ k ih =>
    unfold settleN
    split
    · exact Flow.refl s
    · rename_i e rest _
      have h := flow_raised s rest
      have h2 := h.trans (flow_handOn (h.agree a) e)
      exact h2.trans (ih (h2.agree a))

theorem flow_settle {s : State} (a : s.membersAgree) : Flow s s.settle := flow_settleN _ a

theorem flow_requestRises (s : State) (c : Console) : Flow s (s.requestRises c) := by
  unfold State.requestRises
  split
  · exact Flow.refl s
  · exact flow_consoleBids _ _ _
  · exact flow_evalParked _ _

theorem flow_requestFalls {s : State} (a : s.membersAgree) (c : Console) : Flow s (s.requestFalls c) := by
  unfold State.requestFalls
  split
  · exact Flow.refl s
  · exact flow_consoleLeaves a _ _
  · exact flow_evalParked _ _

theorem flow_changeTarget {s : State} (a : s.membersAgree) (c : Console) (t : Target) : Flow s (s.changeTarget c t) := by
  unfold State.changeTarget
  have h : Flow s (s.modConsole c (fun r => { r with target := t })) := flow_modConsole rfl
  simp only []
  split
  · exact h
  · refine (h.trans ?_).trans (flow_requestRises _ _)
    split
    · exact Flow.refl _
    · exact flow_consoleLeaves (h.agree a) _ _
    · exact flow_evalParked _ _

theorem flow_hangRunsOut (s : State) (n : SlotId) : Flow s (s.hangRunsOut n) := by
  unfold State.hangRunsOut
  split
  · rename_i h
    exact (flow_modPatch (by rw [h]; decide) rfl (by simp)).trans (flow_evalPatch _ _)
  · exact Flow.refl s

end Sys2Proof.Machine
end

