-- ==== Sys2Proof/Laws/PerInstr.lean ====
section
/-! SUPPORT. PayloadFits: the payload that carries a well-formed command is as long as its arguments call for, and fits a frame
(R164, R168). One lemma for each constructor of Instr; an event row carries no payload. -/

namespace Sys2Proof

theorem putMarked_byte_length (o : Option Nat) : (putMarked putByte o).length = markedSize 1 o := by cases o <;> rfl
theorem putMarked_word_length (o : Option Nat) : (putMarked putWord o).length = markedSize 2 o := by cases o <;> rfl
theorem putLabel_length (s : PatchSelection) : (putLabel s.label).length = s.labelSize := by
  unfold PatchSelection.labelSize; cases s.label <;> rfl

theorem PortSelection.values_length (s : PortSelection) : s.values.length = s.size := by
  simp [PortSelection.values, PortSelection.size, putMarked_byte_length, putMarked_word_length]; omega

theorem PatchSelection.values_length (s : PatchSelection) : s.values.length = s.size := by
  simp [PatchSelection.values, PatchSelection.size, putMarked_byte_length, putMarked_word_length, putLabel_length]; omega

theorem putEntries_length (es : List ListenArg) : (es.flatMap putEntry).length = 3 * es.length := by
  induction es with
  | nil => rfl
  | cons e es ih => simp [List.flatMap_cons, ih, putEntry, putByte, putWord]; omega

/-- The payload of a request has the length its arguments call for (R168). -/
theorem encodeRequest_length (r : Request) : (encodeRequest r).length = r.size := by
  cases r
  case setListen es =>
    have := putEntries_length es
    simp only [encodeRequest, Request.size, List.length_append, this, List.length_cons, List.length_nil]
  case setLink t m => cases m <;> simp [encodeRequest, Request.size, putMarked_byte_length] <;> omega
  all_goals
    simp [encodeRequest, Request.size, putCounted, putWord, PortSelection.values_length, PatchSelection.values_length,
      putMarked_word_length]
  all_goals omega

theorem Request.size_pos (r : Request) : 1 ≤ r.size := by cases r <;> simp [Request.size] <;> omega

namespace Laws.PayloadFits

/-- The payload that carries a well-formed command holds 1 to 64 bytes, as many as its arguments call for. -/
def Statement (i : Instr) : Prop :=
  i.wellFormed = true → ∀ c r, i.request? = some (c, r) →
    (encodeRequest r).length = r.size ∧ 1 ≤ r.size ∧ r.size ≤ 64

theorem of_request {i : Instr} {c : Console} {r : Request} (h : i.request? = some (c, r))
    (hw : i.wellFormed = true → r.wellFormed = true) : Statement i := by
  intro w c' r' h'
  rw [h] at h'
  cases h'
  have := hw w
  simp only [Request.wellFormed, Config.maxPayload, Bool.and_eq_true] at this
  exact ⟨encodeRequest_length r, r.size_pos, of_decide_eq_true this.2⟩

theorem of_event {i : Instr} (h : i.request? = none) : Statement i := by
  intro _ c r h'; rw [h] at h'; cases h'

theorem powerOn : Statement .powerOn := of_event rfl
theorem resetLineAsserted : Statement .resetLineAsserted := of_event rfl
theorem resetLineReleased : Statement .resetLineReleased := of_event rfl
theorem corLineChange (p : PortId) (l : Level) : Statement (.corLineChange p l) := of_event rfl
theorem emgLineChange (p : PortId) (l : Level) : Statement (.emgLineChange p l) := of_event rfl
theorem glitchFilterExpiry (p : PortId) (input : FilterInput) : Statement (.glitchFilterExpiry p input) := of_event rfl
theorem qualifyTimerExpiry (p : PortId) : Statement (.qualifyTimerExpiry p) := of_event rfl
theorem dropTimerExpiry (p : PortId) : Statement (.dropTimerExpiry p) := of_event rfl
theorem guardExpiry (p : PortId) : Statement (.guardExpiry p) := of_event rfl
theorem lockoutExpiry (p : PortId) : Statement (.lockoutExpiry p) := of_event rfl
theorem txsChange (p : PortId) (l : Level) : Statement (.txsChange p l) := of_event rfl
theorem keyUpExpiry (p : PortId) : Statement (.keyUpExpiry p) := of_event rfl
theorem startWindowExpiry (p : PortId) : Statement (.startWindowExpiry p) := of_event rfl
theorem lossExpiry (p : PortId) : Statement (.lossExpiry p) := of_event rfl
theorem hangExpiry (n : SlotId) : Statement (.hangExpiry n) := of_event rfl
theorem timeOut (n : SlotId) : Statement (.timeOut n) := of_event rfl
theorem consolePttLineChange (c : Console) (l : Level) : Statement (.consolePttLineChange c l) := of_event rfl
theorem pttFilterExpiry (c : Console) : Statement (.pttFilterExpiry c) := of_event rfl
theorem silenceExpiry (c : Console) : Statement (.silenceExpiry c) := of_event rfl
theorem alertByteSent (c : Console) : Statement (.alertByteSent c) := of_event rfl
theorem audioFrame (samples : Vector Sample 18) : Statement (.audioFrame samples) := of_event rfl
theorem partialFrameDropped (c : Console) : Statement (.partialFrameDropped c) := of_event rfl
theorem badFrame (c : Console) (reason : FaultReason) (position : Nat) : Statement (.badFrame c reason position) := of_event rfl
theorem frameTimeout (c : Console) : Statement (.frameTimeout c) := of_event rfl
theorem unknownCommand (c : Console) (code : Nat) : Statement (.unknownCommand c code) := of_event rfl
theorem responseTransmissionStart (c : Console) : Statement (.responseTransmissionStart c) := of_event rfl
theorem responseSent (c : Console) : Statement (.responseSent c) := of_event rfl
theorem queryUnit (c : Console) : Statement (.queryUnit c) := of_request rfl fun h => h
theorem restart (c : Console) : Statement (.restart c) := of_request rfl fun h => h
theorem setLink (c : Console) (supervision : Option Nat) (mask : Option Byte) :
    Statement (.setLink c supervision mask) := of_request rfl fun h => h
theorem readNotice (c : Console) : Statement (.readNotice c) := of_request rfl fun h => h
theorem setPort (c : Console) (port : Nat) (sel : PortSelection) : Statement (.setPort c port sel) := of_request rfl fun h => h
theorem queryPort (c : Console) (port : Nat) : Statement (.queryPort c port) := of_request rfl fun h => h
theorem clearPortConditions (c : Console) (port : Nat) (sel : ConditionSelection) :
    Statement (.clearPortConditions c port sel) := of_request rfl fun h => h
theorem reservePort (c : Console) (port : Nat) : Statement (.reservePort c port) := of_request rfl fun h => h
theorem releasePort (c : Console) (port : Nat) : Statement (.releasePort c port) := of_request rfl fun h => h
theorem createPatch (c : Console) (slot : Nat) (label : List Byte) (ports : List Nat) :
    Statement (.createPatch c slot label ports) := of_request rfl fun h => h
theorem addMembers (c : Console) (patch : Nat) (ports : List Nat) :
    Statement (.addMembers c patch ports) := of_request rfl fun h => h
theorem removeMembers (c : Console) (patch : Nat) (ports : List Nat) :
    Statement (.removeMembers c patch ports) := of_request rfl fun h => h
theorem moveMember (c : Console) (port : Nat) (dest : Nat) : Statement (.moveMember c port dest) := of_request rfl fun h => h
theorem mergePatches (c : Console) (survivor : Nat) (absorbed : Nat) :
    Statement (.mergePatches c survivor absorbed) := of_request rfl fun h => h
theorem setPatch (c : Console) (patch : Nat) (sel : PatchSelection) :
    Statement (.setPatch c patch sel) := of_request rfl fun h => h
theorem dissolveNow (c : Console) (patch : Nat) : Statement (.dissolveNow c patch) := of_request rfl fun h => h
theorem dissolveWhenClear (c : Console) (patch : Nat) : Statement (.dissolveWhenClear c patch) := of_request rfl fun h => h
theorem queryPatch (c : Console) (patch : Nat) : Statement (.queryPatch c patch) := of_request rfl fun h => h
theorem listPatches (c : Console) : Statement (.listPatches c) := of_request rfl fun h => h
theorem setSharing (c : Console) (patch : Nat) (value : Nat) : Statement (.setSharing c patch value) := of_request rfl fun h => h
theorem takeOver (c : Console) (patch : Nat) : Statement (.takeOver c patch) := of_request rfl fun h => h
theorem setConsole (c : Console) (micTrim : Option Nat) (sidetone : Option Nat) :
    Statement (.setConsole c micTrim sidetone) := of_request rfl fun h => h
theorem setListen (c : Console) (entries : List ListenArg) : Statement (.setListen c entries) := of_request rfl fun h => h
theorem setTalkTarget (c : Console) (kind : Nat) (number : Nat) :
    Statement (.setTalkTarget c kind number) := of_request rfl fun h => h
theorem seize (c : Console) : Statement (.seize c) := of_request rfl fun h => h
theorem unseize (c : Console) : Statement (.unseize c) := of_request rfl fun h => h
theorem characterReceived (c : Console) (ch : LineChar) : Statement (.characterReceived c ch) := of_event rfl

end Laws.PayloadFits

end Sys2Proof
end

