-- ==== Sys2Proof/Laws/Settle.lean ====
section
/-! SUPPORT. When an action hands nothing on: writes that raise no carrier event, and carrier events of a port that is in no patch or is PARKED in one. -/

namespace Sys2Proof.Machine

/-! ### Writes on one record -/

theorem State.setPort_setPort (s : State) (p : PortId) (a b : PortRec) : (s.setPort p a).setPort p b = s.setPort p b := by
  simp [State.setPort]

theorem State.setPatch_setPatch (s : State) (n : SlotId) (a b : PatchRec) : (s.setPatch n a).setPatch n b = s.setPatch n b := by
  simp [State.setPatch]

theorem Pair.set_set {α : Type} (x : Pair α) (c : Console) (a b : α) : (x.set c a).set c b = x.set c b := by cases c <;> rfl

theorem State.setConsole_setConsole (s : State) (c : Console) (a b : ConsoleRec) :
    (s.setConsole c a).setConsole c b = s.setConsole c b := by simp [State.setConsole, Pair.set_set]

theorem State.setLink_setLink (s : State) (c : Console) (a b : LinkUnit) : (s.setLink c a).setLink c b = s.setLink c b := by
  simp [State.setLink, Pair.set_set]

theorem Pair.set_get {α : Type} (x : Pair α) (c : Console) : x.set c (x.get c) = x := by cases c <;> rfl

@[simp] theorem State.setPort_self (s : State) (p : PortId) : s.setPort p (s.port p) = s := by
  simp [State.setPort, State.port]

@[simp] theorem State.setPatch_self (s : State) (n : SlotId) : s.setPatch n (s.patch n) = s := by
  simp [State.setPatch, State.patch]

@[simp] theorem State.setConsole_self (s : State) (c : Console) : s.setConsole c (s.console c) = s := by
  simp [State.setConsole, State.console, Pair.set_get]

@[simp] theorem State.setLink_self (s : State) (c : Console) : s.setLink c (s.link c) = s := by
  simp [State.setLink, State.link, Pair.set_get]

@[simp] theorem State.raise_nil (s : State) (p : PortId) : s.raise p [] = s := by simp [State.raise]

@[simp] theorem State.writePort_quiet (s : State) (p : PortId) (r : PortRec) : s.writePort p (r, []) = s.setPort p r := by
  simp [State.writePort]

/-- A request that neither begins nor ends masking is a plain write. -/
theorem State.updPort_of_masked {s : State} {p : PortId} {f : PortRec → PortRec} (h : (f (s.port p)).masked = (s.port p).masked) :
    s.updPort p f = s.setPort p (f (s.port p)) := by
  rcases s.updPort_cases p f with e | ⟨e, _⟩
  · rw [e, PortRec.remask_same h, State.writePort_quiet]
  · unfold State.maskedAgain at e
    rw [h] at e
    cases hm : (s.port p).masked <;> simp [hm] at e

/-- A request that begins masking on a machine at rest is a plain write too (R11). -/
theorem State.updPort_of_rest {s : State} {p : PortId} {f : PortRec → PortRec} (hc : (f (s.port p)).carrier = .clear)
    (hq : (f (s.port p)).qualifyLeft = 0) (hd : (f (s.port p)).dropLeft = 0) (hm : (f (s.port p)).masked = true) :
    s.updPort p f = s.setPort p (f (s.port p)) := by
  have h : PortRec.remask (s.port p) (f (s.port p)) = (f (s.port p), []) := by
    unfold PortRec.remask
    rw [hm]
    cases (s.port p).masked
    · simp only [Bool.not_false, Bool.and_true, if_true]
      have h0 : ∀ r : PortRec, r.carrier = .clear → r.qualifyLeft = 0 → r.dropLeft = 0 → r.maskBegins = (r, []) := by
        intro r h1 h2 h3
        obtain ⟨⟩ := r
        simp_all [PortRec.maskBegins, PortRec.qualified]
      exact h0 _ hc hq hd
    · simp
  rcases s.updPort_cases p f with e | ⟨e, _⟩
  · rw [e, h, State.writePort_quiet]
  · unfold State.maskedAgain PortRec.qualified at e
    rw [hc] at e
    simp at e

/-! ### Settling -/

/-- Nothing raised, nothing handed on. -/
theorem State.settle_of_none {s : State} (h : s.raised = []) : s.settle = s := by
  unfold State.settle Config.carrierEventBound settleN; rw [h]

/-- A parked port without a standing in its patch, whose keying is as R112 has it, moves nothing with its carrier events (R71, R143). -/
theorem State.handOn_parked {s : State} (e : CarrierEvent) (hk : (s.port e.port).isParked = true)
    (hs : ∀ n, (s.port e.port).patch = some n → (s.patch n).stands (.port e.port) = false)
    (he : s.evalParked e.port = s) : s.handOn e = s := by
  have ev : s.evalPort e.port = s := by unfold State.evalPort; rw [if_pos hk, he]
  rcases s.handOn_cases e with h | h <;> rw [h]
  · have hb : s.bidsOn? e.port = none := by
      unfold State.bidsOn?
      split
      · rw [hk]; rfl
      · rfl
    unfold State.carrierQualified State.portBids
    rw [hb]; exact ev
  · have hl : s.portLosesPlace e.port = s := by
      unfold State.portLosesPlace
      split
      · rfl
      · rename_i n hn
        have h := hs n hn
        simp only [PatchRec.stands, Bool.or_eq_false_iff, beq_eq_false_iff_ne] at h
        rw [if_neg h.1.1, h.2]; rfl
    unfold State.carrierLost
    rw [hl]; exact ev

/-- A TIME_OUT row moves nothing where the count is short of the limit in force (R126). -/
theorem State.reachesLimit_short {s : State} {n : SlotId} {k : Nat} (h : (s.patch n).limit = some k)
    (hk : (s.patch n).elapsed + 1 < k) : s.reachesLimit n = s := by
  unfold State.reachesLimit
  rw [h]
  split
  · rename_i h2
    cases h2
    rw [if_neg (by omega)]
  · rfl

/-- A port in no patch and not parked reports to nobody (R9, R19). -/
theorem State.handOn_unpatched {s : State} (e : CarrierEvent) (hp : (s.port e.port).patch = none)
    (hk : (s.port e.port).isParked = false) : s.handOn e = s := by
  have ev : s.evalPort e.port = s := by unfold State.evalPort; rw [hk, hp]; simp
  rcases s.handOn_cases e with h | h <;> rw [h]
  · unfold State.carrierQualified State.portBids State.bidsOn?
    rw [hp]; exact ev
  · unfold State.carrierLost State.portLosesPlace
    rw [hp]; exact ev

/-- What one port in no patch raises is handed on to nobody. -/
theorem State.settle_unpatched {s : State} {e : CarrierEvent} (h : s.raised = [e]) (hp : (s.port e.port).patch = none)
    (hk : (s.port e.port).isParked = false) : s.settle = { s with raised := [] } := by
  unfold State.settle Config.carrierEventBound
  unfold settleN; rw [h]
  simp only []
  rw [State.handOn_unpatched (s := { s with raised := [] }) e hp hk]
  unfold settleN; rfl

/-- The end of an action on a port in no patch whose machine raised at most one event: the write alone. -/
theorem State.settle_writePort_unpatched {s : State} {p : PortId} {rn : PortRec × List CarrierNews} (h : s.raised = [])
    (hn : rn.2 = [] ∨ ∃ k, rn.2 = [k]) (hp : rn.1.patch = none) (hk : rn.1.isParked = false) :
    (s.writePort p rn).settle = s.setPort p rn.1 := by
  rcases hn with e | ⟨k, e⟩
  · unfold State.writePort; rw [e, State.raise_nil]
    exact State.settle_of_none (by simpa using h)
  · have hr : (s.writePort p rn).raised = [⟨k, p⟩] := by simp [State.writePort, State.raise, h, e]
    have hport : (s.writePort p rn).port p = rn.1 := by rw [State.writePort_port]; simp
    rw [State.settle_unpatched hr (by rw [hport]; exact hp) (by rw [hport]; exact hk)]
    unfold State.writePort State.raise
    simp [State.setPort, ← h]

end Sys2Proof.Machine
end

