-- ==== Sys2Proof/Tests/Slice0.lean ====
section
/-! SUPPORT. Tests: terms that WellFormed refuses, the spec's worked examples on small states, and for every statement with hypotheses
a state and operands that meet them, each clause at a boundary value. Expected values are the spec's own; each test names its rule. -/

namespace Sys2Proof.Tests

open Sys2Proof Sys2Proof.Machine

/-! ### Small states -/

/-- The state one command leaves. -/
def ran (s : State) (i : Instr) : State :=
  match exec i s with
  | .next t => t
  | .fault _ => s
  | .refused _ => s

/-- The statuses and data that wait for console c. -/
def answers (s : State) (c : Console) : List (Status × List Byte) := (s.link c).queue.map (fun r => (r.status, r.data))

/-- Port 1 with record r, everything else as after power-on. -/
def port1 (r : PortRec) : State := State.reset.setPort 0 r

def member : PortRec := { PortRec.reset with patch := some 0, state := .idle }

def patchWith (members : List PortId) : PatchRec := { PatchRec.created .A [] with members := members }

/-- Patch 1 of console A at rest, with members 1 and 2. -/
def resting : State := ((State.reset.setPort 0 member).setPort 1 member).setPatch 0 (patchWith [0, 1])

/-- The same with port 1 talking, one millisecond from its limit, port 2 relaying, and nobody waiting. -/
def talking : State :=
  (((State.reset.setPort 0 { member with state := .talker, carrier := .present, corPin := .low, filteredCor := true }).setPort 1
    { member with state := .relay }).setPatch 0
    { patchWith [0, 1] with state := .talk, talker := some (.port 0), elapsed := 119999, limit := some 120000 })

/-- Console c with record r, on a state. -/
def withConsole (s : State) (c : Console) (r : ConsoleRec) : State := s.setConsole c r

/-- The reset state with the RESET line asserted. -/
def held : State := { State.reset with resetLine := true }

/-! ### WellFormed refuses -/

theorem test_wf_port_number_needs_a_byte : (Instr.queryPort .A 256).wellFormed = false := by decide
theorem test_wf_level_needs_a_word : (Instr.setConsole .A (some 65536) none).wellFormed = false := by decide
theorem test_wf_setting_needs_its_bytes :
    (Instr.setPort .A 1 { noPortItem with kind := some 256 }).wellFormed = false ∧
      (Instr.setPatch .A 1 { noPatchItem with level := some 65536 }).wellFormed = false := by decide
theorem test_wf_listed_port_needs_a_byte :
    (Instr.addMembers .A 1 [1, 256]).wellFormed = false ∧ (Instr.setListen .A [⟨256, 0⟩]).wellFormed = false := by decide
theorem test_wf_payload_holds_64_bytes :
    (Instr.addMembers .A 1 (List.replicate 61 1)).wellFormed = true ∧
      (Instr.addMembers .A 1 (List.replicate 62 1)).wellFormed = false := by decide
theorem test_wf_fault_positions :
    (Instr.badFrame .A .check 0).wellFormed = true ∧ (Instr.badFrame .A .check 1).wellFormed = false ∧
      (Instr.badFrame .A .timeout 0).wellFormed = false ∧ (Instr.badFrame .A .length 133).wellFormed = true ∧
      (Instr.badFrame .A .length 134).wellFormed = false := by decide
theorem test_wf_unknown_code_is_unknown :
    (Instr.unknownCommand .A 0x25).wellFormed = false ∧ (Instr.unknownCommand .A 256).wellFormed = false ∧
      (Instr.unknownCommand .A 0x05).wellFormed = true := by decide

/-! ### The spec's worked examples -/

/-- Chapter 9, "one frame on the line": SET PATCH of patch 3, level 245. -/
theorem test_frame_on_the_line :
    encodeRequest (.setPatch 3 { noPatchItem with level := some 245 }) = [0x25#8, 0x03#8, 0x10#8, 0x00#8, 0xF5#8] ∧
      frameChars [0x25#8, 0x03#8, 0x10#8, 0x00#8, 0xF5#8]
        = [0xF3#8, 0x25#8, 0x03#8, 0x10#8, 0x00#8, 0xF5#8, 0xD5#8, 0xD3#8, 0xF4#8] := by decide

/-- The same payload read back (R168, R173). -/
theorem test_payload_read :
    parsePayload [0x25#8, 0x03#8, 0x10#8, 0x00#8, 0xF5#8] = .request (.setPatch 3 { noPatchItem with level := some 245 }) := by decide

/-- Chapter 9: the same frame with a parity error at position 3 is answered BAD-FRAME, CHARACTER, 3. -/
theorem test_parity_error_is_answered :
    (State.reset.after ([.sent 0xF3#8, .sent 0x25#8, .sent 0x03#8, ⟨0x10#8, false, true⟩, .sent 0xF4#8].map
      (Instr.characterReceived .B))).map (fun t => answers t .B) = some [(.badFrame, [1#8, 3#8])] := by decide

/-- R163: 0x10 holds one 1, so its parity bit is 1; with 0, or without a stop bit, it is in error; 0xF3 holds six, so its parity bit
is 0. -/
theorem test_even_parity :
    LineChar.sent 0x10#8 = ⟨0x10#8, true, true⟩ ∧ LineChar.sent 0xF3#8 = ⟨0xF3#8, false, true⟩ ∧
      (⟨0x10#8, false, true⟩ : LineChar).error = true ∧ (⟨0x10#8, true, false⟩ : LineChar).error = true ∧
      (⟨0x10#8, true, true⟩ : LineChar).error = false := by decide

/-- Chapter 8, "one relay set's output slots": the gains, terms and sums of port 7. -/
theorem test_relay_slot_gains :
    compose (compose 300 200) 384 = 351 ∧ compose (compose 256 200) 384 = 300 ∧ compose (compose 300 256) 384 = 450 ∧
      compose (compose 256 256) 384 = 384 := by decide

theorem test_relay_slot_terms :
    term 20000#16 351 = 27422 ∧ term 12000#16 300 = 14063 ∧ term (-30000#16) 351 = -41133 ∧ term (-12000#16) 300 = -14062 ∧
      slotSample [27422, 14063] = 32767#16 ∧ slotSample [-41133, -14062] = -32768#16 := by decide

/-- Chapter 8, "composition at the limit" and "a console into its reserved radio". -/
theorem test_composition_at_the_limit :
    compose 1023 1023 = 1023 ∧ compose 1023 64 = 256 ∧ compose 600 512 = 1023 ∧ term 8000#16 1023 = 31969 := by decide

/-- Chapter 8, "one console headset". -/
theorem test_console_headset :
    term 10000#16 (compose 256 300) = 11719 ∧ term (-4000#16) (compose 320 300) = -5859 ∧ term 6000#16 200 = 4688 ∧
      term 8000#16 64 = 2000 ∧ slotSample [11719, -5859, 4688, 2000] = 12548#16 := by decide

/-- Chapter 1, "SET PORT with a clamped value". -/
theorem test_set_port_clamps :
    let t := ran State.reset
      (.setPort .B 7 { noPortItem with kind := some 1, qualifyTime := some 700, basePriority := some 5, receiveTrim := some 300 })
    (t.port 6).cfg = { PortSettings.default with kind := .full, qualifyTime := 500, basePriority := 5, receiveTrim := 300 } ∧
      (answers t .B).map Prod.fst = [.clamped] := by decide

/-- Chapter 1, the same command with a kind outside the enumeration: BAD-ARGUMENT naming item 1 (R20, R172). -/
theorem test_set_port_refuses :
    let t := ran State.reset (.setPort .B 7 { noPortItem with kind := some 3, qualifyTime := some 700 })
    (t.port 6).cfg = PortSettings.default ∧ answers t .B = [(.badArgument, [3#8, 1#8])] := by decide

/-- R23: a cleared lockout and emergency flag, with the three conditions in the answer. -/
theorem test_clear_conditions :
    let t := ran (port1 { PortRec.reset with emergency := true, lockoutLeft := 42000 })
      (.clearPortConditions .A 1 ⟨false, true, true⟩)
    ((t.port 0).emergency, (t.port 0).lockoutLeft) = (false, 0) ∧ answers t .A = [(.ok, [0#8, 0#8, 0#8, 0#8, 0#8])] := by decide

/-- R6, R7: an asserted COR that has held goes to QUALIFYING for the port's 40 ms. -/
theorem test_cor_qualifies :
    let r := ((ran (port1 { PortRec.reset with corPin := .low, corHold := 1 }) (.glitchFilterExpiry 0 .cor)).port 0)
    (r.carrier, r.qualifyLeft) = (.qualifying, 40) := by decide

/-- R77, R98, R99: the first qualified carrier takes a patch at rest, and the other member is keyed for its 150 ms. -/
theorem test_qualified_carrier_is_granted :
    let t := ran (resting.setPort 0 { member with carrier := .qualifying, qualifyLeft := 1 }) (.qualifyTimerExpiry 0)
    (t.patch 0).talker = some (.port 0) ∧ (t.port 0).state = .talker ∧ (t.port 1).state = .keyUp ∧ (t.port 1).keyUpLeft = 150 := by
  decide

/-- R85, R92, R102: the talker's carrier lost, the patch hangs for 1500 ms and its relay port stays keyed. -/
theorem test_lost_carrier_hangs :
    let t := ran (talking.setPort 0 { talking.port 0 with carrier := .dropping, dropLeft := 1 }) (.dropTimerExpiry 0)
    (t.patch 0).state = .hang ∧ (t.patch 0).hangLeft = 1500 ∧ (t.port 0).state = .idle ∧ (t.port 1).state = .relay := by decide

/-- R93, R101, R14: the hang runs out and the relay port is unkeyed with its guard of 100 ms. -/
theorem test_hang_runs_out :
    let t := ran ((talking.setPort 0 member).setPatch 0 { patchWith [0, 1] with state := .hang, hangLeft := 1 }) (.hangExpiry 0)
    (t.patch 0).state = .quiet ∧ (t.port 1).state = .idle ∧ (t.port 1).guardLeft = 100 := by decide

/-- R118, R121: a time-out locks the talker out for 10 s and releases the patch. -/
theorem test_time_out :
    let t := ran talking (.timeOut 0)
    (t.patch 0).talker = none ∧ (t.port 0).lockoutLeft = 10000 ∧ (t.notice .A).entries.contains ⟨.timeOut, 1⟩ = true := by decide

/-- R126: the carrier-lost taken first, the row that follows is no time-out: the port that takes the talk right next is not locked out. -/
theorem test_no_time_out_after_release :
    let u := (talking.setPort 0 { talking.port 0 with carrier := .dropping, dropLeft := 1 }).setPatch 0
      { talking.patch 0 with bids := [.port 1] }
    let t := ran (ran u (.dropTimerExpiry 0)) (.timeOut 0)
    (t.patch 0).talker = some (.port 1) ∧ (t.port 1).lockoutLeft = 0 ∧ (t.port 0).lockoutLeft = 0 := by decide

/-- R79, R80: an emergency on a waiting port pre-empts the talker, who waits ahead of its equals (chapter 4's example). -/
theorem test_emergency_pre_empts :
    let waiting : PortRec := { member with carrier := .present, emgPin := .low, emgHold := 1 }
    let u := ran ((talking.setPort 1 waiting).setPatch 0 { talking.patch 0 with bids := [.port 1] }) (.glitchFilterExpiry 1 .emg)
    (u.patch 0).talker = some (.port 1) ∧ (u.patch 0).bids = [.port 0] ∧
      (u.notice .B).entries.contains ⟨.preempted, 1⟩ = true := by decide

/-- R109: a port that does not key in its start window is faulted, unkeyed and told of. -/
theorem test_start_window_faults :
    let t := ran (talking.setPort 1 { member with state := .relay, startWindow := 1 }) (.startWindowExpiry 1)
    (t.port 1).fault = true ∧ (t.port 1).state = .idle ∧ (t.notice .A).entries.contains ⟨.portFault, 2⟩ = true := by decide

/-- R142, R143, R112: a reserved port is parked, and keyed for the console that talks to it. -/
theorem test_reserved_port_is_keyed :
    let t := ran State.reset (.reservePort .A 1)
    let u := ran (ran t (.setTalkTarget .A 2 1)) (.seize .A)
    (t.port 0).state = .parked ∧ (u.port 0).state = .parkedKeyUp ∧ (u.port 0).ptt = true := by decide

/-- R49, R50: CREATE PATCH with slot 0 takes slot 1; the answer reports it QUIET with its members. -/
theorem test_create_patch :
    let t := ran State.reset (.createPatch .A 0 [0x4E#8] [3, 4])
    (t.patch 0).members = [2, 3] ∧ (t.patch 0).owner = some .A ∧ (t.port 2).patch = some 0 ∧
      answers t .A = [(.ok, [1#8, 1#8, 1#8, 2#8])] := by decide

/-- R45, R51: a port of another patch is refused PORT-IN-USE and nothing is stored. -/
theorem test_port_in_use :
    let t := ran (resting.setPatch 1 { patchWith [] with owner := some .A }) (.addMembers .A 2 [3, 1])
    (t.patch 1).members = [] ∧ answers t .A = [(.portInUse, [1#8, 1#8])] := by decide

/-- R58: a merge carries the absorbed patch's members behind the survivor's. -/
theorem test_merge :
    let t := ran (resting.setPatch 1 { patchWith [] with owner := some .A }) (.mergePatches .A 2 1)
    (t.patch 1).members = [0, 1] ∧ (t.patch 0).state = .unused ∧ (t.port 0).patch = some 1 := by decide

/-- R64: DISSOLVE WHEN-CLEAR in TALK closes; DISSOLVE NOW retires at once (R65). -/
theorem test_dissolve :
    ((ran talking (.dissolveWhenClear .A 1)).patch 0).state = .closing ∧
      ((ran talking (.dissolveNow .A 1)).patch 0).state = .unused ∧ ((ran talking (.dissolveNow .A 1)).port 1).guardLeft = 100 := by
  decide

/-- R182: after power-on READ NOTICE returns UNIT RESET (kind 8), subject 0, no overflow, none left. -/
theorem test_read_notice :
    answers (ran State.reset (.readNotice .A)) .A = [(.ok, [8#8, 0#8, 0#8, 0#8])] := by decide

/-- R177: QUERY UNIT after power-on gives the identity, revision 1, POWER-ON, no patch, both links UP. -/
theorem test_query_unit :
    answers (ran State.reset (.queryUnit .A)) .A
      = [(.ok, [0x49#8, 0x57#8, 0x32#8, 0x34#8, 0x31#8, 0x36#8, 1#8, 1#8, 0#8, 0#8])] := by decide

set_option maxRecDepth 20000 in
/-- R178: RESTART from B is refused while A's link is UP; from A it takes effect as its OK has been sent (R177: cause 3). -/
theorem test_restart :
    answers (ran State.reset (.restart .B)) .B = [(.notPermitted, [0#8, 0#8])] ∧
      (ran (ran State.reset (.restart .A)) (.responseSent .A)).resetCause = .restartA := by decide

/-- R145, R146: a supervised console that falls silent is LOST, and the other console is told. -/
theorem test_silence :
    let t := ran (withConsole State.reset .A { ConsoleRec.reset with supervision := 5, silence := 1, seize := true }) (.silenceExpiry .A)
    (t.console .A).link = .lost ∧ (t.console .A).seize = false ∧ (t.notice .B).entries.contains ⟨.linkLost, 17⟩ = true := by decide

set_option maxRecDepth 20000 in
/-- Log 1: with no command waiting a step is a millisecond; a guard of 2 is 1 after it. -/
theorem test_tick : ((port1 { PortRec.reset with guardLeft := 2 }).tick.port 0).guardLeft = 1 := by decide

/-! ### Witnesses: the hypotheses of each statement, met -/

theorem witness_StepRunsFrontCommand : ({ State.reset with pending := [.powerOn] } : State).pending = .powerOn :: [] := rfl

/-- Port 1 in guard, and a talker one millisecond further from its limit than the one that reaches it. -/
def counting : State :=
  (talking.setPort 2 { PortRec.reset with guardLeft := 2 }).setPatch 0 { talking.patch 0 with elapsed := 119998 }

theorem witness_EmptyQueueCountsAMillisecond :
    counting.pending = [] ∧ counting.resetLine = false ∧ counting.raised = [] ∧
    (∀ p, (counting.port p).corHold ≠ 1 ∧ (counting.port p).emgHold ≠ 1 ∧ (counting.port p).qualifyLeft ≠ 1 ∧
      (counting.port p).dropLeft ≠ 1 ∧ (counting.port p).guardLeft ≠ 1 ∧ (counting.port p).lockoutLeft ≠ 1 ∧
      (counting.port p).keyUpLeft ≠ 1 ∧ (counting.port p).startWindow ≠ 1 ∧ (counting.port p).lossLeft ≠ 1) ∧
    (∀ n, (counting.patch n).hangLeft ≠ 1 ∧
      ∀ k, (counting.patch n).limit = some k → k = 0 ∨ (counting.patch n).elapsed + 1 < k) ∧
    (∀ c, (counting.console c).pttHold ≠ 1 ∧ (counting.console c).silence ≠ 1 ∧ (counting.link c).rx.timeLeft ≠ 1) := by
  refine ⟨rfl, rfl, rfl, by decide, fun n => ⟨?_, fun k hk => ?_⟩, fun c => by cases c <;> decide⟩
  · revert n; decide
  · have h : ∀ n : SlotId,
        (counting.patch n).limit.all (fun k => decide (k = 0 ∨ (counting.patch n).elapsed + 1 < k)) = true := by decide
    simpa [hk] using h n

theorem witness_PartTakesUpItsWork :
    (Instr.powerOn = .powerOn ∧ State.reset.resetLine = false) ∧ (Instr.resetLineReleased = .resetLineReleased ∧ held.resetLine = true) := by
  decide

set_option maxRecDepth 20000 in
/-- R177, log 23: power-on under an asserted RESET line leaves the part held, and the release then writes POWER-ON. -/
theorem test_power_on_held :
    let t := ran { State.reset with resetLine := true, resetCause := .restartA } .powerOn
    t.resetLine = true ∧ (ran t .resetLineReleased).resetCause = .powerOn := by decide

theorem witness_ResetLineHoldsThePart :
    State.reset.resetLine = false ∧ held.resetLine = true ∧ (Instr.listPatches .A ≠ .powerOn ∧ Instr.listPatches .A ≠ .resetLineReleased ∧
      (∀ p l, Instr.listPatches .A ≠ .corLineChange p l) ∧ (∀ p l, Instr.listPatches .A ≠ .emgLineChange p l) ∧
      (∀ p l, Instr.listPatches .A ≠ .txsChange p l) ∧ ∀ c l, Instr.listPatches .A ≠ .consolePttLineChange c l) := by
  refine ⟨rfl, rfl, by decide, by decide, ?_, ?_, ?_, ?_⟩ <;> intro _ _ h <;> cases h

/-- A RESTART of console A whose OK is the one response that waits. -/
def restarting : State :=
  { State.reset.setLink .A { LinkUnit.reset with queue := [⟨.ok, []⟩], restartPending := true } with restartFirst := some .A }

theorem witness_RestartTakesEffect :
    restarting.resetLine = false ∧ (restarting.link .A).queue = [⟨.ok, []⟩] ∧ (restarting.link .A).restartPending = true ∧
      (restarting.link (otherConsole .A)).restartPending = false ∧ restarting.restartFirst = some .A ∧
      ∀ p, (restarting.port p).cfg.emgMode = .latch ∨ (restarting.port p).emgPin = .high := by decide

/-- A RESTART pending on both links, the other console's OK already sent. -/
theorem witness_RestartTakesEffect_both :
    let s := restarting.setLink .B { LinkUnit.reset with restartPending := true }
    s.resetLine = false ∧ (s.link .A).queue = [⟨.ok, []⟩] ∧ (s.link .A).restartPending = true ∧
      (s.link (otherConsole .A)).restartPending = true ∧ (s.link (otherConsole .A)).queue = [] ∧ s.restartFirst = some .A := by decide

/-- Port 1 with its glitch filter off. -/
def unfiltered : PortRec := { PortRec.reset with cfg := { PortSettings.default with glitchFilter := false } }

theorem witness_CorLineIsConditioned :
    (State.reset.resetLine = false ∧ State.reset.raised = [] ∧ (State.reset.port 0).cfg.glitchFilter = true) ∧
      ((port1 unfiltered).resetLine = false ∧ (port1 unfiltered).raised = [] ∧ ((port1 unfiltered).port 0).cfg.glitchFilter = false ∧
        ((port1 unfiltered).port 0).patch = none ∧ ((port1 unfiltered).port 0).isParked = false) := by decide

/-- SET_PORT of polarity (to the value held, with the filter on, and with it off) and of the filter (held, on, and off). -/
theorem witness_CorLineIsConditioned_settings :
    let on := State.reset
    let off := port1 unfiltered
    (on.readyFor .A ∧ on.raised = [] ∧ (on.port 0).cfg.glitchFilter = true ∧ (on.port 0).cfg.corPolarity ≠ .activeHigh ∧
      (on.port 0).cfg.corPolarity = .activeLow ∧ (on.port 0).correctedEmg = (on.port 0).filteredEmg ∧ (on.port 0).patch = none ∧
      (on.port 0).isParked = false) ∧
      (off.readyFor .A ∧ off.raised = [] ∧ (off.port 0).cfg.glitchFilter = false ∧ (off.port 0).cfg.corPolarity ≠ .activeHigh ∧
        (off.port 0).patch = none ∧ (off.port 0).isParked = false ∧ (off.port 0).correctedCor = (off.port 0).filteredCor ∧
        (off.port 0).correctedEmg = (off.port 0).filteredEmg) := by decide

theorem witness_EmgLineIsConditioned :
    (State.reset.resetLine = false ∧ State.reset.raised = [] ∧ (State.reset.port 0).cfg.glitchFilter = true) ∧
      (let r := (port1 unfiltered).port 0;
        (port1 unfiltered).raised = [] ∧ r.cfg.glitchFilter = false ∧ Level.isLow .high = r.filteredEmg) ∧
      (let r := (port1 unfiltered).port 0;
        r.cfg.glitchFilter = false ∧ r.filteredEmg = false ∧ Level.low = .low ∧ r.emergency = false ∧ r.patch = none) ∧
      (let r : PortRec := { unfiltered with emgPin := .low, filteredEmg := true, emergency := true };
        (port1 r).raised = [] ∧ ((port1 r).port 0).cfg.glitchFilter = false ∧ ((port1 r).port 0).filteredEmg = true ∧
          Level.high = .high ∧ ((port1 r).port 0).patch = none) := by decide

/-- SET_PORT of the EMG mode, LATCH to LEVEL where the flag sets, and of the filter, switched off over an asserted EMG. -/
theorem witness_EmgLineIsConditioned_settings :
    let s := (port1 { PortRec.reset with emgPin := .low, filteredEmg := true }).setPort 1 { PortRec.reset with emgPin := .low }
    s.readyFor .A ∧ s.raised = [] ∧
      ((s.port 0).cfg.emgMode = .latch ∧ (s.port 0).filteredEmg = true ∧ (s.port 0).emergency = false ∧
        ∀ n, (s.port 0).patch = some n → .port 0 ∉ (s.patch n).bids) ∧
      ((s.port 1).cfg.glitchFilter = true ∧ (s.port 1).correctedCor = (s.port 1).filteredCor ∧ (s.port 1).emgPin = .low ∧
        (s.port 1).filteredEmg = false ∧ (s.port 1).emergency = false ∧
        ∀ n, (s.port 1).patch = some n → .port 1 ∉ (s.patch n).bids) := by decide

/-- An emergency edge again in LATCH mode, the flag already set. -/
theorem witness_EmgLineIsConditioned_latched :
    let s := port1 { unfiltered with emergency := true }
    s.raised = [] ∧ (s.port 0).cfg.glitchFilter = false ∧ (s.port 0).filteredEmg = false ∧ Level.low = .low ∧
      (s.port 0).emergency = true ∧ (s.port 0).cfg.emgMode = .latch := by decide

theorem witness_GlitchFilterTakesTheInput :
    let s := port1 { PortRec.reset with corPin := .low, corHold := 1, emgPin := .low, emgHold := 1 }
    s.resetLine = false ∧ s.raised = [] ∧ 0 < (s.port 0).corHold ∧ (s.port 0).patch = none ∧ (s.port 0).isParked = false ∧
      (0 < (s.port 0).emgHold ∧ (s.port 0).emgPin = .low ∧ (s.port 0).filteredEmg = false ∧ (s.port 0).cfg.emgMode = .latch ∧
        (s.port 0).emergency = false) ∧ (s.port 1).corHold = 0 ∧ (s.port 1).emgHold = 0 := by decide

/-- A listed port 2, its EMG asserted or, in LEVEL mode, ended; the talker, port 1, has an emergency of its own. -/
def listedEdge (r : PortRec) : State :=
  ((talking.setPort 0 { talking.port 0 with emergency := true }).setPort 1 r).setPatch 0 { talking.patch 0 with bids := [.port 1] }

theorem witness_GlitchFilterTakesTheInput_listed :
    let s := listedEdge { member with carrier := .present, emgPin := .low, emgHold := 1 }
    let u := listedEdge { member with
      carrier := .present, emgPin := .high, filteredEmg := true, emgHold := 1, emergency := true
      cfg := { PortSettings.default with emgMode := .level } }
    (s.resetLine = false ∧ s.raised = [] ∧ 0 < (s.port 1).emgHold ∧ (s.port 1).emgPin = .low ∧ (s.port 1).filteredEmg = false ∧
      (s.port 1).emergency = false ∧ (s.port 1).patch = some 0 ∧ .port 1 ∈ (s.patch 0).bids ∧
      (s.patch 0).portTalker = some 0 ∧ 8 ≤ s.priority (.port 0)) ∧
      (u.raised = [] ∧ 0 < (u.port 1).emgHold ∧ (u.port 1).emgPin = .high ∧ (u.port 1).filteredEmg = true ∧
        (u.port 1).cfg.emgMode = .level ∧ (u.port 1).emergency = true ∧ (u.port 1).patch = some 0 ∧
        .port 1 ∈ (u.patch 0).bids ∧ .port 1 ∉ ({ u.patch 0 with bids := [] } : PatchRec).bids) := by decide

/-- In LATCH mode with the flag set: the edge again on port 1, and its end on port 2. -/
theorem witness_GlitchFilterTakesTheInput_latched :
    let s := (port1 { PortRec.reset with emgPin := .low, emgHold := 1, emergency := true }).setPort 1
      { PortRec.reset with emgPin := .high, filteredEmg := true, emgHold := 1, emergency := true }
    s.resetLine = false ∧ s.raised = [] ∧
      (0 < (s.port 0).emgHold ∧ (s.port 0).emgPin = .low ∧ (s.port 0).filteredEmg = false ∧ (s.port 0).cfg.emgMode = .latch ∧
        (s.port 0).emergency = true) ∧
      (0 < (s.port 1).emgHold ∧ (s.port 1).emgPin = .high ∧ (s.port 1).filteredEmg = true ∧ (s.port 1).cfg.emgMode = .latch) := by
  decide

theorem witness_QualifiedCarrierTakesAQuietPatch :
    let s := (resting.setPort 0 { member with carrier := .qualifying, qualifyLeft := 1 }).setPort 2
      { PortRec.reset with carrier := .qualifying, qualifyLeft := 1 }
    s.resetLine = false ∧ s.raised = [] ∧ (s.port 1).carrier ≠ .qualifying ∧
      ((s.port 2).carrier = .qualifying ∧ (s.port 2).patch = none ∧ (s.port 2).isParked = false) ∧
      ((s.port 0).carrier = .qualifying ∧ (s.port 0).masked = false ∧ (s.port 0).state = .idle ∧ (s.port 0).patch = some 0 ∧
        (s.port 0).lockoutLeft = 0 ∧ s.nobodyTalks 0) := by decide

/-- The talking patch in HANG, its other member a keyed FULL port whose carrier qualifies. -/
def hanging : State :=
  ((talking.setPort 0 member).setPort 1 { member with
    cfg := { PortSettings.default with kind := .full }, state := .relay, carrier := .qualifying, qualifyLeft := 1 }).setPatch 0
      { patchWith [0, 1] with state := .hang, hangLeft := 1 }

theorem witness_QualifiedCarrierTakesAQuietPatch_in_hang :
    hanging.resetLine = false ∧ hanging.raised = [] ∧ (hanging.port 1).carrier = .qualifying ∧ (hanging.port 1).masked = false ∧
      (hanging.port 1).inRelaySet = true ∧ (hanging.port 1).patch = some 0 ∧ (hanging.port 1).lockoutLeft = 0 ∧
      hanging.nobodyTalks 0 := by decide

/-- R77, R92, R101: a keyed FULL port that bids in HANG becomes TALKER with no guard started. -/
theorem test_hang_is_taken_by_a_keyed_port :
    let t := ran hanging (.qualifyTimerExpiry 1)
    (t.port 1).state = .talker ∧ (t.port 1).guardLeft = 0 ∧ (t.patch 0).state = .talk ∧ (t.patch 0).hangLeft = 0 ∧
      (t.port 0).state = .keyUp := by decide

theorem witness_LostCarrierReleasesIntoHang :
    let s := (talking.setPort 0 { talking.port 0 with carrier := .dropping, dropLeft := 1 }).setPort 2
      { PortRec.reset with carrier := .dropping, dropLeft := 1 }
    s.resetLine = false ∧ s.raised = [] ∧ (s.port 1).carrier ≠ .dropping ∧
      ((s.port 2).carrier = .dropping ∧ (s.port 2).patch = none ∧ (s.port 2).isParked = false) ∧
      ((s.port 0).carrier = .dropping ∧ (s.port 0).state = .talker ∧ (s.port 0).patch = some 0 ∧ s.talksAlone 0 (.port 0) ∧
        0 < (s.patch 0).hangTime) := by decide

/-- A listed member whose carrier drops, in a LIVE patch in TALK and in a REHEARSE one. -/
theorem witness_LostCarrierReleasesIntoHang_listed :
    let s := (talking.setPort 1 { member with carrier := .dropping, dropLeft := 1 }).setPatch 0
      { talking.patch 0 with bids := [.port 1] }
    s.resetLine = false ∧ s.raised = [] ∧ (s.port 1).carrier = .dropping ∧ (s.port 1).masked = false ∧ (s.port 1).state = .idle ∧
      (s.port 1).patch = some 0 ∧ 1 ∈ (s.patch 0).members ∧ (s.patch 0).members.Nodup ∧ (s.patch 0).state = .talk ∧
      (s.patch 0).talker ≠ some (.port 1) ∧ .port 1 ∈ (s.patch 0).bids ∧ (s.patch 0).bids.Nodup ∧ s.keyedQuietly 0 ∧
      ((s.patch 0).mode = .live ∧ (s.port 1).cfg.kind ≠ .listenOnly ∧ (s.port 1).fault = false) ∧
      ({ s.patch 0 with mode := .rehearse } : PatchRec).mode = .rehearse := by decide

theorem witness_GuardAndLockoutRunOut :
    let s := ((resting.setPort 0 { member with carrier := .present, lockoutLeft := 1 }).setPort 2
      { PortRec.reset with guardLeft := 1, filteredCor := true, corPin := .low }).setPort 3
      { PortRec.reset with guardLeft := 1, lockoutLeft := 1 }
    s.resetLine = false ∧ s.raised = [] ∧
      (0 < (s.port 3).guardLeft ∧ (({ s.port 3 with guardLeft := 0 } : PortRec).masked = true ∨ (s.port 3).filteredCor = false)) ∧
      (0 < (s.port 2).guardLeft ∧ ({ s.port 2 with guardLeft := 0 } : PortRec).masked = false ∧ (s.port 2).filteredCor = true ∧
        (s.port 2).carrier = .clear ∧ 0 < (s.port 2).cfg.qualifyTime) ∧
      (0 < (s.port 3).lockoutLeft ∧ (s.port 3).qualified = false) ∧
      (0 < (s.port 0).lockoutLeft ∧ (s.port 0).qualified = true ∧ (s.port 0).masked = false ∧ (s.port 0).state = .idle ∧
        (s.port 0).patch = some 0) ∧
      (s.port 1).guardLeft = 0 ∧ (s.port 1).lockoutLeft = 0 := by decide

theorem witness_GuardAndLockoutRunOut_nobodyTalks :
    (resting.setPort 0 { member with carrier := .present, lockoutLeft := 1 }).nobodyTalks 0 := by decide

/-- A port of console A in its guard, qualify time 0 and COR asserted, one millisecond before the guard ends and the console's PTT is taken.
-/
def guarded : State :=
  { State.reset.setPort 2 { PortRec.reset with
      cfg := { PortSettings.default with qualifyTime := 0 }, state := .parked, reservedBy := some .A, guardLeft := 1
      corPin := .low, filteredCor := true } with
    consoles := ⟨{ ConsoleRec.reset with target := .port 2, pttPin := .low, pttHold := 1 }, ConsoleRec.reset⟩ }

set_option maxRecDepth 20000 in
/-- R13: the guard ends in the millisecond in which the port is keyed, and the carrier machine stays CLEAR. -/
theorem test_masking_ends_and_begins_again :
    let t := guarded.tick
    (t.port 2).state = .parkedKeyUp ∧ (t.port 2).guardLeft = 0 ∧ (t.port 2).carrier = .clear := by decide

/-- A port with transmit sense on, in a keyed state. -/
def sensed (st : PortState) (check : StartCheck) : PortRec :=
  { PortRec.reset with cfg := { PortSettings.default with transmitSense := true }, state := st, startCheck := check }

theorem witness_KeyingIsSupervised :
    let s := (((port1 (sensed .keyUp .pending)).setPort 1 { sensed .relay .passed with txsPin := .low }).setPort 2
      (sensed .parkedKeyUp .passed)).setPort 4 (sensed .relay .passed)
    s.resetLine = false ∧ s.raised = [] ∧
      ((s.port 3).txsPin = .high ∨ (s.port 3).cfg.transmitSense = false) ∧
      ((s.port 0).txsPin ≠ .low ∧ (s.port 0).cfg.transmitSense = true ∧ (s.port 0).ptt = true ∧ (s.port 0).startCheck = .pending) ∧
      ((s.port 4).txsPin ≠ .low ∧ (s.port 4).cfg.transmitSense = true ∧ ((s.port 4).ptt = false ∨ (s.port 4).startCheck = .passed)) ∧
      ((s.port 1).txsPin ≠ .high ∧ (s.port 1).cfg.transmitSense = true ∧
        ((s.port 1).state = .relay ∨ (s.port 1).state = .parkedRelay) ∧ (s.port 1).startCheck = .passed) ∧
      (s.port 0).state = .keyUp ∧ (s.port 2).state = .parkedKeyUp ∧ ((s.port 3).state ≠ .keyUp ∧ (s.port 3).state ≠ .parkedKeyUp) := by
  decide

/-- SET_PORT of transmit sense, off and on, for a port in KEYUP and one in RELAY. -/
theorem witness_KeyingIsSupervised_settings :
    let s := (port1 (sensed .keyUp .pending)).setPort 1 { member with state := .relay }
    s.readyFor .A ∧ s.raised = [] ∧ (s.port 0).cfg.transmitSense = true ∧ (s.port 1).cfg.transmitSense = false ∧
      (s.port 1).ptt = true := by decide

theorem witness_TransmitFaultsUnkey :
    let s := (port1 { sensed .keyUp .pending with startWindow := 1 }).setPort 1 { sensed .parkedRelay .passed with lossLeft := 1 }
    s.resetLine = false ∧ s.raised = [] ∧
      ((s.port 2).ptt = false ∨ (s.port 2).startCheck = .passed ∨ (s.port 2).startWindow = 0) ∧
      ((s.port 2).lossLeft = 0 ∧ (s.port 2).state ≠ .relay ∧ (s.port 2).state ≠ .parkedRelay ∧
        (s.port 2).cfg.transmitSense = false ∧ (s.port 2).startCheck = .pending ∧ { s.port 2 with txsPin := .low }.txsPin = .low) ∧
      (0 < (s.port 0).cfg.turnaround ∧ (s.port 0).carrier = .clear ∧ (s.port 0).qualifyLeft = 0 ∧ (s.port 0).dropLeft = 0 ∧
        (s.port 0).ptt = true ∧ (s.port 0).startCheck = .pending ∧ 0 < (s.port 0).startWindow) ∧
      (0 < (s.port 1).cfg.turnaround ∧ (s.port 1).carrier = .clear ∧ (s.port 1).qualifyLeft = 0 ∧ (s.port 1).dropLeft = 0 ∧
        ((s.port 1).state = .relay ∨ (s.port 1).state = .parkedRelay) ∧ (s.port 1).cfg.transmitSense = true ∧
        (s.port 1).startCheck = .passed ∧ (s.port 1).txsPin = .high ∧ 0 < (s.port 1).lossLeft) := by decide

/-- R108: a loss count that stands in a port keyed afresh, its start check still pending, faults nobody. -/
theorem test_loss_needs_a_passed_check :
    ((ran (talking.setPort 1 { sensed .relay .pending with patch := some 0, startWindow := 250, lossLeft := 1 }) (.lossExpiry 1)).port
      1).fault = false := by decide

theorem witness_TimerExpiriesOnlyMoveTraffic :
    (∃ t, exec (.qualifyTimerExpiry 0) resting = .next t) ∧ (∃ t, exec (.dropTimerExpiry 0) resting = .next t) ∧
      (∃ t, exec (.guardExpiry 0) resting = .next t) ∧ (∃ t, exec (.keyUpExpiry 0) resting = .next t) ∧
      (∃ t, exec (.hangExpiry 0) resting = .next t) := ⟨⟨_, rfl⟩, ⟨_, rfl⟩, ⟨_, rfl⟩, ⟨_, rfl⟩, ⟨_, rfl⟩⟩

theorem witness_HangRunsOut :
    let s := (talking.setPort 0 member).setPatch 0 { patchWith [0, 1] with state := .hang, hangLeft := 1 }
    s.resetLine = false ∧ s.raised = [] ∧ (s.patch 1).state ≠ .hang ∧ (s.patch 0).state = .hang ∧ (s.patch 0).members.Nodup ∧
      (∀ q ∈ (s.patch 0).members, (s.port q).inRelaySet = true →
        (s.port q).carrier = .clear ∧ (s.port q).qualifyLeft = 0 ∧ (s.port q).dropLeft = 0 ∧ 0 < (s.port q).cfg.turnaround) ∧
      (s.port 1).inRelaySet = true := by decide

theorem witness_TimeOutLocksAndReleases :
    talking.resetLine = false ∧ talking.raised = [] ∧ (talking.patch 1).portTalker = none ∧ talking.talksAlone 0 (.port 0) ∧
      (talking.patch 0).limit = some 120000 ∧ 0 < 120000 ∧ 120000 ≤ (talking.patch 0).elapsed + 1 ∧ 0 < (talking.patch 0).hangTime ∧
      (talking.port 0).state = .talker ∧ (counting.patch 0).limit = some 120000 ∧ (counting.patch 0).elapsed + 1 < 120000 := by
  decide

/-- The talking patch in CLOSING. -/
def closing : State := talking.setPatch 0 { talking.patch 0 with state := .closing }

theorem witness_TimeOutLocksAndReleases_closing :
    closing.resetLine = false ∧ closing.raised = [] ∧ (closing.patch 0).state = .closing ∧
      (closing.patch 0).talker = some (.port 0) ∧ (closing.patch 0).limit = some 120000 ∧
      120000 ≤ (closing.patch 0).elapsed + 1 ∧ (closing.port 0).state = .talker ∧ (closing.port 0).patch = some 0 ∧
      closing.membersAgree := by decide

/-- Port 3 reserved by console A in state st with fault flag f, the console's target it is, with record r. -/
def reserving (st : PortState) (f : Bool) (r : ConsoleRec) : State :=
  withConsole (State.reset.setPort 2 { PortRec.reset with state := st, reservedBy := some .A, fault := f }) .A
    { r with target := .port 2 }

theorem witness_PttIsFilteredAndBids :
    let r : ConsoleRec := { ConsoleRec.reset with pttPin := .low, pttHold := 1 }
    let s := withConsole (withConsole resting .A { r with target := .patch 0 }) .B r
    s.resetLine = false ∧ s.raised = [] ∧ (State.reset.console .A).pttHold = 0 ∧
      (0 < (s.console .B).pttHold ∧ (s.console .B).target = .none) ∧
      (0 < (s.console .A).pttHold ∧ (s.console .A).target = .patch 0 ∧ (s.console .A).request = false ∧
        ({ s.console .A with filteredPtt := Level.isLow (s.console .A).pttPin, pttHold := 0 } : ConsoleRec).request = true ∧
        s.nobodyTalks 0) := by decide

theorem witness_PttIsFilteredAndBids_parked :
    let up := reserving .parked false { ConsoleRec.reset with pttPin := .low, pttHold := 1 }
    let down := reserving .parkedRelay false { ConsoleRec.reset with filteredPtt := true, pttHold := 1 }
    (up.resetLine = false ∧ up.raised = [] ∧ 0 < (up.console .A).pttHold ∧ (up.console .A).target = .port 2 ∧
      (up.console .A).request = false ∧ ({ up.console .A with filteredPtt := true, pttHold := 0 } : ConsoleRec).request = true ∧
      up.waitsFor .A 2) ∧
      (down.raised = [] ∧ 0 < (down.console .A).pttHold ∧ (down.console .A).target = .port 2 ∧ (down.console .A).request = true ∧
        ({ down.console .A with filteredPtt := false, pttHold := 0 } : ConsoleRec).request = false ∧
        (down.port 2).reservedBy = some .A ∧ (down.port 2).parkedKeyed = true) := by decide

theorem witness_SilenceLosesTheLink :
    let s := withConsole resting .A { ConsoleRec.reset with supervision := 1, silence := 999 }
    let u := withConsole resting .A { ConsoleRec.reset with supervision := 1, silence := 1000 }
    s.resetLine = false ∧ s.membersAgree ∧ (s.raised = [] ∧ (s.console .B).supervision * 1000 ≤ (s.console .B).silence) ∧
      (s.readyFor .A ∧ (s.console .A).link = .up ∧ (s.console .A).silence < (s.console .A).supervision * 1000 ∧
        (s.patch 0).owner = some .A ∧ (s.patch 1).owner ≠ some .A) ∧
      (u.raised = [] ∧ u.membersAgree ∧ (u.console .A).supervision * 1000 ≤ (u.console .A).silence) ∧
      ∃ t, exec (.queryPort .A 0) s = .next t := ⟨rfl, by decide, by decide, by decide, by decide, _, rfl⟩

/-- R148: a valid frame taken before the expiry of the same millisecond keeps the link UP. -/
theorem test_frame_before_silence :
    let s := withConsole State.reset .A { ConsoleRec.reset with supervision := 5, silence := 1 }
    ((ran (ran s (.queryUnit .A)) (.silenceExpiry .A)).console .A).link = .up := by decide

theorem witness_GainsCompose : 1023 ≤ 1023 ∧ 0 ≤ 1023 ∧ 127 * 1 < 128 := by decide

theorem witness_SlotsAreLimitedOnce :
    1023 ≤ 1023 ∧ State.reset.resetLine = false ∧
      (withConsole resting .A { ConsoleRec.reset with listen := [⟨0, 1023⟩, ⟨11, 0⟩] } |>.console .A).inRange := by decide

theorem witness_AudioFrameMixes :
    let s := (talking.setPort 2 { PortRec.reset with state := .parkedRelay, reservedBy := some .A })
    s.resetLine = false ∧ ((s.port 3).state ≠ .relay ∧ (s.port 3).state ≠ .parkedRelay) ∧
      ((s.port 1).state = .relay ∧ (s.port 1).patch = some 0) ∧ ((s.port 2).state = .parkedRelay ∧ (s.port 2).reservedBy = some .A) := by
  decide

/-- Console A a mix partner, and console B talking to a port that relays its microphone. -/
theorem witness_AudioFrameMixes_sidetone :
    let s := withConsole ((talking.setPatch 0 { talking.patch 0 with style := .mix, partner := some .A }).setPort 2
      { PortRec.reset with state := .parkedRelay, reservedBy := some .B }) .B { ConsoleRec.reset with target := .port 2 }
    s.resetLine = false ∧ (s.patch 0).partner = some .A ∧ (s.console .B).target = .port 2 ∧ (s.port 2).state = .parkedRelay ∧
      ∀ n : SlotId, (s.patch n).talker ≠ some (.console .B) ∧ (s.patch n).partner ≠ some .B := by decide

/-- Console A's link inside a frame, with and without a fault recorded. -/
def inFrame (f : Option FrameFault) : State :=
  State.reset.setLink .A { LinkUnit.reset with rx := { Receiver.opened with count := 132, fault := f, timeLeft := 1 } }

theorem witness_FramesThatCarryNoCommand :
    (State.reset.link .A).rx.isOpen = false ∧ State.reset.readyFor .A ∧
      ((inFrame none).readyFor .A ∧ ((inFrame none).link .A).rx.isOpen = true ∧ ((inFrame none).link .A).rx.fault = none) ∧
      ((inFrame (some ⟨.character, 1⟩)).readyFor .A ∧ ((inFrame (some ⟨.character, 1⟩)).link .A).rx.isOpen = true ∧
        ((inFrame (some ⟨.character, 1⟩)).link .A).rx.fault = some ⟨.character, 1⟩) := by decide

/-- Console A's queue full. -/
def full : State := State.reset.setLink .A { LinkUnit.reset with queue := List.replicate 4 ⟨.ok, []⟩ }

theorem witness_FullQueueOverruns :
    full.resetLine = false ∧ 4 ≤ (full.link .A).queue.length ∧ (Instr.listPatches .A).request? = some (.A, .listPatches) := by decide

/-- A full queue with a frame open: judged bad by its length and by its sum, by a fault recorded, and good. -/
theorem witness_FullQueueOverruns_closing :
    let at4 := fun rx : Receiver => full.setLink .A { full.link .A with rx := rx }
    let rx := fun l : List Byte => ({ Receiver.opened with stored := l } : Receiver)
    ((at4 (rx [0#8])).resetLine = false ∧ 4 ≤ ((at4 (rx [0#8])).link .A).queue.length ∧ ((at4 (rx [0#8])).link .A).rx.isOpen = true) ∧
      ((LineChar.sent 0xF4#8).error = false ∧ (LineChar.sent 0xF4#8).data = 0xF4#8) ∧
      (rx [0#8]).stored.length < 2 ∧ ((rx [1#8, 0#8]).stored.map BitVec.toNat).sum % 256 ≠ 0 ∧
      ({ rx [] with fault := some ⟨.character, 1⟩ } : Receiver).fault.isSome = true ∧
      ((rx [1#8, 0xFF#8]).fault = none ∧ 2 ≤ (rx [1#8, 0xFF#8]).stored.length ∧
        ((rx [1#8, 0xFF#8]).stored.map BitVec.toNat).sum % 256 = 0) := by decide

theorem witness_ResponsesAndAlertsAreSent :
    let waiting := State.reset.setLink .A { LinkUnit.reset with queue := [⟨.ok, []⟩] }
    let sending := State.reset.setLink .A { LinkUnit.reset with queue := [⟨.ok, []⟩], sending := true, alertWaiting := false }
    ((waiting.link .A).queue = ⟨.ok, []⟩ :: [] ∧ (waiting.link .A).sending = false) ∧
      ((State.reset.link .A).queue = [] ∧ State.reset.resetLine = false) ∧
      ((sending.link .A).queue = ⟨.ok, []⟩ :: [] ∧ (sending.link .A).sending = true ∧ (sending.link .A).alertWaiting = false) ∧
      ((State.reset.link .A).alertWaiting = true ∧ (State.reset.link .A).sending = false ∧
        (State.reset.link .A).restartPending = false) := by decide

theorem witness_ResponsesAndAlertsAreSent_no_restart (d : Console) :
    ((State.reset.setLink .A { LinkUnit.reset with queue := [⟨.ok, []⟩], sending := true }).link d).restartPending = false := by
  cases d <;> rfl

/-- A response ahead of the OK of a pending RESTART, and one on the other link while that OK waits. -/
theorem witness_ResponsesAndAlertsAreSent_restart :
    let s := { (State.reset.setLink .A { LinkUnit.reset with
        queue := [⟨.clamped, []⟩, ⟨.ok, []⟩], sending := true, restartPending := true }).setLink .B
      { LinkUnit.reset with queue := [⟨.ok, []⟩], sending := true } with restartFirst := some .A }
    s.resetLine = false ∧
      ((s.link .A).queue = ⟨.clamped, []⟩ :: [⟨.ok, []⟩] ∧ (s.link .A).sending = true ∧ (s.link .A).restartPending = true ∧
        ([⟨.ok, []⟩] : List Response) ≠ []) ∧
      ((s.link .B).queue = ⟨.ok, []⟩ :: [] ∧ (s.link .B).sending = true ∧ (s.link (otherConsole .B)).restartPending = true ∧
        (s.link (otherConsole .B)).queue ≠ []) ∧
      ((restarting.link .A).restartPending = true ∧ (restarting.link .A).queue ≠ []) := by decide

/-- A receiver with k bytes stored. -/
def storing (k : Nat) (escaped : Bool) : Receiver :=
  { Receiver.opened with count := k, stored := List.replicate k 0#8, escaped := escaped }

/-- Console A's link with a receiver. -/
def hearing (rx : Receiver) : State := State.reset.setLink .A { LinkUnit.reset with rx := rx }

theorem witness_CharactersAreReceived :
    let rx := (hearing (storing 64 false)).link .A |>.rx
    let esc := (hearing (storing 64 true)).link .A |>.rx
    let last := (hearing (storing 65 false)).link .A |>.rx
    ((LineChar.sent 0xF3#8).error = false ∧ (⟨0xF4#8, false, true⟩ : LineChar).error = true) ∧
      ((State.reset.link .A).rx.isOpen = false ∧ State.reset.resetLine = false ∧ (0xF4#8 : Byte) ≠ 0xF3#8) ∧
      (rx.isOpen = true ∧ rx.full = false ∧ rx.escaped = false ∧ rx.stored.length < 65 ∧ isReserved 0xF2#8 = false) ∧
      (esc.isOpen = true ∧ esc.full = false ∧ esc.escaped = true ∧ esc.stored.length < 65 ∧ (0xD3#8 : Byte) ≠ 0xF3#8 ∧
        (0xD3#8 : Byte) ≠ 0xF4#8) ∧
      (last.isOpen = true ∧ last.full = false ∧ last.escaped = false ∧ last.stored.length = 65 ∧ last.fault = none ∧
        isReserved 0xF7#8 = false) ∧
      ((inFrame (some ⟨.character, 1⟩)).readyFor .A ∧ ((inFrame (some ⟨.character, 1⟩)).link .A).rx.isOpen = true ∧
        ((inFrame (some ⟨.character, 1⟩)).link .A).rx.fault = some ⟨.character, 1⟩) := by decide

/-- The receiver past its 66th byte, an error inside a frame, and frames that close with 1 byte, with a wrong sum and with a right one. -/
theorem witness_CharactersAreReceived_closing :
    let beyond := hearing { storing 65 false with full := true, fault := some ⟨.length, 66⟩ }
    let short := hearing (storing 1 true)
    let wrong := hearing { storing 1 false with stored := [1#8, 0#8] }
    let right := hearing { storing 2 false with stored := [1#8, 0xFF#8] }
    ((⟨0xF4#8, true, false⟩ : LineChar).error = true ∧ (short.link .A).rx.isOpen = true ∧ (short.link .A).rx.full = false) ∧
      ((0xF5#8 : Byte) ≠ 0xF3#8 ∧ (0xF5#8 : Byte) ≠ 0xF4#8 ∧ (beyond.link .A).rx.isOpen = true ∧ (beyond.link .A).rx.full = true ∧
        (beyond.link .A).rx.stored.length = 65 ∧ (beyond.link .A).rx.fault.isSome = true) ∧
      ((LineChar.sent 0xF4#8).error = false ∧ short.readyFor .A ∧ (short.link .A).rx.fault = none ∧
        (short.link .A).rx.stored.length < 2) ∧
      (wrong.readyFor .A ∧ (wrong.link .A).rx.isOpen = true ∧ (wrong.link .A).rx.fault = none ∧
        2 ≤ (wrong.link .A).rx.stored.length ∧ ((wrong.link .A).rx.stored.map BitVec.toNat).sum % 256 ≠ 0) ∧
      (right.readyFor .A ∧ (right.link .A).rx.isOpen = true ∧ (right.link .A).rx.fault = none ∧
        2 ≤ (right.link .A).rx.stored.length ∧ ((right.link .A).rx.stored.map BitVec.toNat).sum % 256 = 0) := by decide

/-- The payload of one byte 0x01 is QUERY_UNIT, so that a frame that closes on it is that command's row. -/
theorem witness_CharactersAreReceived_command :
    (Instr.queryUnit .A).request? = some (.A, .queryUnit) ∧
      parsePayload ([1#8, 0xFF#8] : List Byte).dropLast = .request .queryUnit := by decide

theorem witness_QueriesChangeNothing :
    resting.readyFor .A ∧ (resting.patch 0).state ≠ .unused ∧ (resting.patch 11).state = .unused ∧
      (0 = 0 ∨ 16 < 0) ∧ (17 = 0 ∨ 16 < 17) ∧ (13 = 0 ∨ 12 < 13) := by decide

/-- A console whose request is active and stands as talker, as partner, in the list, with a CLOSING patch, with a port keyed for it, and with
one that cannot be keyed; and a console with no request. -/
theorem witness_ImagesHoldTheRecords :
    let r : ConsoleRec := { ConsoleRec.reset with seize := true, target := .patch 0 }
    let at0 := fun x : PatchRec => withConsole (talking.setPatch 0 x) .A r
    let P := talking.patch 0
    ((at0 { P with talker := some (.console .A) }).patch 0).talker = some (.console .A) ∧
      (((at0 { P with partner := some .A }).patch 0).talker ≠ some (.console .A) ∧
        ((at0 { P with partner := some .A }).patch 0).partner = some .A) ∧
      (P.talker ≠ some (.console .A) ∧ P.partner ≠ some .A ∧ .console .A ∈ ((at0 { P with bids := [.console .A] }).patch 0).bids) ∧
      (((at0 { P with state := .closing }).patch 0).state = .closing ∧ .console .A ∉ P.bids) ∧
      (((at0 P).console .A).seize = true ∧ ((at0 P).console .A).target = .patch 0) ∧
      (let keyed := reserving .parkedRelay false { ConsoleRec.reset with seize := true };
        (keyed.console .A).seize = true ∧ (keyed.console .A).target = .port 2 ∧ (keyed.port 2).state = .parkedRelay) ∧
      (let faulted := reserving .parked true { ConsoleRec.reset with seize := true };
        (faulted.console .A).target = .port 2 ∧ (faulted.port 2).state = .parked ∧ (faulted.port 2).fault = true) ∧
      ((State.reset.console .A).filteredPtt = false ∧ (State.reset.console .A).seize = false) := by decide

theorem witness_RestartIsPending :
    let lost := withConsole State.reset .A { ConsoleRec.reset with link := .lost }
    (State.reset.readyFor .A ∧ Console.A = .A) ∧ (lost.readyFor .B ∧ (lost.console .A).link = .lost) ∧
      (State.reset.readyFor .B ∧ (State.reset.console .A).link = .up) ∧
      (restarting.resetLine = false ∧ (restarting.link .A).queue.length < 4 ∧ (restarting.link .A).restartPending = true ∧
        (Instr.seize .A).request? = some (.A, .seize)) := by decide

theorem witness_SetLinkStores : State.reset.readyFor .A ∧ (some 61 = some 61 ∧ 60 < 61) := by decide

theorem witness_ReadNoticeTakesTheHighest :
    (State.reset.readyFor .A ∧ (State.reset.notice .A).entries ≠ []) ∧
      (let s := State.reset.setNotice .A { NoticeUnit.reset with entries := [] };
        s.readyFor .A ∧ (s.notice .A).entries = []) := by decide

/-- A pending set of n entries. -/
def pendingSet (n : Nat) : NoticeUnit := { NoticeUnit.reset with entries := (List.range n).map (fun k => ⟨.emergency, k⟩) }

theorem witness_OffersEnterPendingSets :
    maskEnables (pendingSet 0).mask .floorChange = false ∧ maskEnables (pendingSet 31).mask .emergency = true ∧
      (⟨.emergency, 30⟩ : Notice) ∈ (pendingSet 31).entries ∧ (⟨.emergency, 40⟩ : Notice) ∉ (pendingSet 32).entries ∧
      32 ≤ (pendingSet 32).entries.length ∧ (pendingSet 31).entries.length < 32 ∧ (pendingSet 32).bounded := by decide

theorem witness_ConsoleSettingsAreStored :
    resting.readyFor .A ∧ (([⟨1, 1024⟩] : List ListenArg).map ListenArg.patch).Nodup ∧
      (∀ e ∈ ([⟨1, 1024⟩] : List ListenArg), ∃ n : SlotId, e.patch = slotNumber n ∧ (resting.patch n).state ≠ .unused) ∧
      (some 1024 = some 1024 ∧ 1023 < 1024) := by decide

/-- A listen set with a patch named twice, and one with a slot not in use. -/
theorem witness_ConsoleSettingsAreStored_refused :
    (([1, 13, 1] : List Nat).find? (fun k => decide (k = 0 ∨ 12 < k ∨ 1 < ([1, 13, 1] : List Nat).count k))) = some 1 ∧
      (([1, 12] : List Nat).find? (fun k => decide (k = 0 ∨ 12 < k ∨ 1 < ([1, 12] : List Nat).count k))) = none ∧
      (([1, 12] : List Nat).find? (fun k => decide (∀ n : SlotId, k = slotNumber n → (resting.patch n).state = .unused))) = some 12 := by
  decide

theorem witness_TalkTargetIsSet :
    let s := (withConsole resting .A { ConsoleRec.reset with seize := true }).setPort 2
      { PortRec.reset with state := .parked, reservedBy := some .A }
    s.readyFor .A ∧ s.raised = [] ∧ (0 = 0 ∧ Target.none = .none) ∧ (1 = slotNumber 0 ∧ (s.patch 0).state ≠ .unused) ∧
      (3 = portNumber 2 ∧ (s.port 2).reservedBy = some .A) ∧ (((State.reset.heard .A).console .A).request = false) ∧
      ((s.console .A).target = .none ∧ ((s.heard .A).console .A).request = true ∧ s.nobodyTalks 0) := by decide

/-- An active request on a patch in TALK, moved away; on no target, with a parked port to key; and on a keyed port, moved to none. -/
theorem witness_TalkTargetIsSet_moves :
    let seized : ConsoleRec := { ConsoleRec.reset with seize := true }
    let s := withConsole (talking.setPatch 0 { talking.patch 0 with bids := [.console .A] }) .A { seized with target := .patch 0 }
    let idle := withConsole (reserving .parked false seized) .A seized
    let keyed := reserving .parkedRelay false seized
    (s.readyFor .A ∧ s.raised = [] ∧ ((s.heard .A).console .A).request = true ∧ (s.console .A).target = .patch 0 ∧
      Target.none ≠ .patch 0 ∧ s.standsOnce .A 0 ∧ (s.patch 0).stands (.console .A) = true) ∧
      (idle.readyFor .A ∧ idle.raised = [] ∧ ((idle.heard .A).console .A).request = true ∧ (idle.console .A).target = .none ∧
        idle.waitsFor .A 2) ∧
      (keyed.readyFor .A ∧ keyed.raised = [] ∧ ((keyed.heard .A).console .A).request = true ∧
        (keyed.console .A).target = .port 2 ∧ (keyed.port 2).reservedBy = some .A ∧ (keyed.port 2).parkedKeyed = true) := by
  decide

theorem witness_TalkTargetIsSet_refused :
    let s := resting.setPort 2 { PortRec.reset with state := .parked, reservedBy := some .B }
    s.readyFor .A ∧ s.raised = [] ∧ 2 < 3 ∧ 12 < 13 ∧ 16 < 17 ∧ (12 = slotNumber 11 ∧ (s.patch 11).state = .unused) ∧
      (3 = portNumber 2 ∧ (s.port 2).reservedBy = some (otherConsole .A)) ∧ (16 = portNumber 15 ∧ (s.port 15).reservedBy = none) := by
  decide

theorem witness_SeizeMovesTheRequest :
    let s := withConsole resting .A { ConsoleRec.reset with target := .patch 0 }
    let u := withConsole (talking.setPatch 0 { talking.patch 0 with talker := some (.console .A), limit := none }) .A
      { ConsoleRec.reset with target := .patch 0, seize := true }
    (State.reset.readyFor .A ∧ State.reset.raised = [] ∧ (State.reset.console .A).target = .none) ∧
      (s.readyFor .A ∧ s.raised = [] ∧ ((s.heard .A).console .A).request = false ∧ (s.console .A).target = .patch 0) ∧
      (u.readyFor .A ∧ u.raised = [] ∧ (u.console .A).seize = true ∧ (u.console .A).filteredPtt = false ∧
        (u.console .A).target = .patch 0 ∧ u.talksAlone 0 (.console .A) ∧ 0 < (u.patch 0).hangTime) := by decide

theorem witness_SeizeMovesTheRequest_nobodyTalks :
    (withConsole resting .A { ConsoleRec.reset with target := .patch 0 }).nobodyTalks 0 := by decide

theorem witness_SeizeMovesTheRequest_parked :
    let s := reserving .parked false ConsoleRec.reset
    let faulted := reserving .parked true ConsoleRec.reset
    let keyed := reserving .parkedRelay false { ConsoleRec.reset with seize := true }
    (s.readyFor .A ∧ s.raised = [] ∧ ((s.heard .A).console .A).request = false ∧ (s.console .A).target = .port 2 ∧ s.waitsFor .A 2) ∧
      (faulted.readyFor .A ∧ faulted.raised = [] ∧ ((faulted.heard .A).console .A).request = false ∧
        (faulted.console .A).target = .port 2 ∧ (faulted.port 2).state = .parked ∧ (faulted.port 2).fault = true) ∧
      (keyed.readyFor .A ∧ keyed.raised = [] ∧ (keyed.console .A).seize = true ∧ (keyed.console .A).filteredPtt = false ∧
        (keyed.console .A).target = .port 2 ∧ (keyed.port 2).reservedBy = some .A ∧ (keyed.port 2).parkedKeyed = true) := by decide

/-- A selection of every setting of SET PORT, the enumerated ones at their last value, the numeric ones one above their limit. -/
def highPort : PortSelection :=
  ⟨some 2, some 1, some 1, some 501, some 1001, some 1001, some 501, some 8, some 1, some 1, some 1024, some 1024⟩

theorem witness_SetPortStores :
    State.reset.readyFor .A ∧ (∀ v, highPort.kind = some v → v ≤ 2) ∧ (∀ v, highPort.corPolarity = some v → v ≤ 1) ∧
      (∀ v, highPort.glitchFilter = some v → v ≤ 1) ∧ (∀ v, highPort.transmitSense = some v → v ≤ 1) ∧
      (∀ v, highPort.emgMode = some v → v ≤ 1) := by
  refine ⟨by decide, ?_, ?_, ?_, ?_, ?_⟩ <;> intro v h <;> cases h <;> decide

/-- A change of kind: of a keyed member (to LISTEN-ONLY, to FULL, and, from FULL, to HALF), of a port keyed for its console, and from
LISTEN-ONLY of a parked port its console talks to. -/
theorem witness_SetPortStores_kind :
    let full : PortRec := { talking.port 1 with cfg := { PortSettings.default with kind := .full } }
    let u := talking.setPort 1 full
    let keyed := reserving .parkedRelay false { ConsoleRec.reset with seize := true }
    let deaf := reserving .parked false { ConsoleRec.reset with seize := true }
    let listening := deaf.setPort 2 { deaf.port 2 with cfg := { PortSettings.default with kind := .listenOnly } }
    (talking.readyFor .A ∧ talking.raised = [] ∧ (talking.port 1).cfg.kind = .half ∧ 0 < (talking.port 1).cfg.turnaround ∧
      (talking.port 1).inRelaySet = true ∧ (talking.port 1).patch = some 0 ∧ (talking.port 1).carrier = .clear ∧
      (talking.port 1).qualifyLeft = 0 ∧ (talking.port 1).dropLeft = 0 ∧ (talking.port 1).filteredCor = false ∧
      (talking.port 1).fault = false ∧ (talking.patch 0).mode = .live ∧ (talking.patch 0).talker ≠ some (.port 1) ∧
      .port 1 ∉ (talking.patch 0).bids ∧ (talking.patch 0).state = .talk ∧ (talking.port 1).guardLeft = 0 ∧
      0 < (talking.port 1).cfg.qualifyTime) ∧
      (u.readyFor .A ∧ (u.port 1).cfg.kind = .full ∧ (u.port 1).guardLeft = 0 ∧ (u.port 1).qualified = false) ∧
      (keyed.readyFor .A ∧ keyed.raised = [] ∧ (keyed.port 2).cfg.kind ≠ .listenOnly ∧ (keyed.port 2).parkedKeyed = true) ∧
      (listening.readyFor .A ∧ listening.raised = [] ∧ (listening.port 2).cfg.kind = .listenOnly ∧
        (listening.port 2).reservedBy = some .A ∧ (listening.console .A).target = .port 2 ∧
        ((listening.heard .A).console .A).request = true ∧ deaf.waitsFor .A 2) := by decide

theorem witness_SetPortStores_refused :
    State.reset.readyFor .A ∧ decide (17 = 0 ∨ 16 < 17) = true ∧ (some 3).any (fun v => decide (2 < v)) = true ∧
      (some 2).any (fun v => decide (1 < v)) = true ∧ (none : Option Nat).any (fun v => decide (1 < v)) = false := by decide

/-- R13, R21: a keyed HALF member made LISTEN-ONLY with COR asserted and a qualify time of 0 is unkeyed with its guard, CLEAR, and does not
bid. -/
theorem test_kind_masks_again :
    let t := ran (talking.setPort 1 { talking.port 1 with
      cfg := { PortSettings.default with qualifyTime := 0 }, corPin := .low, filteredCor := true })
      (.setPort .A 2 { noPortItem with kind := some 2 })
    (t.port 1).state = .idle ∧ (t.port 1).carrier = .clear ∧ (t.port 1).guardLeft = 100 ∧ (t.patch 0).bids = [] := by decide

theorem witness_ConditionsAreCleared :
    let s := port1 { PortRec.reset with fault := true, emergency := true, lockoutLeft := 1 }
    s.readyFor .A ∧ s.raised = [] ∧ (s.port 0).patch = none ∧ (s.port 0).isParked = false := by decide

/-- A locked-out member with a qualified carrier. -/
def locked : PortRec := { member with carrier := .present, lockoutLeft := 1 }

theorem witness_ConditionsAreCleared_lockout :
    let s := talking.setPort 1 locked
    s.readyFor .A ∧ s.raised = [] ∧ 0 < (s.port 1).lockoutLeft ∧ (s.port 1).qualified = true ∧ (s.port 1).masked = false ∧
      (s.port 1).state = .idle ∧ (s.port 1).patch = some 0 ∧ (s.patch 0).stands (.port 1) = false ∧ (s.patch 0).state = .talk ∧
      s.keyedQuietly 0 := by decide

theorem witness_ConditionsAreCleared_lockout_nobodyTalks :
    let s := resting.setPort 1 locked
    s.readyFor .A ∧ s.raised = [] ∧ (s.port 1).patch = some 0 ∧ (s.patch 0).stands (.port 1) = false ∧ s.nobodyTalks 0 := by decide

theorem witness_ConditionsAreCleared_fault :
    let s := talking.setPort 1 { member with fault := true }
    s.readyFor .A ∧ s.raised = [] ∧ (s.port 1).fault = true ∧ (s.port 1).state = .idle ∧ (s.port 1).patch = some 0 ∧
      (s.port 1).lockoutLeft = 0 ∧ ((s.heard .A).setPort 1 member).relays 0 1 := by decide

theorem witness_ConditionsAreCleared_parked :
    let s := reserving .parked true { ConsoleRec.reset with seize := true }
    s.readyFor .A ∧ s.raised = [] ∧ (s.port 2).fault = true ∧ (s.console .A).target = .port 2 ∧
      ((s.heard .A).console .A).request = true ∧ ((s.heard .A).setPort 2 { s.port 2 with fault := false }).waitsFor .A 2 := by decide

theorem talking_floorsOrdered : talking.floorsOrdered := fun n =>
  ⟨by revert n; decide, by revert n; decide, fun c => by revert n; cases c <;> decide⟩

theorem witness_PortsAreReservedAndReleased :
    let s := ((resting.setPatch 0 { resting.patch 0 with owner := some .B }).setPort 2
      { PortRec.reset with state := .parked, reservedBy := some .B }).setPort 3 { PortRec.reset with state := .parked, reservedBy := some .A }
    s.readyFor .A ∧ s.raised = [] ∧ (s.port 2).reservedBy = some (otherConsole .A) ∧ (s.port 3).reservedBy = some .A ∧
      ((s.port 0).reservedBy = none ∧ (s.port 0).patch = some 0 ∧ (s.patch 0).owner ≠ some .A ∧ (s.patch 0).shared = false) ∧
      ((s.port 4).reservedBy = none ∧ (s.port 4).patch = none ∧ (s.port 4).state = .detached ∧ (s.console .A).target ≠ .port 4) ∧
      ((s.port 3).patch = none ∧ (s.port 3).state = .parked ∧ (s.console .A).target ≠ .port 3) := by decide

/-- A reserved member that relays, and a released port that is keyed for its console. -/
theorem witness_PortsAreReservedAndReleased_members :
    let keyed := reserving .parkedRelay false { ConsoleRec.reset with seize := true }
    (talking.readyFor .A ∧ (talking.port 1).reservedBy = none ∧ (talking.port 1).patch = some 0 ∧
      (talking.patch 0).owner = some .A ∧ (talking.console .A).target ≠ .port 1 ∧ (talking.port 1).inRelaySet = true ∧
      talking.raised = [] ∧ talking.membersAgree) ∧
      (keyed.readyFor .A ∧ keyed.raised = [] ∧ (keyed.port 2).reservedBy = some .A ∧ (keyed.port 2).patch = none ∧
        (keyed.port 2).parkedKeyed = true ∧ (keyed.console .A).target = .port 2 ∧ 0 < (keyed.port 2).cfg.turnaround) := by decide

/-- The premises of a reservation that parks a member, with those of witness_PortsAreReservedAndReleased_members. -/
theorem witness_PortsAreReservedAndReleased_parks :
    talking.readyFor .A ∧ talking.raised = [] ∧ talking.membersAgree ∧ talking.floorsOrdered ∧ (talking.port 1).reservedBy = none ∧
      (talking.console .A).target ≠ .port 1 :=
  ⟨by decide, rfl, by decide, talking_floorsOrdered, by decide, by decide⟩

/-- A member reserved by console A. -/
def parked : PortRec := { member with state := .parked, reservedBy := some .A }

theorem witness_PortsAreReservedAndReleased_bids :
    let s := resting.setPort 1 { parked with carrier := .present }
    s.readyFor .A ∧ s.raised = [] ∧ (s.port 1).reservedBy = some .A ∧ (s.port 1).patch = some 0 ∧ (s.port 1).state = .parked ∧
      (s.port 1).maskedClear ∧ (s.port 1).qualified = true ∧ (s.port 1).masked = false ∧ (s.port 1).lockoutLeft = 0 ∧
      (s.console .A).target ≠ .port 1 ∧ s.nobodyTalks 0 := by decide

/-- R144: a qualified parked port that is its console's own target loses it, and takes the patch as it is released. -/
theorem test_released_target_bids :
    let s := withConsole (resting.setPort 1 { parked with carrier := .present, fault := true }) .A
      { ConsoleRec.reset with target := .port 1, seize := true }
    let t := ran s (.releasePort .A 2)
    (s.nobodyTalks 0 ∧ (s.console .A).target = .port 1) ∧
      (t.port 1).state = .talker ∧ (t.console .A).target = .none ∧ (t.patch 0).talker = some (.port 1) := by decide

theorem witness_PortsAreReservedAndReleased_bids_in_talk :
    let s := talking.setPort 1 { parked with carrier := .present }
    s.readyFor .A ∧ s.raised = [] ∧ (s.port 1).reservedBy = some .A ∧ (s.port 1).patch = some 0 ∧ (s.port 1).state = .parked ∧
      (s.port 1).maskedClear ∧ (s.port 1).qualified = true ∧ (s.port 1).masked = false ∧ (s.port 1).lockoutLeft = 0 ∧
      (s.console .A).target ≠ .port 1 ∧ (s.patch 0).state = .talk ∧ (s.patch 0).stands (.port 1) = false ∧ s.keyedQuietly 0 := by decide

/-- A parked member that does not bid as it is released, and one keyed for its console. -/
theorem witness_PortsAreReservedAndReleased_silent :
    let s := talking.setPort 1 parked
    let k := talking.setPort 1 { parked with state := .parkedRelay }
    (s.readyFor .A ∧ s.raised = [] ∧ (s.port 1).reservedBy = some .A ∧ (s.port 1).patch = some 0 ∧ (s.port 1).state = .parked ∧
      (s.port 1).maskedClear ∧ (s.port 1).qualified = false ∧ s.relays 0 1) ∧
      (k.readyFor .A ∧ k.raised = [] ∧ (k.port 1).parkedKeyed = true ∧ 0 < (k.port 1).cfg.turnaround ∧ (k.port 1).maskedClear ∧
        (k.port 1).qualified = false) ∧ 16 < 17 := by decide

theorem witness_PatchIsCreated :
    resting.readyFor .A ∧ resting.membersAgree ∧ (resting.patch 1).state = .unused ∧
      (0 = 0 ∧ ∀ m : SlotId, m < 1 → (resting.patch m).state ≠ .unused) ∧ (2 = slotNumber 1) ∧
      ([0x20#8, 0x7E#8] : List Byte).length ≤ 8 ∧ (∀ b ∈ ([0x20#8, 0x7E#8] : List Byte), 0x20 ≤ b.toNat ∧ b.toNat ≤ 0x7E) ∧
      ([15, 2] : List PortId).Nodup ∧ ∀ p ∈ ([15, 2] : List PortId), (resting.port p).patch = none := by decide

theorem witness_PatchIsCreated_joins :
    let s := resting.setPort 2 { PortRec.reset with state := .parked, reservedBy := some .A, carrier := .present }
    s.raised = [] ∧ ∀ p ∈ ([15, 2] : List PortId),
      ((s.port p).isParked = true ∨ (s.port p).state = .detached) ∧ (s.port p).joinsSilently := by decide

theorem witness_MembersAreAddedAndRemoved :
    resting.readyFor .A ∧ resting.membersAgree ∧ (resting.patch 0).state ≠ .unused ∧ (resting.patch 0).state ≠ .closing ∧
      (resting.patch 0).owner = some .A ∧
      (([15, 2] : List PortId) ≠ [] ∧ ([15, 2] : List PortId).Nodup ∧ ∀ p ∈ ([15, 2] : List PortId), (resting.port p).patch = none) ∧
      (([1, 0] : List PortId) ≠ [] ∧ ([1, 0] : List PortId).Nodup ∧ ∀ p ∈ ([1, 0] : List PortId), (resting.port p).patch = some 0) := by
  decide

/-- A DETACHED port that joins a LIVE patch in TALK, and one that joins a patch at rest; a keyed and a parked member to be removed. -/
theorem witness_MembersAreAddedAndRemoved_joins :
    let s := talking.setPort 0 { talking.port 0 with state := .parked }
    (talking.readyFor .A ∧ talking.membersAgree ∧ talking.raised = [] ∧ ([15] : List PortId) ≠ [] ∧ (talking.port 15).patch = none ∧
      (talking.port 15).state = .detached ∧ (talking.port 15).joinsSilently ∧ talking.relays 0 15 ∧ ¬resting.relays 0 15) ∧
      ((s.port 1).isParked = false ∧ (s.port 1).inRelaySet = true ∧ s.raised = [] ∧ (s.port 0).isParked = true) := by decide

/-- The talker removed together with a keyed member. -/
theorem witness_MembersAreAddedAndRemoved_leaves :
    talking.readyFor .A ∧ talking.membersAgree ∧ talking.raised = [] ∧ talking.floorsOrdered ∧
      (∀ p ∈ ([0, 1] : List PortId), (talking.port p).patch = some 0) ∧ (talking.port 1).inRelaySet = true :=
  ⟨by decide, by decide, rfl, talking_floorsOrdered, by decide, by decide⟩

theorem witness_MembersAreAddedAndRemoved_parked :
    let s := talking.setPort 1 parked
    s.membersAgree ∧ s.raised = [] ∧ s.floorsOrdered ∧ (s.port 1).patch = some 0 ∧ (s.port 1).isParked = true :=
  ⟨by decide, rfl, fun n => ⟨by revert n; decide, by revert n; decide, fun c => by revert n; cases c <;> decide⟩, by decide, by decide⟩

/-- A DETACHED port with its carrier qualified that joins a patch at rest, and one in TALK. -/
theorem witness_MembersAreAddedAndRemoved_bids :
    let s := talking.setPort 15 { PortRec.reset with carrier := .present }
    s.readyFor .A ∧ s.membersAgree ∧ s.raised = [] ∧ (s.port 15).patch = none ∧ (s.port 15).state = .detached ∧
      (s.port 15).qualified = true ∧ (s.port 15).masked = false ∧ (s.port 15).lockoutLeft = 0 ∧
      (s.patch 0).state = .talk ∧ s.keyedQuietly 0 ∧ (s.patch 0).stands (.port 15) = false := by decide

theorem witness_MembersAreAddedAndRemoved_bids_nobodyTalks :
    let s := resting.setPort 15 { PortRec.reset with carrier := .present }
    s.membersAgree ∧ s.nobodyTalks 0 ∧ (s.patch 0).stands (.port 15) = false := ⟨by decide, by decide, by decide⟩

/-- Two patches of console A, the second empty. -/
def twoPatches (s : State) : State := s.setPatch 11 (patchWith [])

theorem witness_MemberIsMoved :
    let s := twoPatches resting
    s.readyFor .A ∧ s.membersAgree ∧ (s.port 1).patch = some 0 ∧ (11 : SlotId) ≠ 0 ∧ (s.patch 11).state ≠ .unused ∧
      (s.patch 11).state ≠ .closing ∧ (s.patch 0).owner = some .A ∧ (s.patch 11).owner = some .A := by decide

/-- A keyed member, to be moved to an empty patch. -/
theorem witness_MemberIsMoved_keyed :
    let s := twoPatches talking
    s.membersAgree ∧ s.raised = [] ∧ (s.port 1).joinsSilently ∧ (s.port 1).maskedClear ∧ (s.port 1).inRelaySet = true ∧
      0 < (s.port 1).cfg.turnaround ∧ (s.port 1).isParked = false ∧ (s.patch 0).bids.Nodup := by decide

theorem witness_MemberIsMoved_home :
    let s := withConsole (twoPatches talking) .A { ConsoleRec.reset with target := .patch 0, seize := true }
    s.standsAtHome 0 ∧ s.standsAtHome 11 :=
  ⟨⟨by decide, fun c h => by cases c <;> revert h <;> decide⟩, ⟨by decide, fun c h => by cases c <;> revert h <;> decide⟩⟩

theorem witness_PatchesAreMerged :
    let s := twoPatches talking
    let u := s.setPatch 11 { patchWith [] with state := .talk, talker := some (.console .A) }
    (s.readyFor .A ∧ s.membersAgree ∧ (0 : SlotId) ≠ 11 ∧ (s.patch 0).state ≠ .unused ∧ (s.patch 0).state ≠ .closing ∧
      (s.patch 11).state ≠ .unused ∧ (s.patch 11).state ≠ .closing ∧ (s.patch 0).owner = some .A ∧ (s.patch 11).owner = some .A ∧
      (s.patch 11).talker = none) ∧
      (u.readyFor .A ∧ u.membersAgree ∧ (u.patch 11).state ≠ .unused ∧ (u.patch 11).state ≠ .closing ∧
        (u.patch 11).owner = some .A ∧ (u.patch 0).talker.isSome = true ∧ (u.patch 11).talker.isSome = true) := by decide

/-- A talker to be carried into a MIX survivor in HANG, with a target and listen entries to be renamed. -/
def merging : State :=
  withConsole ((twoPatches talking).setPatch 11 { patchWith [] with state := .hang, hangLeft := 1, style := .mix }) .B
    { ConsoleRec.reset with target := .patch 0, listen := [⟨0, 1023⟩, ⟨11, 0⟩] }

theorem witness_PatchesAreMerged_joined :
    (merging.readyFor .A ∧ merging.membersAgree ∧ (merging.patch 11).talker = none ∧ (merging.patch 0).talker = some (.port 0) ∧
      merging.raised = [] ∧ (merging.console .B).inRange ∧ (merging.console .B).target = .patch 0) ∧
      merging.keyedQuietly 11 ∧ merging.keyedQuietly 0 ∧
      (merging.patch 11).bids.Pairwise (fun x y => merging.priority y ≤ merging.priority x) :=
  ⟨by decide, by decide, by decide, by decide⟩

/-- R59: an absorbed patch's list and partner join a PREEMPT survivor in order of priority. -/
theorem test_merge_joins_lists :
    let b := { talking.patch 0 with bids := [.port 1], partner := some .A, style := .mix }
    let t := ran ((twoPatches talking).setPatch 0 b) (.mergePatches .A 12 1)
    (t.patch 11).talker = some (.port 0) ∧ (t.patch 11).bids = [.console .A, .port 1] ∧ (t.patch 11).elapsed = 119999 := by decide

/-- A selection of every item of SET PATCH, at or beyond its limits. -/
def highPatch : PatchSelection :=
  ⟨some [0x20#8, 0x7E#8], some 1, some 1, some 11, some 1024, some 5001, some 9, some 121⟩

theorem witness_SetPatchStores :
    resting.readyFor .A ∧ resting.membersAgree ∧ (resting.patch 0).state ≠ .unused ∧ (resting.patch 0).state ≠ .closing ∧
      (resting.patch 0).owner = some .A ∧ (∀ v, highPatch.mode = some v → v ≤ 1) ∧ (∀ v, highPatch.style = some v → v ≤ 1) ∧
      (∀ l, highPatch.label = some l → l.length ≤ 8 ∧ ∀ b ∈ l, 0x20 ≤ b.toNat ∧ b.toNat ≤ 0x7E) := by
  refine ⟨by decide, by decide, by decide, by decide, by decide, ?_, ?_, ?_⟩ <;> intro v h <;> cases h <;> decide

theorem closing_relayFit : closing.relayFit := by
  intro p hp
  have h : p = 1 := by revert p; decide
  subst h
  exact ⟨by decide, rfl, 0, rfl, rfl, by decide, .inr (.inr rfl)⟩

theorem witness_SetPatchStores_closing :
    closing.readyFor .A ∧ closing.membersAgree ∧ (closing.patch 0).state ≠ .unused ∧ (closing.patch 0).owner = some .A ∧
      closing.raised = [] ∧ closing.relayFit := ⟨by decide, by decide, by decide, by decide, rfl, closing_relayFit⟩

theorem witness_SetPatchStores_mode :
    talking.readyFor .A ∧ talking.raised = [] ∧ talking.membersAgree ∧ (talking.patch 0).owner = some .A ∧
      (talking.patch 0).mode = .live ∧ talking.keyedQuietly 0 ∧ (talking.port 1).inRelaySet = true := by decide

/-- A REHEARSE patch in TALK, and one at rest, with no member keyed. -/
theorem witness_SetPatchStores_mode_rehearse :
    let s := (talking.setPort 1 member).setPatch 0 { talking.patch 0 with mode := .rehearse }
    let u := resting.setPatch 0 { resting.patch 0 with mode := .rehearse }
    (s.readyFor .A ∧ s.raised = [] ∧ s.membersAgree ∧ (s.patch 0).owner = some .A ∧ (s.patch 0).mode = .rehearse ∧
      (∀ q ∈ (s.patch 0).members, (s.port q).inRelaySet = false) ∧ (s.patch 0).state = .talk ∧ (s.port 1).isParked = false) ∧
      u.membersAgree ∧ (u.patch 0).mode = .rehearse ∧ (u.patch 0).state = .quiet ∧
      ∀ q ∈ (u.patch 0).members, (u.port q).inRelaySet = false := by decide

theorem witness_SetPatchStores_mode_keys :
    (((talking.setPort 1 member).heard .A).setPatch 0 (talking.patch 0)).relays 0 1 := by decide

/-- R104: to REHEARSE, the keyed member is unkeyed with its guard; to LIVE, it is keyed. -/
theorem test_mode_unkeys_and_keys :
    let t := ran talking (.setPatch .A 1 { noPatchItem with mode := some 1 })
    let u := ran t (.setPatch .A 1 { noPatchItem with mode := some 0 })
    ((t.port 1).state = .idle ∧ (t.port 1).guardLeft = 100) ∧ (u.port 1).state = .keyUp := by decide

theorem witness_PatchIsDissolved :
    let closing := talking.setPatch 0 { talking.patch 0 with state := .closing }
    (resting.readyFor .A ∧ resting.membersAgree ∧ (resting.patch 0).state = .quiet ∧ (resting.patch 0).owner = some .A) ∧
      (talking.readyFor .A ∧ talking.membersAgree ∧ (talking.patch 0).state = .talk ∧ (talking.patch 0).owner = some .A) ∧
      (closing.readyFor .A ∧ closing.membersAgree ∧ (closing.patch 0).state = .closing ∧ (closing.patch 0).owner = some .A) := by
  decide

theorem talking_relayFit : talking.relayFit := by
  intro p hp
  have h : p = 1 := by revert p; decide
  subst h
  exact ⟨by decide, rfl, 0, rfl, rfl, by decide, .inl rfl⟩

theorem witness_PatchIsDissolved_closes :
    (talking.patch 0).state = .talk ∧ talking.raised = [] ∧ talking.relayFit := ⟨by decide, rfl, talking_relayFit⟩

theorem witness_SharingIsSet :
    resting.readyFor .B ∧ (0 = 0 ∨ 12 < 0 ∨ 1 < 1) ∧ (13 = 0 ∨ 12 < 13 ∨ 1 < 1) ∧ (1 = 0 ∨ 12 < 1 ∨ 1 < 2) ∧ 12 = slotNumber 11 ∧
      (resting.patch 11).state = .unused ∧
      ((resting.patch 0).state ≠ .unused ∧ (resting.patch 0).owner ≠ some .B ∧ (resting.patch 0).shared = false) ∧
      (resting.readyFor .A ∧ (resting.patch 0).owner = some .A) := by decide

theorem witness_PatchIsTakenOver :
    let ofB := resting.setPatch 0 { resting.patch 0 with owner := some .B }
    let lost := withConsole resting .A { ConsoleRec.reset with link := .lost }
    (resting.readyFor .B ∧ (resting.patch 0).owner = some .A ∧ (resting.console .A).link = .up ∧ (resting.patch 0).state ≠ .unused) ∧
      (ofB.readyFor .A ∧ (ofB.patch 0).owner = some .B) ∧ (lost.readyFor .B ∧ (lost.console .A).link = .lost) ∧
      (resting.readyFor .A ∧ (resting.patch 11).state = .unused ∧ 12 = slotNumber 11) ∧ (13 = 0 ∨ 12 < 13) := by decide

theorem witness_RefusedCommandsChangeNothing :
    ((Instr.queryPort .A 0).request? = some (.A, .queryPort 0) ∧ State.reset.readyFor .A ∧
      (runRequest .A (.queryPort 0) (State.reset.heard .A)).2.status ≠ .ok ∧
      (runRequest .A (.queryPort 0) (State.reset.heard .A)).2.status ≠ .clamped) ∧
      (resting.readyFor .B ∧ (resting.patch 0).state ≠ .unused ∧ (resting.patch 0).owner ≠ some .B ∧
        (resting.patch 0).shared = false ∧ ([0] : List PortId) ≠ [] ∧ ([0] : List PortId).Nodup ∧ noPatchItem.label = none ∧
        noPatchItem.mode = none ∧ noPatchItem.style = none) := by decide

/-- Rows of the tables that fail: the ninth byte of a label, a port named twice, a port in use, an outsider, a full patch, a CLOSING one. -/
theorem witness_RefusedCommandsChangeNothing_rows :
    let s := closing
    s.readyFor .A ∧ 8 < (List.replicate 9 0x20#8 : List Byte).length ∧
      (([3, 17, 3] : List Nat).find? (fun k => decide (1 < ([3, 17, 3] : List Nat).count k)) = some 3) ∧
      (([3, 1] : List Nat).find? (fun k => decide (∃ p : PortId, k = portNumber p ∧ (s.port p).patch ≠ none)) = some 1) ∧
      (([1, 3] : List Nat).find? (fun j => decide (∀ p : PortId, j = portNumber p → (s.port p).patch ≠ some 0)) = some 3) ∧
      (16 < 15 + (s.patch 0).members.length) ∧ (s.patch 0).state = .closing ∧ (s.patch 11).state = .unused ∧
      ((s.patch 0).owner ≠ some .B ∧ (s.patch 0).shared = false) ∧ (s.port 2).patch = none := by decide

theorem witness_BidListsStayInOrder :
    [Source.console .A, .port 0, .port 1].Pairwise (fun a b => resting.priority b ≤ resting.priority a) := by decide

/-- A listed port whose base priority changes, and one whose emergency is cleared. -/
theorem witness_BidListsStayInOrder_changes :
    let s := talking.setPatch 0 { talking.patch 0 with bids := [.port 1] }
    let e := s.setPort 1 { s.port 1 with emergency := true }
    (s.readyFor .A ∧ s.raised = [] ∧ (s.port 1).patch = some 0 ∧ .port 1 ∈ (s.patch 0).bids ∧ (s.port 1).emergency = false ∧
      min 8 7 ≠ (s.port 1).cfg.basePriority ∧ ∀ n, (s.port 2).patch = some n → .port 2 ∉ (s.patch n).bids) ∧
      (e.readyFor .A ∧ e.raised = [] ∧ (e.port 1).patch = some 0 ∧ .port 1 ∈ (e.patch 0).bids ∧ (e.port 1).emergency = true ∧
        (e.port 1).cfg.emgMode = .latch) := by decide

/-- R81: a base priority raised to 7 moves the entry ahead of the one of priority 2 that stood before it. -/
theorem test_base_priority_moves_the_entry :
    let s := (talking.setPort 2 { member with carrier := .present }).setPatch 0
      { talking.patch 0 with members := [0, 1, 2], bids := [.port 2, .port 1] }
    ((ran s (.setPort .A 2 { noPortItem with basePriority := some 7 })).patch 0).bids = [.port 1, .port 2] := by decide

theorem witness_HigherBidsPreempt :
    let byConsole := talking.setPatch 0 { talking.patch 0 with talker := some (.console .A) }
    let urgent := talking.setPort 1 { talking.port 1 with emergency := true }
    (urgent.patch 0).state = .talk ∧ (urgent.patch 0).style = .preempt ∧ (urgent.patch 0).talker = some (.port 0) ∧
      Source.port 1 ≠ .port 0 ∧ ((urgent.patch 0).threshold ≤ urgent.priority (.port 1) ∧ (urgent.port 0).priority < urgent.priority (.port 1)) ∧
      (talking.priority (.port 1) < (talking.patch 0).threshold) ∧
      ((byConsole.patch 0).state = .talk ∧ (byConsole.patch 0).talker = some (.console .A)) := by decide

/-- The talking patch with a mix partner, its threshold k and its state st. -/
def mixed (k : Nat) (st : PatchState) : State :=
  talking.setPatch 0 { talking.patch 0 with style := .mix, partner := some .B, threshold := k, state := st }

/-- A listed emergency that pre-empts, and a MIX patch without and with a partner. -/
theorem witness_HigherBidsPreempt_listed_and_mixed :
    let urgent := (talking.setPort 1 { member with emergency := true }).setPatch 0 { talking.patch 0 with bids := [.port 1] }
    let mix := talking.setPatch 0 { talking.patch 0 with style := .mix }
    ((urgent.patch 0).state = .talk ∧ (urgent.patch 0).style = .preempt ∧ (urgent.port 1).patch = some 0 ∧
      .port 1 ∈ (urgent.patch 0).bids ∧ (urgent.patch 0).bids.Nodup ∧ (urgent.patch 0).talker = some (.port 0) ∧
      (0 : PortId) ≠ 1 ∧ (urgent.patch 0).threshold ≤ (urgent.port 1).priority ∧
      (urgent.port 0).priority < (urgent.port 1).priority) ∧
      ((mix.patch 0).state = .talk ∧ (mix.patch 0).style = .mix ∧ (mix.patch 0).talker = some (.port 0) ∧
        (mix.patch 0).partner = none ∧ ((mixed 8 .talk).patch 0).partner ≠ none) := by decide

/-- A style change in TALK with threshold 9 and with threshold 10, and in CLOSING. -/
theorem witness_HigherBidsPreempt_style :
    (mixed 9 .talk).keyedQuietly 0 ∧ (mixed 10 .talk).keyedQuietly 0 ∧ (mixed 8 .closing).keyedQuietly 0 ∧
      ((mixed 9 .talk).readyFor .A ∧ (mixed 9 .talk).raised = [] ∧ ((mixed 9 .talk).patch 0).owner = some .A ∧
        ((mixed 9 .talk).patch 0).style = .mix ∧ ((mixed 9 .talk).patch 0).partner = some .B ∧
        ((mixed 9 .talk).patch 0).state = .talk ∧ ((mixed 9 .talk).patch 0).talker = some (.port 0) ∧
        ((mixed 9 .talk).patch 0).threshold ≤ 9 ∧ ((mixed 9 .talk).port 0).priority < 9) ∧
      9 < ((mixed 10 .talk).patch 0).threshold ∧ ((mixed 8 .closing).patch 0).state = .closing :=
  ⟨by decide, by decide, by decide, by decide, by decide, by decide⟩

/-- R90: the partner of a MIX patch set to PREEMPT takes the talk right, and the port talker waits. -/
theorem test_style_change :
    let s := talking.setPatch 0 { talking.patch 0 with style := .mix, partner := some .B }
    let t := ran s (.setPatch .A 1 { noPatchItem with style := some 0 })
    (t.patch 0).talker = some (.console .B) ∧ (t.patch 0).partner = none ∧ (t.patch 0).bids = [.port 0] := by decide

theorem witness_ReleaseHasItsOutcome :
    let mixed := talking.setPatch 0 { talking.patch 0 with partner := some .B }
    let waiting := talking.setPatch 0 { talking.patch 0 with bids := [.port 1] }
    ((mixed.patch 0).state = .talk ∧ (mixed.patch 0).partner = some .B) ∧
      ((waiting.patch 0).state = .talk ∧ (waiting.patch 0).partner = none ∧ (waiting.patch 0).bids = .port 1 :: []) ∧
      ((talking.patch 0).state = .talk ∧ (talking.patch 0).partner = none ∧ (talking.patch 0).bids = [] ∧ 0 < (talking.patch 0).hangTime) ∧
      (({ talking.patch 0 with hangTime := 0 } : PatchRec).hangTime = 0) := by decide

theorem witness_ReleaseHasItsOutcome_closing_and_partners :
    let waiting := talking.setPatch 0 { talking.patch 0 with
      style := .mix, partner := some .B, bids := [.port 3] ++ .console .A :: [.port 1] }
    (closing.patch 0).state = .closing ∧
      ((waiting.patch 0).partner = some .B ∧ (waiting.patch 0).talker = some (.port 0) ∧
        (waiting.patch 0).talker ≠ some (.console .B) ∧ (waiting.patch 0).state = .talk ∧
        (waiting.patch 0).bids = [.port 3] ++ .console .A :: [.port 1]) ∧
      (∀ d, .console d ∉ ({ waiting.patch 0 with bids := [.port 1] } : PatchRec).bids) := by
  refine ⟨rfl, by decide, fun d => by cases d <;> decide⟩

theorem witness_RelaySetIsTheEligibleSet :
    (talking.patch 0).members.Nodup ∧ (1 : PortId) ∈ (talking.patch 0).members ∧ (talking.port 1).patch = some 0 ∧
      (talking.port 1).inRelaySet = true ∧ (talking.port 0).inRelaySet = false ∧ (0 : PortId) ∈ (talking.patch 0).members ∧
      (talking.port 0).patch = some 0 := by decide

/-- Clauses of a member to be keyed, and of a keyed one to be unkeyed. -/
theorem witness_RelaySetIsTheEligibleSet_keys_and_unkeys :
    let idle := talking.setPort 1 member
    let rehearsed := talking.setPatch 0 { talking.patch 0 with mode := .rehearse }
    ((idle.port 1).inRelaySet = false ∧ (idle.patch 0).mode = .live ∧ (idle.port 1).cfg.kind ≠ .listenOnly ∧
      (idle.port 1).isParked = false ∧ (idle.port 1).fault = false ∧ (idle.patch 0).state = .talk ∧
      (idle.patch 0).talker ≠ some (.port 1) ∧ .port 1 ∉ (idle.patch 0).bids ∧ (idle.port 1).carrier = .clear) ∧
      ((rehearsed.port 1).inRelaySet = true ∧ (rehearsed.patch 0).state ≠ .hang ∧ (rehearsed.patch 0).mode ≠ .live) := by decide

theorem witness_ParseOfEncodeIsTheCommand : (Request.addMembers 255 (List.replicate 61 255)).wellFormed = true := by decide

theorem witness_FrameOnTheLineIsTheCommand :
    (Instr.seize .A).request? = some (.A, .seize) ∧ (Instr.seize .A).wellFormed = true ∧ State.reset.resetLine = false ∧
      ∃ t, exec (.seize .A) State.reset = .next t := ⟨rfl, rfl, rfl, _, rfl⟩

theorem witness_MaskedMachinesStayClear : talking.maskedClear ∧ ∃ t, step talking = .next t := ⟨by decide, _, rfl⟩

theorem witness_MembershipsStayInAgreement : talking.membersAgree ∧ ∃ t, step talking = .next t := ⟨by decide, _, rfl⟩

theorem witness_FloorsStayInAgreement : talking.membersAgree ∧ talking.floorsAgree ∧ ∃ t, step talking = .next t := by
  refine ⟨by decide, ?_, _, rfl⟩
  intro n
  by_cases h : n = 0
  · subst h; exact rfl
  · have : (talking.patch n) = PatchRec.unused := by revert n; decide
    rw [this]; exact ⟨rfl, rfl, rfl⟩

theorem witness_LimitsAreKept : talking.linksBounded ∧ talking.settingsInRange ∧ ∃ t, step talking = .next t := by
  refine ⟨fun c => ?_, ⟨by decide, by decide, fun c => ?_⟩, _, rfl⟩ <;> cases c <;> decide

theorem witness_RelaySetsStayFit : talking.membersAgree ∧ talking.relayFit ∧ ∃ t, step talking = .next t :=
  ⟨by decide, talking_relayFit, _, rfl⟩

end Sys2Proof.Tests
end

/-! What SET_SHARING and TAKE_OVER do to the patch table: the rules of an answered good frame, of a checked command and of the patch
numbers, one equation for each of the two commands, and the statements on both settled from them. -/

namespace Sys2Proof.Machine

/-! ### A good frame on a link that is ready -/

@[simp] theorem State.heard_patch (s : State) (c : Console) (n : SlotId) : (s.heard c).patch n = s.patch n := rfl

/-- Hearing one console moves nothing of the other's record (R145, R147). -/
theorem State.heard_console_of_ne (s : State) {c d : Console} (h : d ≠ c) : (s.heard c).console d = s.console d := by
  simp [State.heard, State.linkHeard, State.closeFrame, State.modConsole_console, h]

/-- A closed frame with room in the queue and no RESTART pending is carried out, and its response queued (R168, R169). -/
theorem State.answer_of_room {s : State} {c : Console} {act : State → State × Response}
    (hq : (s.link c).queue.length < Config.queueCapacity) (hr : (s.link c).restartPending = false) :
    s.answer c act = (act s).1.replied c (act s).2 := by
  unfold State.answer
  rw [if_neg (Nat.not_le.mpr hq), hr, if_neg Bool.false_ne_true]

/-- What a command's frame leaves on a link that is ready: the command's own outcome from the state that heard the frame. -/
theorem State.goodFrame_of_ready {s t : State} {c : Console} {act : State → State × Response} {r : Response}
    (hs : s.readyFor c) (h : act (s.heard c) = (t, r)) : s.goodFrame c act = t.replied c r := by
  obtain ⟨hline, hqueue, hpending⟩ := hs
  have hlink : (s.heard c).link c = { s.link c with rx := Receiver.outside } := State.setLink_link_same _ _ _
  have hanswer : (s.heard c).answer c act = t.replied c r := by
    rw [State.answer_of_room (by rw [hlink]; exact hqueue) (by rw [hlink]; exact hpending), h]
  unfold State.goodFrame
  rw [hline, if_neg Bool.false_ne_true]
  exact hanswer

/-! ### Patch numbers -/

theorem slotOf?_slotNumber (n : SlotId) : slotOf? (slotNumber n) = some n := by
  have hn : 1 ≤ slotNumber n ∧ slotNumber n ≤ 12 := ⟨Nat.succ_pos _, n.isLt⟩
  unfold slotOf?
  rw [dif_pos hn]
  rfl

theorem slotOf?_outOfRange {k : Nat} (h : k = 0 ∨ 12 < k) : slotOf? k = none := by
  unfold slotOf?
  rw [dif_neg (by omega)]

/-- A number names a slot, or lies outside 1..12. -/
theorem outOfRange_or_slotNumber (k : Nat) : (k = 0 ∨ 12 < k) ∨ ∃ n, k = slotNumber n := by
  by_cases h : k = 0 ∨ 12 < k
  · exact .inl h
  · exact .inr ⟨⟨k - 1, by omega⟩, by simp only [slotNumber]; omega⟩

@[simp] theorem State.onPatch_slotNumber (s : State) (n : SlotId) (r : Response) (act : SlotId → State × Response) :
    s.onPatch (slotNumber n) r act = act n := by
  unfold State.onPatch; rw [slotOf?_slotNumber]

theorem State.onPatch_outOfRange {k : Nat} (h : k = 0 ∨ 12 < k) (s : State) (r : Response) (act : SlotId → State × Response) :
    s.onPatch k r act = (s, r) := by
  unfold State.onPatch; rw [slotOf?_outOfRange h]

/-! ### Checks, first to last (R45) -/

@[simp] theorem State.checked_nil (s : State) (act : State → State × Response) : s.checked [] act = act s := rfl

@[simp] theorem State.checked_cons (s : State) (fails : Bool) (r : Response) (checks : List (Option Response))
    (act : State → State × Response) :
    s.checked (check fails r :: checks) act = if fails then (s, r) else s.checked checks act := by
  cases fails <;> rfl

@[simp] theorem PatchRec.not_inUse_iff (r : PatchRec) : (!r.inUse) = true ↔ r.state = .unused := by
  simp [PatchRec.inUse]

theorem PatchRec.mayEdit_iff (r : PatchRec) (c : Console) : r.mayEdit c = true ↔ r.owner = some c ∨ r.shared = true := by
  simp [PatchRec.mayEdit]

/-! ### The data of the two answers (R173) -/

theorem State.ownershipImage_setPatch (s : State) (n : SlotId) (r : PatchRec) :
    (s.setPatch n r).ownershipImage n = [byteOf (slotNumber n), byteOf r.ownershipByte] := by
  unfold State.ownershipImage
  rw [State.setPatch_patch_same]
  rfl

/-- A shared flag that takes 0 or 1 stands in bit 7 as that number. -/
theorem PatchRec.ownershipByte_shared (r : PatchRec) {v : Nat} (h : v ≤ 1) :
    ({ r with shared := v == 1 } : PatchRec).ownershipByte = ownerCode r.owner + 128 * v := by
  obtain rfl | rfl := Nat.le_one_iff_eq_zero_or_eq_one.mp h <;> rfl

/-! ### SET SHARING (R36) -/

theorem exec_setSharing_of_ready {s t : State} {c : Console} {k v : Nat} {r : Response} (hs : s.readyFor c)
    (h : doSetSharing c k v (s.heard c) = (t, r)) : exec (.setSharing c k v) s = .next (t.replied c r) :=
  congrArg Host.Outcome.next (State.goodFrame_of_ready hs h)

theorem doSetSharing_outOfRange {k : Nat} (h : k = 0 ∨ 12 < k) (c : Console) (v : Nat) (s : State) :
    doSetSharing c k v s = (s, refuse .badArgument) := State.onPatch_outOfRange h _ _ _

/-- The refusals of SET SHARING in their order, and the flag it stores. -/
theorem doSetSharing_slotNumber (c : Console) (n : SlotId) (v : Nat) (s : State) :
    doSetSharing c (slotNumber n) v s =
      if 1 < v then (s, refuse .badArgument)
      else if (s.patch n).state = .unused then (s, refuse .noSuchPatch)
      else if (s.patch n).mayEdit c then
        (s.setPatch n { s.patch n with shared := v == 1 },
          ok [byteOf (slotNumber n), byteOf (ownerCode (s.patch n).owner + 128 * v)])
      else (s, refuse .notOwner) := by
  unfold doSetSharing
  simp only [State.onPatch_slotNumber, State.checked_cons, State.checked_nil, decide_eq_true_eq, PatchRec.not_inUse_iff]
  by_cases hv : 1 < v
  · rw [if_pos hv, if_pos hv]
  · have himage := State.ownershipImage_setPatch s n { s.patch n with shared := v == 1 }
    rw [PatchRec.ownershipByte_shared _ (Nat.not_lt.mp hv)] at himage
    cases (s.patch n).mayEdit c <;> simp [hv, State.modPatch, himage]

/-- A console that clears the flag of a patch it does not own may edit it no longer (R34, R36). -/
theorem PatchRec.mayEdit_unshared {r : PatchRec} {c d : Console} (ho : r.owner = some d) (hd : d ≠ c) :
    ({ r with shared := false } : PatchRec).mayEdit c = false := by
  simp [PatchRec.mayEdit, ho, hd]

theorem doSetSharing_badValue {v : Nat} (hv : 1 < v) (c : Console) (n : SlotId) (s : State) :
    doSetSharing c (slotNumber n) v s = (s, refuse .badArgument) := by
  rw [doSetSharing_slotNumber, if_pos hv]

theorem doSetSharing_unused {s : State} {n : SlotId} {v : Nat} (hv : v ≤ 1) (hu : (s.patch n).state = .unused) (c : Console) :
    doSetSharing c (slotNumber n) v s = (s, refuse .noSuchPatch) := by
  rw [doSetSharing_slotNumber, if_neg (Nat.not_lt.mpr hv), if_pos hu]

theorem doSetSharing_barred {s : State} {c : Console} {n : SlotId} {v : Nat} (hv : v ≤ 1) (hu : (s.patch n).state ≠ .unused)
    (ho : (s.patch n).owner ≠ some c) (hsh : (s.patch n).shared = false) :
    doSetSharing c (slotNumber n) v s = (s, refuse .notOwner) := by
  have hbar : ¬ (s.patch n).mayEdit c = true := by simp [PatchRec.mayEdit_iff, ho, hsh]
  rw [doSetSharing_slotNumber, if_neg (Nat.not_lt.mpr hv), if_neg hu, if_neg hbar]

theorem doSetSharing_editor {s : State} {c : Console} {n : SlotId} {v : Nat} (hv : v ≤ 1) (hu : (s.patch n).state ≠ .unused)
    (he : (s.patch n).owner = some c ∨ (s.patch n).shared = true) :
    doSetSharing c (slotNumber n) v s = (s.setPatch n { s.patch n with shared := v == 1 },
      ok [byteOf (slotNumber n), byteOf (ownerCode (s.patch n).owner + 128 * v)]) := by
  rw [doSetSharing_slotNumber, if_neg (Nat.not_lt.mpr hv), if_neg hu, if_pos ((PatchRec.mayEdit_iff _ _).mpr he)]

/-- Settles O46, by the order of SET SHARING's checks. -/
theorem sharingIsSet : Obligations.SharingIsSet := by
  unfold Obligations.SharingIsSet
  intro s c k v hs h
  refine ⟨fun hbad => exec_setSharing_of_ready hs ?_, ?_⟩
  · rcases outOfRange_or_slotNumber k with hk | ⟨n, rfl⟩
    · exact doSetSharing_outOfRange hk _ _ _
    · have hv : 1 < v := by have := n.isLt; simp only [slotNumber] at hbad; omega
      exact doSetSharing_badValue hv _ _ _
  · rintro n rfl hv r u
    refine ⟨fun hunused => exec_setSharing_of_ready hs (doSetSharing_unused (s := h) hv hunused c),
      fun hused hother hsh => exec_setSharing_of_ready hs (doSetSharing_barred hv hused hother hsh),
      fun hused hedit => ?_, fun hv0 _ howner => ?_⟩
    · rw [exec_setSharing_of_ready hs (doSetSharing_editor hv hused hedit)]
      have hr : (s.heard c).patch n = r := State.heard_patch s c n
      rw [hr]
      rcases r.owner with _ | _ | _ <;> rfl
    · have hpatch : u.patch n = { s.patch n with shared := false } := by subst hv0; exact State.setPatch_patch_same _ _ _
      rw [hpatch]
      exact PatchRec.mayEdit_unshared howner (by decide)

/-! ### TAKE OVER (R38) -/

theorem exec_takeOver_of_ready {s t : State} {c : Console} {k : Nat} {r : Response} (hs : s.readyFor c)
    (h : doTakeOver c k (s.heard c) = (t, r)) : exec (.takeOver c k) s = .next (t.replied c r) :=
  congrArg Host.Outcome.next (State.goodFrame_of_ready hs h)

theorem doTakeOver_outOfRange {k : Nat} (h : k = 0 ∨ 12 < k) (c : Console) (s : State) :
    doTakeOver c k s = (s, refuse .badArgument) := State.onPatch_outOfRange h _ _ _

/-- The refusals of TAKE OVER in their order, and the owner it stores. -/
theorem doTakeOver_slotNumber (c : Console) (n : SlotId) (s : State) :
    doTakeOver c (slotNumber n) s =
      if (s.patch n).state = .unused then (s, refuse .noSuchPatch)
      else if s.takeOverBarred c n then (s, refuse .notPermitted)
      else (s.setPatch n ((s.patch n).takenBy c),
        ok [byteOf (slotNumber n), byteOf ((s.patch n).takenBy c).ownershipByte]) := by
  unfold doTakeOver
  simp only [State.onPatch_slotNumber, State.checked_cons, State.checked_nil, PatchRec.not_inUse_iff, State.modPatch,
    State.ownershipImage_setPatch]

/-- Only B is barred, from a patch of A's while A's link is UP. -/
theorem State.takeOverBarred_iff (s : State) (c : Console) (n : SlotId) :
    s.takeOverBarred c n = true ↔ c = .B ∧ (s.patch n).owner = some .A ∧ (s.console .A).link = .up := by
  simp [State.takeOverBarred, and_assoc]

theorem PatchRec.takenBy_owner {r : PatchRec} {c : Console} (h : r.owner = some c) : r.takenBy c = r := if_pos h

theorem PatchRec.takenBy_other {r : PatchRec} {c : Console} (h : r.owner ≠ some c) :
    r.takenBy c = { r with owner := some c, shared := false } := if_neg h

theorem PatchRec.ownershipByte_owned {r : PatchRec} {c : Console} (h : r.owner = some c) :
    r.ownershipByte = consoleNumber c + if r.shared then 128 else 0 := by
  unfold PatchRec.ownershipByte
  rw [h]
  cases r.shared <;> rfl

theorem doTakeOver_unused {s : State} {n : SlotId} (hu : (s.patch n).state = .unused) (c : Console) :
    doTakeOver c (slotNumber n) s = (s, refuse .noSuchPatch) := by
  rw [doTakeOver_slotNumber, if_pos hu]

theorem doTakeOver_barred {s : State} {c : Console} {n : SlotId} (hu : (s.patch n).state ≠ .unused)
    (hbar : s.takeOverBarred c n = true) : doTakeOver c (slotNumber n) s = (s, refuse .notPermitted) := by
  rw [doTakeOver_slotNumber, if_neg hu, if_pos hbar]

/-- The owner's own TAKE OVER changes nothing and keeps the flag. -/
theorem doTakeOver_owner {s : State} {c : Console} {n : SlotId} (hu : (s.patch n).state ≠ .unused)
    (ho : (s.patch n).owner = some c) :
    doTakeOver c (slotNumber n) s = (s, ok [byteOf (slotNumber n),
      byteOf (consoleNumber c + if (s.patch n).shared then 128 else 0)]) := by
  have hbar : ¬ s.takeOverBarred c n = true := by
    rw [State.takeOverBarred_iff, ho]
    rintro ⟨rfl, hA, -⟩
    exact absurd hA (by decide)
  rw [doTakeOver_slotNumber, if_neg hu, if_neg hbar, PatchRec.takenBy_owner ho, State.setPatch_self,
    PatchRec.ownershipByte_owned ho]

/-- A console that is not barred takes the other's patch, and the flag is cleared. -/
theorem doTakeOver_other {s : State} {c : Console} {n : SlotId} (hu : (s.patch n).state ≠ .unused)
    (ho : (s.patch n).owner ≠ some c) (hbar : ¬ s.takeOverBarred c n = true) :
    doTakeOver c (slotNumber n) s = (s.setPatch n { s.patch n with owner := some c, shared := false },
      ok [byteOf (slotNumber n), byteOf (consoleNumber c)]) := by
  rw [doTakeOver_slotNumber, if_neg hu, if_neg hbar, PatchRec.takenBy_other ho, PatchRec.ownershipByte_owned rfl]
  rfl

/-- Settles O47, by the issuing console and the patch's owner. -/
theorem patchIsTakenOver : Obligations.PatchIsTakenOver := by
  unfold Obligations.PatchIsTakenOver
  intro s c k hs h
  refine ⟨fun hk => exec_takeOver_of_ready hs (doTakeOver_outOfRange hk _ _), ?_⟩
  rintro n rfl r mine
  refine ⟨fun hunused => exec_takeOver_of_ready hs (doTakeOver_unused (s := h) hunused c),
    fun hused ho => exec_takeOver_of_ready hs (doTakeOver_owner hused ho), ?_, ?_, ?_⟩
  · rintro hused rfl ho
    have hbar : ¬ h.takeOverBarred .A n = true := by simp [State.takeOverBarred_iff]
    have hother : (h.patch n).owner ≠ some .A := ho.symm ▸ by decide
    exact exec_takeOver_of_ready hs (doTakeOver_other hused hother hbar)
  · rintro hused rfl ho hlost
    have hlink : (h.console .A).link = .lost := by rw [State.heard_console_of_ne s (by decide), hlost]
    have hbar : ¬ h.takeOverBarred .B n = true := by simp [State.takeOverBarred_iff, hlink]
    have hother : (h.patch n).owner ≠ some .B := ho.symm ▸ by decide
    exact exec_takeOver_of_ready hs (doTakeOver_other hused hother hbar)
  · rintro hused rfl ho hup
    have hlink : (h.console .A).link = .up := by rw [State.heard_console_of_ne s (by decide), hup]
    have hbar : h.takeOverBarred .B n = true := (State.takeOverBarred_iff _ _ _).mpr ⟨rfl, ho, hlink⟩
    exact exec_takeOver_of_ready hs (doTakeOver_barred hused hbar)

end Sys2Proof.Machine

/-! The mixer's rules and the statements on it: how two gains compose (R152), how a term is rounded and how far it can go, what the one
limit of a slot leaves of a sum (R154), which slot AUDIO_FRAME writes with which terms (R149, R150), and how many terms a slot has. -/

namespace Sys2Proof.Machine

/-! ### Two gains combined -/

theorem compose_eq_ite (a b : Nat) :
    compose a b = if 1023 < (a * b + 128) / 256 then 1023 else (a * b + 128) / 256 := by
  simp only [compose, Config.maxGain]
  split <;> omega

theorem compose_le_maxGain (a b : Nat) : compose a b ≤ 1023 := min_le_left _ _

theorem compose_comm (a b : Nat) : compose a b = compose b a := by rw [compose, compose, Nat.mul_comm]

/-- Composition of gains whose product is below half of the unity gain is silence. -/
theorem compose_eq_zero_of_lt {a b : Nat} (h : a * b < 128) : compose a b = 0 := by
  have hquot : (a * b + 128) / 256 = 0 := Nat.div_eq_of_lt (by omega)
  rw [compose, hquot, Nat.min_zero]

@[simp] theorem compose_zero (a : Nat) : compose a 0 = 0 := compose_eq_zero_of_lt (by simp)

/-- 256 is the unity gain of every gain in range. -/
theorem compose_unity {a : Nat} (h : a ≤ 1023) : compose a 256 = a := by
  have hquot : (a * 256 + 128) / 256 = a := by omega
  rw [compose, hquot, Config.maxGain, Nat.min_eq_right h]

/-- Settles O21, by the rules of composition and the two orders of three settings computed. -/
theorem gainsCompose : Obligations.GainsCompose := by
  unfold Obligations.GainsCompose
  refine ⟨fun a b ha _ => ?_, fun _ _ _ _ => rfl, by decide⟩
  exact ⟨compose_eq_ite a b, compose_le_maxGain a b, compose_unity ha, (compose_comm 256 a).trans (compose_unity ha),
    compose_zero a, (compose_comm 0 a).trans (compose_zero a), compose_eq_zero_of_lt⟩

/-! ### A term -/

/-- The term is the quotient of the product and half of the unity gain, rounded down: half-way cases go toward positive. -/
theorem term_rounds (x : Sample) (g : Nat) :
    256 * term x g ≤ x.toInt * (g : Int) + 128 ∧ x.toInt * (g : Int) + 128 < 256 * term x g + 256 := by
  unfold term
  omega

/-- A 16-bit sample times a gain in range. -/
theorem product_bounds (x : Sample) {g : Nat} (hg : g ≤ 1023) :
    -32768 * 1023 ≤ x.toInt * (g : Int) ∧ x.toInt * (g : Int) ≤ 32767 * 1023 := by
  have hlow : -32768 ≤ x.toInt := x.le_toInt
  have hhigh : x.toInt ≤ 32767 := Int.le_of_lt_add_one x.toInt_lt
  have hnonneg : (0 : Int) ≤ g := Int.natCast_nonneg g
  have below : -32768 * (g : Int) ≤ x.toInt * g := mul_le_mul_of_nonneg_right hlow hnonneg
  have above : x.toInt * (g : Int) ≤ 32767 * g := mul_le_mul_of_nonneg_right hhigh hnonneg
  omega

/-- What a term can be: more than a sample holds, for the term itself is not limited. -/
theorem term_bounds (x : Sample) {g : Nat} (hg : g ≤ 1023) : -130944 ≤ term x g ∧ term x g ≤ 130940 := by
  have hrounds := term_rounds x g
  have hproduct := product_bounds x hg
  omega

theorem term_unity (x : Sample) : term x 256 = x.toInt := by
  unfold term
  omega

theorem term_zero (x : Sample) : term x 0 = 0 := by
  unfold term
  omega

/-! ### The one limit of a slot -/

theorem limitSum_eq_ite (v : Int) :
    limitSum v = if 32767 < v then 32767 else if v < -32768 then -32768 else v := by
  unfold limitSum
  split_ifs <;> omega

/-- The limited sum fits a sample, so that the sample sent stands for it exactly. -/
theorem slotSample_toInt (l : List Int) : (slotSample l).toInt = limitSum l.sum := by
  have hlow : -32768 ≤ limitSum l.sum := le_max_left _ _
  have hhigh : limitSum l.sum ≤ 32767 := max_le (by decide) (min_le_left _ _)
  exact BitVec.toInt_ofInt_eq_self (by decide) hlow (Int.lt_add_one_of_le hhigh)

/-! ### The slots of a frame -/

theorem allPorts_eq_finRange : allPorts = List.finRange 16 := by decide

theorem State.mixed_port (s : State) (d : PortId) (h : d.val < s.mixed.length) :
    s.mixed[d.val] = slotSample (s.portTerms d) := by
  simp only [State.mixed, allPorts_eq_finRange]
  rw [List.getElem_append_left (by simp)]
  simp

theorem State.mixed_console (s : State) (c : Console) (h : (sourceSlot (.console c)).val < s.mixed.length) :
    s.mixed[(sourceSlot (.console c)).val] = slotSample (s.consoleTerms c) := by
  cases c <;> rfl

/-- The slot of a port carries the terms of the records as they stand, with the frame's samples held. -/
theorem State.frame_port (s : State) (x : Vector Sample 18) (d : PortId) :
    (s.frame x).outputs[d.val] = slotSample ({ s with inputs := x }.portTerms d) :=
  State.mixed_port { s with inputs := x } d _

theorem State.frame_console (s : State) (x : Vector Sample 18) (c : Console) :
    (s.frame x).outputs[(sourceSlot (.console c)).val] = slotSample ({ s with inputs := x }.consoleTerms c) :=
  State.mixed_console { s with inputs := x } c _

/-- Out of reset AUDIO_FRAME is the frame itself (R150; log 20). -/
theorem exec_audioFrame {s : State} (h : s.resetLine = false) (x : Vector Sample 18) :
    exec (.audioFrame x) s = .next (s.frame x) := by
  have hrunning : s.whenRunning (fun t => t.frame x) = s.frame x := if_neg (by simp [h])
  exact congrArg Host.Outcome.next hrunning

/-! ### How many terms a slot has -/

/-- A patch carries a talker and a mix partner at most. -/
theorem PatchRec.sources_length_le (r : PatchRec) : r.sources.length ≤ 2 := by
  have htalker : r.talker.toList.length ≤ 1 := by cases r.talker <;> simp
  have hpartner : (r.partner.map Source.console).toList.length ≤ 1 := by cases r.partner <;> simp
  unfold PatchRec.sources
  rw [List.length_append]
  omega

theorem State.relayTerms_length_le (s : State) (d : PortId) : (s.relayTerms d).length ≤ 2 := by
  unfold State.relayTerms
  split
  next n _ => rw [List.length_map]; exact (s.patch n).sources_length_le
  next => simp

theorem State.parkedTerms_length_le (s : State) (d : PortId) : (s.parkedTerms d).length ≤ 1 := by
  unfold State.parkedTerms
  split <;> simp

theorem State.portTerms_length_le (s : State) (d : PortId) : (s.portTerms d).length ≤ 2 := by
  unfold State.portTerms
  cases (s.port d).state
  case relay => exact s.relayTerms_length_le d
  case parkedRelay => exact (s.parkedTerms_length_le d).trans (by decide)
  all_goals simp

theorem State.listenTerms_length_le (s : State) (c : Console) (e : ListenEntry) : (s.listenTerms c e).length ≤ 2 := by
  unfold State.listenTerms
  rw [List.length_map]
  exact (List.length_filter_le _ _).trans (s.patch e.patch).sources_length_le

theorem State.reservedTerms_length_le (s : State) (c : Console) : (s.reservedTerms c).length ≤ 16 := by
  unfold State.reservedTerms
  rw [List.length_map]
  exact (List.length_filter_le _ _).trans (List.length_filter_le _ allPorts)

theorem State.sidetoneTerms_length_le (s : State) (c : Console) : (s.sidetoneTerms c).length ≤ 1 := by
  unfold State.sidetoneTerms
  split <;> simp

/-- A listen set in range names each of the twelve patches once at most (R140). -/
theorem ConsoleRec.listen_length_le {r : ConsoleRec} (h : r.inRange) : r.listen.length ≤ 12 := by
  obtain ⟨-, -, -, hascending, -⟩ := h
  have hdistinct : (r.listen.map ListenEntry.patch).Nodup :=
    List.pairwise_map.mpr (hascending.imp ne_of_lt)
  simpa using hdistinct.length_le_card

/-- At most two terms of each listened patch, one of each reserved port, and the sidetone. -/
theorem State.consoleTerms_length_le {s : State} {c : Console} (h : (s.console c).inRange) :
    (s.consoleTerms c).length ≤ 41 := by
  have hlisten : ((s.console c).listen.flatMap (s.listenTerms c)).length ≤ 12 * 2 := by
    calc ((s.console c).listen.flatMap (s.listenTerms c)).length
        = ((s.console c).listen.map fun e => (s.listenTerms c e).length).sum := List.length_flatMap
      _ ≤ ((s.console c).listen.map fun e => (s.listenTerms c e).length).length * 2 :=
          List.sum_le_card_nsmul _ 2 (by simp [s.listenTerms_length_le c])
      _ ≤ 12 * 2 := by
          rw [List.length_map]
          exact Nat.mul_le_mul_right 2 (ConsoleRec.listen_length_le h)
  have hreserved := s.reservedTerms_length_le c
  have hsidetone := s.sidetoneTerms_length_le c
  unfold State.consoleTerms
  simp only [List.length_append]
  omega

/-- Settles O22, from the rounding of a term, the limit of a slot, the slots of a frame and the number of their terms. -/
theorem slotsAreLimitedOnce : Obligations.SlotsAreLimitedOnce := by
  unfold Obligations.SlotsAreLimitedOnce
  refine ⟨fun x g hg => ?_, fun l => ?_, fun s x hrunning => ?_, State.portTerms_length_le,
    fun _ _ => State.consoleTerms_length_le⟩
  · obtain ⟨hbelow, habove⟩ := term_rounds x g
    obtain ⟨hlow, hhigh⟩ := term_bounds x hg
    exact ⟨hbelow, habove, hlow, hhigh, term_unity x, term_zero x⟩
  · rw [slotSample_toInt, limitSum_eq_ite]
  · exact ⟨s.frame x, exec_audioFrame hrunning x, s.frame_port x, s.frame_console x⟩

end Sys2Proof.Machine

/-! The notice unit's rules and the statement on it: the four situations of R180, one equation each, what stays of a pending set once an
entry has been read from it, and when an offer starts an alert (R183). -/

namespace Sys2Proof.Machine

/-! ### The four situations of an offer (R180) -/

theorem NoticeUnit.offer_of_disabled {u : NoticeUnit} {e : Notice} (hmask : maskEnables u.mask e.kind = false) :
    u.offer e = u := by
  unfold NoticeUnit.offer
  rw [hmask, Bool.not_false, if_pos rfl]

/-- An offer of an enabled kind is merged, dropped with OVERFLOW, or added. -/
theorem NoticeUnit.offer_of_enabled {u : NoticeUnit} {e : Notice} (hmask : maskEnables u.mask e.kind = true) :
    u.offer e = if e ∈ u.entries then u else if 32 ≤ u.entries.length then { u with overflow := true }
      else { u with entries := u.entries ++ [e] } := by
  unfold NoticeUnit.offer
  rw [hmask, Bool.not_true, if_neg Bool.false_ne_true]
  exact if_congr List.contains_iff_mem rfl rfl

theorem NoticeUnit.offer_of_pending {u : NoticeUnit} {e : Notice} (hmask : maskEnables u.mask e.kind = true)
    (hmem : e ∈ u.entries) : u.offer e = u := by
  rw [NoticeUnit.offer_of_enabled hmask, if_pos hmem]

theorem NoticeUnit.offer_of_full {u : NoticeUnit} {e : Notice} (hmask : maskEnables u.mask e.kind = true)
    (hnew : e ∉ u.entries) (hfull : 32 ≤ u.entries.length) : u.offer e = { u with overflow := true } := by
  rw [NoticeUnit.offer_of_enabled hmask, if_neg hnew, if_pos hfull]

theorem NoticeUnit.offer_of_room {u : NoticeUnit} {e : Notice} (hmask : maskEnables u.mask e.kind = true)
    (hnew : e ∉ u.entries) (hroom : u.entries.length < 32) : u.offer e = { u with entries := u.entries ++ [e] } := by
  rw [NoticeUnit.offer_of_enabled hmask, if_neg hnew, if_neg (Nat.not_le.mpr hroom)]

/-- In a bounded set an entry that is read leaves its kind enabled, none of its like behind, and room for it: the same notice offered
again is added. -/
theorem NoticeUnit.offer_after_read {u : NoticeUnit} {e : Notice} (hu : u.bounded) (hmem : e ∈ u.entries) :
    ({ u with entries := u.entries.erase e } : NoticeUnit).offer e = { u with entries := u.entries.erase e ++ [e] } := by
  obtain ⟨hlength, hnodup, henabled, -⟩ := hu
  have hroom : (u.entries.erase e).length < 32 := by
    have hpos := List.length_pos_of_mem hmem
    rw [List.length_erase_of_mem hmem]
    omega
  exact NoticeUnit.offer_of_room (henabled e hmem) hnodup.not_mem_erase hroom

/-! ### When an alert starts (R183) -/

/-- An alert that waits goes on waiting; one starts on this console's link where its set was empty and no longer is. -/
theorem State.startAlert_alertWaiting (s : State) (c d : Console) (u : NoticeUnit) :
    ((s.startAlert c u).link d).alertWaiting =
      ((s.link d).alertWaiting || (decide (d = c) && (u.entries.isEmpty && !(s.notice c).entries.isEmpty))) := by
  unfold State.startAlert
  split
  next hstart =>
    rw [State.modLink_link, hstart]
    by_cases h : d = c <;> simp [h]
  next hstart => rw [Bool.eq_false_of_not_eq_true hstart, Bool.and_false, Bool.or_false]

@[simp] theorem State.modNotice_link (s : State) (c d : Console) (f : NoticeUnit → NoticeUnit) :
    (s.modNotice c f).link d = s.link d := rfl

/-- An offer starts an alert on the link of its own console only. -/
theorem State.offer_alertWaiting (s : State) (c d : Console) (e : Notice) :
    ((s.offer c e).link d).alertWaiting = ((s.link d).alertWaiting ||
      (decide (d = c) && ((s.notice c).entries.isEmpty && !((s.notice c).offer e).entries.isEmpty))) := by
  unfold State.offer
  rw [State.startAlert_alertWaiting, State.modNotice_link, State.modNotice_notice, if_pos rfl]

/-- An offer for both consoles starts an alert on each link by that console's own set. -/
theorem State.offerBoth_alertWaiting (s : State) (e : Notice) (c : Console) :
    ((s.offerBoth e).link c).alertWaiting =
      ((s.link c).alertWaiting || ((s.notice c).entries.isEmpty && !((s.notice c).offer e).entries.isEmpty)) := by
  unfold State.offerBoth
  cases c with
  | A => simp [State.offer_alertWaiting]
  | B => simp [State.offer_alertWaiting, State.offer_notice]

/-- Settles O33, from the four situations of an offer, the bounds it keeps and the alert it starts. -/
theorem offersEnterPendingSets : Obligations.OffersEnterPendingSets := by
  unfold Obligations.OffersEnterPendingSets
  refine ⟨fun u e => ⟨NoticeUnit.offer_of_disabled, NoticeUnit.offer_of_pending, NoticeUnit.offer_of_full,
    NoticeUnit.offer_of_room, NoticeUnit.offer_bounded e, NoticeUnit.offer_after_read⟩, fun s e c => ?_⟩
  have hnotice : (s.offerBoth e).notice c = (s.notice c).offer e := s.offerBoth_notice e c
  refine ⟨hnotice, s.offerBoth_alertWaiting e c, ?_⟩
  unfold State.noticeLine
  rw [hnotice]

end Sys2Proof.Machine

/-! What every step keeps, gathered once: EventInvariant I and Invariant I list the actions of which the rows of the table and the millisecond are made,
and a property that each of them keeps is kept by every step. -/

namespace Sys2Proof.Machine

/-! ### The actions a step is made of -/

/-- A port's record may pass from r to r' by the carrier machine, the pins, the holds and the timers alone: what the arbiter, the keying
unit and the patch table read of it stays, and a masked machine that was CLEAR is CLEAR. -/
structure PortRec.QuietMove (r r' : PortRec) : Prop where
  state : r'.state = r.state
  patch : r'.patch = r.patch
  cfg : r'.cfg = r.cfg
  emergency : r'.emergency = r.emergency
  fault : r'.fault = r.fault
  maskedClear : r.maskedClear → r'.maskedClear

/-- A console's record may pass from r to r' with no change of target and no fall of its talk request. -/
structure ConsoleRec.QuietMove (r r' : ConsoleRec) : Prop where
  target : r'.target = r.target
  request : r.request = true → r'.request = true
  inRange : r.inRange → r'.inRange

/-- What changes a talk request leaves the target and the ranges of a console's record (R133). -/
structure ConsoleRec.RequestMove (f : ConsoleRec → ConsoleRec) : Prop where
  target : ∀ r, (f r).target = r.target
  inRange : ∀ r, r.inRange → (f r).inRange

/-- A link unit's queue does not grow, and its receiver keeps its bound. -/
structure LinkUnit.QuietMove (u u' : LinkUnit) : Prop where
  queue : u'.queue.length ≤ u.queue.length
  stored : u.rx.stored.length ≤ 65 → u'.rx.stored.length ≤ 65

/-- A property of the state that each action of an event keeps: resets, quiet moves, timers, requests and carrier events handed on. -/
structure EventInvariant (I : State → Prop) : Prop where
  restartFirst : ∀ {s o}, I s → I { s with restartFirst := o }
  audio : ∀ {s a b}, I s → I { s with inputs := a, outputs := b }
  assertReset : ∀ {s}, I s → I s.assertReset
  powerUp : ∀ {s}, I s → I s.powerUp
  releaseReset : ∀ {s}, I s → I s.releaseReset
  restartTakesEffect : ∀ {s}, I s → I s.restartTakesEffect
  link : ∀ {s c u}, (s.link c).QuietMove u → I s → I (s.setLink c u)
  notice : ∀ {s c u}, ((s.notice c).bounded → u.bounded) → I s → I (s.setNotice c u)
  console : ∀ {s c r}, (s.console c).QuietMove r → I s → I (s.setConsole c r)
  count : ∀ {s}, I s → I s.count
  raised : ∀ {s l}, I s → I { s with raised := l }
  write : ∀ {s p rn}, (s.port p).QuietMove rn.1 → I s → I (s.writePort p rn)
  handOn : ∀ {s} e, I s → I (s.handOn e)
  bids : ∀ {s} p, I s → I (s.portBidsIfQualified p)
  keyUpRunsOut : ∀ {s} p, I s → I (s.keyUpRunsOut p)
  transmitFault : ∀ {s} p, I s → I (s.transmitFault p)
  hangRunsOut : ∀ {s} n, I s → I (s.hangRunsOut n)
  elapsed : ∀ {s} n t k, (s.patch n).portTalker = some t → I s → I (s.modPatch n (fun r => { r with elapsed := k }))
  timesOut : ∀ {s} n t, (s.patch n).portTalker = some t → I s → I (s.timesOut n t)
  emergencySets : ∀ {s} p, I s → I (s.emergencySets p)
  emergencyClears : ∀ {s} p, I s → I (s.emergencyClears p)
  changeRequest : ∀ {s} c {f}, ConsoleRec.RequestMove f → I s → I (s.changeRequest c f)
  changeTarget : ∀ {s} c t, I s → I (s.changeTarget c t)
  linkLost : ∀ {s} c, I s → I (s.linkLost c)
  ownership : ∀ {s} n o b, (s.patch n).state ≠ .unused → I s → I (s.modPatch n (fun r => { r with owner := o, shared := b }))

/-- A property of the state that each action of the part keeps, those of the commands that pass their checks among them. -/
structure Invariant (I : State → Prop) : Prop extends EventInvariant I where
  storePort : ∀ {s} p sel, firstRefusal (setPortChecks sel) = none → I s →
    I ((s.updPort p (fun r => { r with cfg := r.cfg.store sel })).settingsChange p (s.port p))
  clearConditions : ∀ {s} p sel, I s → I ((s.updPort p (fun r => r.clearConditions sel)).conditionsClear p (s.port p))
  reserve : ∀ {s} c p, I s → I (s.reserve c p)
  releaseReservation : ∀ {s} c p, I s → I (s.releaseReservation c p)
  create : ∀ {s} c slot label ports n, firstRefusal (s.createChecks slot label ports) = none → s.freeSlot slot = some n → I s →
    I ((s.setPatch n (PatchRec.created c label)).joinAll n (portsOf ports))
  add : ∀ {s} c n ports, firstRefusal (s.addChecks c n ports) = none → I s → I (s.joinAll n (portsOf ports))
  remove : ∀ {s} c n ports, firstRefusal (s.removeChecks c n ports) = none → I s → I (s.leaveAll n (portsOf ports) c)
  move : ∀ {s} c p n d, (s.port p).patch = some n → firstRefusal (s.moveChecks c n d) = none → I s →
    I ((s.leaveAll n [p] c).join d p)
  merge : ∀ {s} c a b, firstRefusal (s.mergeChecks c a b) = none → I s → I (s.merge c a b)
  storePatch : ∀ {s} c n sel, firstRefusal (s.setPatchChecks c n sel) = none → I s →
    I (((s.modPatch n (fun r => r.store sel)).modeChanges n (s.patch n).mode).styleChanges n (s.patch n).style)
  dissolve : ∀ {s} c n kind, firstRefusal (s.dissolveChecks c n kind) = none → I s → I (s.dissolve c n kind)

/-! ### Quiet moves of a port's record -/

theorem PortRec.QuietMove.refl (r : PortRec) : r.QuietMove r := ⟨rfl, rfl, rfl, rfl, rfl, id⟩

theorem PortRec.QuietMove.trans {a b c : PortRec} (h : a.QuietMove b) (k : b.QuietMove c) : a.QuietMove c where
  state := k.state.trans h.state
  patch := k.patch.trans h.patch
  cfg := k.cfg.trans h.cfg
  emergency := k.emergency.trans h.emergency
  fault := k.fault.trans h.fault
  maskedClear m := k.maskedClear (h.maskedClear m)

/-- The carrier machine's own move, on a record whose masked machine stays CLEAR. -/
theorem PortRec.QuietMove.of_carrier {r : PortRec} {c : CarrierState} {q d : Nat}
    (h : r.maskedClear → r.masked = true → c = .clear) :
    r.QuietMove { r with carrier := c, qualifyLeft := q, dropLeft := d } :=
  ⟨rfl, rfl, rfl, rfl, rfl, h⟩

theorem PortRec.quiet_corAsserts {r : PortRec} (h : r.masked = false) : r.QuietMove r.corAsserts.1 := by
  rw [PortRec.corAsserts_frame]
  exact .of_carrier (fun _ hm => by rw [h] at hm; cases hm)

theorem PortRec.corDeasserts_frame (r : PortRec) :
    r.corDeasserts.1 = { r with
      carrier := r.corDeasserts.1.carrier, qualifyLeft := r.corDeasserts.1.qualifyLeft, dropLeft := r.corDeasserts.1.dropLeft } := by
  unfold PortRec.corDeasserts; split
  · rfl
  · split <;> rfl
  all_goals rfl

theorem PortRec.quiet_corDeasserts {r : PortRec} (h : r.masked = false) : r.QuietMove r.corDeasserts.1 := by
  rw [PortRec.corDeasserts_frame]
  exact .of_carrier (fun _ hm => by rw [h] at hm; cases hm)

theorem PortRec.quiet_qualifyExpires (r : PortRec) : r.QuietMove r.qualifyExpires.1 := by
  refine ⟨?_, ?_, ?_, ?_, ?_, PortRec.qualifyExpires_maskedClear⟩ <;> unfold PortRec.qualifyExpires <;> split <;> rfl

theorem PortRec.quiet_dropExpires (r : PortRec) : r.QuietMove r.dropExpires.1 := by
  refine ⟨?_, ?_, ?_, ?_, ?_, PortRec.dropExpires_maskedClear⟩ <;> unfold PortRec.dropExpires <;> split <;> rfl

theorem PortRec.quiet_maskEnds {r : PortRec} (h : r.masked = false) : r.QuietMove r.maskEnds.1 := by
  unfold PortRec.maskEnds
  split
  · exact PortRec.quiet_corAsserts h
  · exact .refl r

theorem PortRec.quiet_takeFilteredCor (r : PortRec) (v : Bool) : r.QuietMove (r.takeFilteredCor v).1 := by
  have taken : r.QuietMove { r with filteredCor := v, corHold := 0 } := ⟨rfl, rfl, rfl, rfl, rfl, id⟩
  unfold PortRec.takeFilteredCor
  simp only []
  split
  · exact taken
  · rename_i h
    have hm : r.masked = false := by simpa using (not_or.mp h).2
    split
    · exact taken.trans (PortRec.quiet_corAsserts (r := { r with filteredCor := v, corHold := 0 }) hm)
    · exact taken.trans (PortRec.quiet_corDeasserts (r := { r with filteredCor := v, corHold := 0 }) hm)

theorem PortRec.quiet_conditionCor (r : PortRec) (old : Bool) : r.QuietMove (r.conditionCor old).1 := by
  unfold PortRec.conditionCor
  split
  · exact ⟨rfl, rfl, rfl, rfl, rfl, id⟩
  · exact PortRec.quiet_takeFilteredCor r _

theorem PortRec.quiet_corPinTo (r : PortRec) (l : Level) : r.QuietMove (r.corPinTo l).1 :=
  have pinned : r.QuietMove { r with corPin := l } := ⟨rfl, rfl, rfl, rfl, rfl, id⟩
  pinned.trans (PortRec.quiet_conditionCor _ _)

theorem PortRec.quiet_txsTo (r : PortRec) (l : Level) : r.QuietMove (r.txsTo l) := by
  unfold PortRec.txsTo
  simp only []
  split
  · exact ⟨rfl, rfl, rfl, rfl, rfl, id⟩
  · split
    · split <;> exact ⟨rfl, rfl, rfl, rfl, rfl, id⟩
    · split <;> exact ⟨rfl, rfl, rfl, rfl, rfl, id⟩

/-- A guard that ends may end masking and never begins it. -/
theorem PortRec.quiet_unguard (r : PortRec) : r.QuietMove { r with guardLeft := 0 } :=
  ⟨rfl, rfl, rfl, rfl, rfl, fun h hm => h (by
    simp only [PortRec.masked, PortRec.ptt, PortRec.parkedKeyed] at hm ⊢
    simp_all)⟩

/-! ### Checks that pass (R45) -/

@[simp] theorem firstRefusal_nil : firstRefusal [] = none := rfl

@[simp] theorem firstRefusal_cons (o : Option Response) (l : List (Option Response)) :
    firstRefusal (o :: l) = none ↔ o = none ∧ firstRefusal l = none := by
  cases o <;> simp [firstRefusal]

@[simp] theorem check_eq_none {b : Bool} {r : Response} : check b r = none ↔ b = false := by
  cases b <;> simp [check]

@[simp] theorem PatchRec.inUse_iff (r : PatchRec) : r.inUse = true ↔ r.state ≠ .unused := by
  simp [PatchRec.inUse]

@[simp] theorem State.notInUse_eq_none {s : State} {n : SlotId} : s.notInUse n = none ↔ (s.patch n).state ≠ .unused := by
  simp [State.notInUse]

/-! ### Notices, settings and listen sets within their bounds -/

theorem highestNotice_mem {l : List Notice} {e : Notice} (h : highestNotice l = some e) : e ∈ l := by
  induction l generalizing e with
  | nil => cases h
  | cons a l ih =>
    unfold highestNotice at h
    split at h
    · rename_i b hb
      split at h
      · exact Option.some.inj h ▸ List.mem_cons_of_mem _ (ih hb)
      · exact Option.some.inj h ▸ List.mem_cons_self
    · exact Option.some.inj h ▸ List.mem_cons_self

theorem NoticeUnit.readOne_bounded {u : NoticeUnit} (h : u.bounded) : u.readOne.bounded := by
  obtain ⟨hlength, hnodup, henabled, hmask⟩ := h
  unfold NoticeUnit.readOne
  split
  · rename_i e _
    exact ⟨(List.length_erase_le).trans hlength, hnodup.erase e, fun x hx => henabled x (List.mem_of_mem_erase hx), hmask⟩
  · exact ⟨hlength, hnodup, henabled, hmask⟩

/-- A mask is stored with bit 7 set (R181). -/
theorem storedMask_bit7 (b : Byte) : (storedMask b).getLsbD 7 = true := by
  simp [storedMask]

theorem NoticeUnit.maskWith_bounded {u : NoticeUnit} (m : Option Byte) (h : u.bounded) : (u.maskWith m).bounded := by
  obtain ⟨hlength, hnodup, henabled, hmask⟩ := h
  cases m with
  | none => exact ⟨hlength, hnodup, henabled, hmask⟩
  | some b =>
    exact ⟨(List.length_filter_le _ _).trans hlength, hnodup.filter _, fun e he => (List.mem_filter.mp he).2, storedMask_bit7 b⟩

/-- A value stored at most at its limit (R20). -/
theorem storeUpTo_le {limit present : Nat} (sel : Option Nat) (h : present ≤ limit) : storeUpTo limit sel present ≤ limit := by
  cases sel with
  | none => exact h
  | some v => exact Nat.min_le_right _ _

theorem entryFor_some {es : List ListenArg} {n : SlotId} {e : ListenEntry} (h : entryFor es n = some e) :
    e.patch = n ∧ e.level ≤ 1023 := by
  obtain ⟨a, _, rfl⟩ := Option.map_eq_some_iff.mp h
  exact ⟨rfl, Nat.min_le_right _ _⟩

theorem listenSet_levels (es : List ListenArg) : ∀ e ∈ listenSet es, e.level ≤ 1023 := by
  intro e he
  obtain ⟨n, _, hn⟩ := List.mem_filterMap.mp he
  exact (entryFor_some hn).2

theorem listenSet_ascends (es : List ListenArg) : (listenSet es).Pairwise (fun a b => a.patch < b.patch) := by
  have slots : allSlots.Pairwise (· < ·) := by decide
  refine List.Pairwise.filterMap _ (fun n m hnm a ha b hb => ?_) slots
  rw [(entryFor_some ha).1, (entryFor_some hb).1]
  exact hnm

/-! ### Actions made of quiet moves -/

theorem State.due_keeps {I : State → Prop} {s : State} {b : Bool} {f : State → State} (hf : ∀ {t}, I t → I (f t)) (i : I s) :
    I (s.due b f) := by
  unfold State.due
  split
  · exact hf i
  · exact i

theorem foldl_keeps {I : State → Prop} {s : State} {α : Type} {f : State → α → State} (hf : ∀ {t} a, I t → I (f t a))
    (l : List α) (i : I s) : I (l.foldl f s) := by
  induction l generalizing s with
  | nil => exact i
  | cons a l ih => exact ih (hf a i)

theorem State.checked_keeps {I : State → Prop} {s : State} {checks : List (Option Response)} {act : State → State × Response}
    (ha : firstRefusal checks = none → I (act s).1) (i : I s) : I (s.checked checks act).1 := by
  unfold State.checked
  split
  · exact i
  · rename_i hc; exact ha hc

theorem State.onPort_keeps {I : State → Prop} {s : State} {k : Nat} {r : Response} {act : PortId → State × Response} (ha : ∀ p, I (act p).1) (i : I s) :
    I (s.onPort k r act).1 := by
  unfold State.onPort
  split
  · exact ha _
  · exact i

theorem State.onPatch_keeps {I : State → Prop} {s : State} {k : Nat} {r : Response} {act : SlotId → State × Response} (ha : ∀ n, I (act n).1) (i : I s) :
    I (s.onPatch k r act).1 := by
  unfold State.onPatch
  split
  · exact ha _
  · exact i

namespace EventInvariant

variable {I : State → Prop} (h : EventInvariant I) {s : State}
include h

theorem modLink {c : Console} {f : LinkUnit → LinkUnit} (hq : (s.link c).QuietMove (f (s.link c))) (i : I s) :
    I (s.modLink c f) := h.link hq i

theorem modNotice {c : Console} {f : NoticeUnit → NoticeUnit} (hb : (s.notice c).bounded → (f (s.notice c)).bounded) (i : I s) :
    I (s.modNotice c f) := h.notice hb i

theorem modConsole {c : Console} {f : ConsoleRec → ConsoleRec} (hq : (s.console c).QuietMove (f (s.console c))) (i : I s) :
    I (s.modConsole c f) := h.console hq i

theorem setPort {p : PortId} {r : PortRec} (hq : (s.port p).QuietMove r) (i : I s) : I (s.setPort p r) := by
  rw [← State.writePort_quiet]
  exact h.write hq i

/-- A request that leaves what the other blocks read, and the carrier to its machine. -/
theorem updPort {p : PortId} {f : PortRec → PortRec} (hq : (s.port p).QuietMove (f (s.port p)))
    (hc : (f (s.port p)).carrier = (s.port p).carrier) (i : I s) : I (s.updPort p f) := by
  have hm : (s.port p).QuietMove (PortRec.remask (s.port p) (f (s.port p))).1 :=
    ⟨by simp [hq.state], by simp [hq.patch], by simp [hq.cfg], by simp [hq.emergency], by simp [hq.fault],
      PortRec.remask_maskedClear hc⟩
  rcases s.updPort_cases p f with e | ⟨_, e⟩ <;> rw [e]
  · exact h.write hm i
  · exact h.raised (h.setPort hm i)

theorem offer (c : Console) (e : Notice) (i : I s) : I (s.offer c e) := by
  unfold State.offer State.startAlert
  have offered := h.modNotice (s := s) (c := c) (f := fun u => u.offer e) (NoticeUnit.offer_bounded e) i
  split
  · exact h.modLink ⟨le_rfl, id⟩ offered
  · exact offered

theorem offerBoth (e : Notice) (i : I s) : I (s.offerBoth e) := h.offer .B e (h.offer .A e i)

theorem settle (i : I s) : I s.settle := by
  have all : ∀ (k : Nat) (t : State), I t → I (settleN k t) := by
    intro k
    induction k with
    | zero => exact fun _ it => it
    | succ k ih =>
      intro t it
      unfold settleN
      split
      · exact it
      · exact ih _ (h.handOn _ (h.raised it))
  exact all _ s i

/-! ### Inputs -/

theorem emgChanges (p : PortId) (v : Bool) (i : I s) : I (s.emgChanges p v) := by
  unfold State.emgChanges
  split
  · split
    · exact h.offerBoth _ i
    · exact h.emergencySets p i
  · exact i
  · split
    · exact h.offerBoth _ i
    · exact h.emergencySets p i
  · split
    · exact h.emergencyClears p i
    · exact i

theorem takeFilteredEmg (p : PortId) (v : Bool) (i : I s) : I (s.takeFilteredEmg p v) := by
  have taken : I (s.updPort p (fun r => { r with filteredEmg := v, emgHold := 0 })) :=
    h.updPort ⟨rfl, rfl, rfl, rfl, rfl, id⟩ rfl i
  unfold State.takeFilteredEmg
  simp only []
  split
  · exact taken
  · exact h.emgChanges p v taken

theorem conditionEmg (p : PortId) (old : Bool) (i : I s) : I (s.conditionEmg p old) := by
  unfold State.conditionEmg
  split
  · exact h.updPort ⟨rfl, rfl, rfl, rfl, rfl, id⟩ rfl i
  · exact h.takeFilteredEmg p _ i

theorem emgModeChanges (p : PortId) (old : EmgMode) (i : I s) : I (s.emgModeChanges p old) := by
  unfold State.emgModeChanges
  split
  · split
    · exact i
    · split
      · exact h.emergencySets p i
      · exact h.emergencyClears p i
  · exact i

theorem filterRunsOut (p : PortId) (input : FilterInput) (i : I s) : I (s.filterRunsOut p input) := by
  cases input with
  | cor => exact h.write (PortRec.quiet_takeFilteredCor _ _) i
  | emg => exact h.takeFilteredEmg p _ i

theorem guardRunsOut (p : PortId) (i : I s) : I (s.guardRunsOut p) := by
  unfold State.guardRunsOut
  split
  · rename_i hg
    simp only [Bool.and_eq_true, Bool.not_eq_true'] at hg
    exact h.write (PortRec.quiet_maskEnds hg.1) i
  · exact i

theorem silenceRunsOut (c : Console) (i : I s) : I (s.silenceRunsOut c) := by
  unfold State.silenceRunsOut
  split
  · exact h.linkLost c (h.modConsole (c := c) (f := fun r => { r with silence := 0 }) ⟨rfl, id, id⟩ i)
  · exact i

theorem pttFilterRunsOut (c : Console) (i : I s) : I (s.pttFilterRunsOut c) := h.changeRequest c ⟨fun _ => rfl, fun _ => id⟩ i

end EventInvariant

namespace Invariant

variable {I : State → Prop} (h : Invariant I) {s : State}
include h

/-! ### Commands -/

theorem restart (c : Console) (i : I s) : I (doRestart c s).1 := by
  unfold doRestart
  split
  · exact i
  · exact h.restartFirst (h.modLink ⟨le_rfl, id⟩ i)

theorem setLink (c : Console) (t : Option Nat) (m : Option Byte) (i : I s) : I (doSetLink c t m s).1 := by
  refine h.modNotice (f := fun u => u.maskWith m) (NoticeUnit.maskWith_bounded m)
    (h.modConsole (s := s) (c := c) (f := fun r => r.superviseFor t) ?_ i)
  · cases t with
    | none => exact ⟨rfl, id, id⟩
    | some v => exact ⟨rfl, id, fun ⟨_, hr⟩ => ⟨Nat.min_le_right _ _, hr⟩⟩

theorem readNotice (c : Console) (i : I s) : I (doReadNotice c s).1 :=
  h.modNotice NoticeUnit.readOne_bounded i

theorem setConsole (c : Console) (m t : Option Nat) (i : I s) : I (doSetConsole c m t s).1 :=
  h.modConsole (c := c) (f := fun r => { r with
      micTrim := storeUpTo Config.maxGain m r.micTrim, sidetone := storeUpTo Config.maxGain t r.sidetone })
    ⟨rfl, id, fun ⟨hs, hm, ht, hl⟩ => ⟨hs, storeUpTo_le m hm, storeUpTo_le t ht, hl⟩⟩ i

theorem setListen (c : Console) (es : List ListenArg) (i : I s) : I (doSetListen c es s).1 :=
  State.checked_keeps (fun _ => h.modConsole (c := c) (f := fun r => { r with listen := listenSet es }) ⟨rfl, id, 
    fun ⟨hs, hm, ht, _, _⟩ => ⟨hs, hm, ht, listenSet_ascends es, listenSet_levels es⟩⟩ i) i

theorem setTalkTarget (c : Console) (k n : Nat) (i : I s) : I (doSetTalkTarget c k n s).1 := by
  unfold doSetTalkTarget
  split
  · exact i
  · exact h.settle (h.changeTarget c _ i)

theorem reservePort (c : Console) (k : Nat) (i : I s) : I (doReservePort c k s).1 := by
  refine State.onPort_keeps (fun p => ?_) i
  split
  · exact i
  · split
    · exact i
    · split
      · exact i
      · exact h.settle (h.reserve c p i)

theorem releasePort (c : Console) (k : Nat) (i : I s) : I (doReleasePort c k s).1 := by
  refine State.onPort_keeps (fun p => ?_) i
  split
  · exact i
  · split
    · exact h.settle (h.releaseReservation c p i)
    · exact i

theorem createPatch (c : Console) (slot : Nat) (label : List Byte) (ports : List Nat) (i : I s) :
    I (doCreatePatch c slot label ports s).1 := by
  refine State.checked_keeps (fun hc => ?_) i
  split
  · rename_i n hn; exact h.settle (h.create c slot label ports n hc hn i)
  · exact i

theorem moveMember (c : Console) (port dest : Nat) (i : I s) : I (doMoveMember c port dest s).1 := by
  refine State.onPort_keeps (fun p => State.onPatch_keeps (fun d => ?_) i) i
  split
  · exact i
  · rename_i n hn; exact State.checked_keeps (fun hc => h.settle (h.move c p n d hn hc i)) i

theorem setSharing (c : Console) (k v : Nat) (i : I s) : I (doSetSharing c k v s).1 :=
  State.onPatch_keeps (fun n => State.checked_keeps (fun hc => by
    simp only [firstRefusal_cons, check_eq_none, Bool.not_eq_false', PatchRec.inUse_iff] at hc
    exact h.ownership n (s.patch n).owner (v == 1) hc.2.1 i) i) i

theorem takeOver (c : Console) (k : Nat) (i : I s) : I (doTakeOver c k s).1 :=
  State.onPatch_keeps (fun n => State.checked_keeps (fun hc => by
    simp only [firstRefusal_cons, check_eq_none, Bool.not_eq_false', PatchRec.inUse_iff] at hc
    have taken : (s.patch n).takenBy c = { s.patch n with
        owner := ((s.patch n).takenBy c).owner, shared := ((s.patch n).takenBy c).shared } := by
      unfold PatchRec.takenBy; split <;> rfl
    have kept := h.ownership n ((s.patch n).takenBy c).owner ((s.patch n).takenBy c).shared hc.1 i
    show I (s.setPatch n ((s.patch n).takenBy c))
    rw [taken]
    exact kept) i) i

/-- What a good frame asks for keeps every invariant. -/
theorem runRequest (c : Console) (r : Request) (i : I s) : I (Machine.runRequest c r s).1 := by
  cases r with
  | queryUnit => exact i
  | restart => exact h.restart c i
  | setLink t m => exact h.setLink c t m i
  | readNotice => exact h.readNotice c i
  | setPort k sel => exact State.onPort_keeps (fun p => State.checked_keeps (fun hc => h.settle (h.storePort p sel hc i)) i) i
  | queryPort k => exact State.onPort_keeps (fun _ => i) i
  | clearPortConditions k sel => exact State.onPort_keeps (fun p => h.settle (h.clearConditions p sel i)) i
  | reservePort k => exact h.reservePort c k i
  | releasePort k => exact h.releasePort c k i
  | createPatch n l ps => exact h.createPatch c n l ps i
  | addMembers n ps => exact State.onPatch_keeps (fun n => State.checked_keeps (fun hc => h.settle (h.add c n ps hc i)) i) i
  | removeMembers n ps => exact State.onPatch_keeps (fun n => State.checked_keeps (fun hc => h.settle (h.remove c n ps hc i)) i) i
  | moveMember p n => exact h.moveMember c p n i
  | mergePatches a b => exact State.onPatch_keeps (fun a => State.onPatch_keeps (fun b => State.checked_keeps (fun hc => h.settle (h.merge c a b hc i)) i) i) i
  | setPatch n sel => exact State.onPatch_keeps (fun n => State.checked_keeps (fun hc => h.settle (h.storePatch c n sel hc i)) i) i
  | dissolve n k => exact State.onPatch_keeps (fun n => State.checked_keeps (fun hc => h.settle (h.dissolve c n k hc i)) i) i
  | queryPatch n => exact State.onPatch_keeps (fun n => State.checked_keeps (fun _ => i) i) i
  | listPatches => exact i
  | setSharing n v => exact h.setSharing c n v i
  | takeOver n => exact h.takeOver c n i
  | setConsole m t => exact h.setConsole c m t i
  | setListen es => exact h.setListen c es i
  | setTalkTarget k n => exact h.setTalkTarget c k n i
  | seize => exact h.settle (h.changeRequest c ⟨fun _ => rfl, fun _ => id⟩ i)
  | unseize => exact h.settle (h.changeRequest c ⟨fun _ => rfl, fun _ => id⟩ i)

/-! ### Frames -/

theorem closeFrame (c : Console) (i : I s) : I (s.closeFrame c) :=
  h.modLink ⟨le_rfl, fun _ => Nat.zero_le _⟩ i

theorem linkHeard (c : Console) (i : I s) : I (s.linkHeard c) :=
  h.modConsole ⟨rfl, by
    intro hr
    simp only [ConsoleRec.request, Bool.or_eq_true, Bool.and_eq_true] at hr ⊢
    exact hr.imp_left (fun hr => ⟨rfl, hr.2⟩), id⟩ i

end Invariant

end Sys2Proof.Machine

/-! Within s t: from s to t no record leaves its bounds. Settings stay in their ranges, a masked machine stays CLEAR, queues, receivers and
pending sets keep their limits. It is reflexive and transitive, and every action of the part is Within. -/

namespace Sys2Proof.Machine

structure Within (s t : State) : Prop where
  masked : ∀ p, (s.port p).maskedClear → (t.port p).maskedClear
  cfg : ∀ p, (s.port p).cfg.inRange → (t.port p).cfg.inRange
  patches : ∀ n, (s.patch n).inRange → (t.patch n).inRange
  consoles : ∀ c, (s.console c).inRange → (t.console c).inRange
  links : ∀ c, (s.link c).QuietMove (t.link c)
  notices : ∀ c, (s.notice c).bounded → (t.notice c).bounded
  pending : t.pending = s.pending

theorem LinkUnit.QuietMove.refl (u : LinkUnit) : u.QuietMove u := ⟨le_rfl, id⟩

theorem Within.refl (s : State) : Within s s :=
  ⟨fun _ => id, fun _ => id, fun _ => id, fun _ => id, fun _ => .refl _, fun _ => id, rfl⟩

theorem Within.trans {s t u : State} (h : Within s t) (k : Within t u) : Within s u where
  masked p m := k.masked p (h.masked p m)
  cfg p m := k.cfg p (h.cfg p m)
  patches n m := k.patches n (h.patches n m)
  consoles c m := k.consoles c (h.consoles c m)
  links c := ⟨(k.links c).queue.trans (h.links c).queue, fun m => (k.links c).stored ((h.links c).stored m)⟩
  notices c m := k.notices c (h.notices c m)
  pending := k.pending.trans h.pending

/-! ### The primitive updates -/

theorem PatchRec.unused_inRange : PatchRec.unused.inRange := by decide

theorem within_setPort {s : State} {p : PortId} {r : PortRec} (hm : (s.port p).maskedClear → r.maskedClear)
    (hc : (s.port p).cfg.inRange → r.cfg.inRange) : Within s (s.setPort p r) :=
  { Within.refl s with
    masked := fun q h => by
      rw [State.setPort_port]; split
      next e => rw [e] at h; exact hm h
      next => exact h
    cfg := fun q h => by
      rw [State.setPort_port]; split
      next e => rw [e] at h; exact hc h
      next => exact h }

theorem within_setPatch {s : State} {n : SlotId} {r : PatchRec} (hr : (s.patch n).inRange → r.inRange) : Within s (s.setPatch n r) :=
  { Within.refl s with
    patches := fun m h => by
      rw [State.setPatch_patch]; split
      next e => rw [e] at h; exact hr h
      next => exact h }

theorem within_setConsole {s : State} {c : Console} {r : ConsoleRec} (hr : (s.console c).inRange → r.inRange) :
    Within s (s.setConsole c r) :=
  { Within.refl s with
    consoles := fun d h => by
      rw [State.setConsole_console]; split
      next e => rw [e] at h; exact hr h
      next => exact h }

theorem within_setLink {s : State} {c : Console} {u : LinkUnit} (hu : (s.link c).QuietMove u) : Within s (s.setLink c u) :=
  { Within.refl s with
    links := fun d => by
      rw [State.setLink_link]; split
      next e => rw [e]; exact hu
      next => exact .refl _ }

theorem within_setNotice {s : State} {c : Console} {u : NoticeUnit} (hu : (s.notice c).bounded → u.bounded) :
    Within s (s.setNotice c u) :=
  { Within.refl s with
    notices := fun d h => by
      rw [State.setNotice_notice]; split
      next e => rw [e] at h; exact hu h
      next => exact h }

theorem within_raised (s : State) (l : List CarrierEvent) : Within s { s with raised := l } := { Within.refl s with }

theorem within_modPatch {s : State} {n : SlotId} {f : PatchRec → PatchRec} (hf : (s.patch n).inRange → (f (s.patch n)).inRange) :
    Within s (s.modPatch n f) := within_setPatch hf

theorem within_modConsole {s : State} {c : Console} {f : ConsoleRec → ConsoleRec}
    (hf : (s.console c).inRange → (f (s.console c)).inRange) : Within s (s.modConsole c f) := within_setConsole hf

theorem within_writePort {s : State} {p : PortId} {rn : PortRec × List CarrierNews} (hm : (s.port p).maskedClear → rn.1.maskedClear)
    (hc : (s.port p).cfg.inRange → rn.1.cfg.inRange) : Within s (s.writePort p rn) :=
  (within_setPort hm hc).trans (within_raised _ _)

/-- A request that leaves the carrier to its machine. -/
theorem within_updPort {s : State} {p : PortId} {f : PortRec → PortRec} (hc : (f (s.port p)).carrier = (s.port p).carrier)
    (hr : (s.port p).cfg.inRange → (f (s.port p)).cfg.inRange) : Within s (s.updPort p f) := by
  have hr' : (s.port p).cfg.inRange → (PortRec.remask (s.port p) (f (s.port p))).1.cfg.inRange := by
    rw [PortRec.remask_cfg]; exact hr
  rcases s.updPort_cases p f with e | ⟨_, e⟩ <;> rw [e]
  · exact within_writePort (PortRec.remask_maskedClear hc) hr'
  · exact (within_setPort (PortRec.remask_maskedClear hc) hr').trans (within_raised _ _)

theorem within_offer (s : State) (c : Console) (e : Notice) : Within s (s.offer c e) := by
  unfold State.offer State.startAlert
  have offered : Within s (s.modNotice c (fun u => u.offer e)) := within_setNotice (NoticeUnit.offer_bounded e)
  split
  · exact offered.trans (within_setLink ⟨le_rfl, id⟩)
  · exact offered

theorem within_offerBoth (s : State) (e : Notice) : Within s (s.offerBoth e) := (within_offer s .A e).trans (within_offer _ .B e)

theorem within_offerRetired (s : State) (n : SlotId) (but : Option Console) : Within s (s.offerRetired n but) := by
  unfold State.offerRetired
  simp only []
  split <;> split
  · exact .refl s
  · exact within_offer _ _ _
  · exact within_offer _ _ _
  · exact (within_offer _ _ _).trans (within_offer _ _ _)

theorem within_ite {s t u : State} {b : Prop} [Decidable b] (ht : b → Within s t) (hu : ¬ b → Within s u) :
    Within s (if b then t else u) := by
  split
  next hb => exact ht hb
  next hb => exact hu hb

theorem within_foldl {α : Type} {f : State → α → State} (hf : ∀ s a, Within s (f s a)) (l : List α) (s : State) :
    Within s (l.foldl f s) :=
  foldl_keeps (I := Within s) (fun a h => h.trans (hf _ a)) l (.refl s)

/-! ### The keying unit -/

theorem PortRec.keyInto_cfg (r : PortRec) (up on : PortState) : (r.keyInto up on).cfg = r.cfg :=
  PortRec.fixedPart_cfg (r.keyInto_fixed up on)

theorem within_keyInto (s : State) (p : PortId) (up on : PortState) : Within s (s.updPort p (fun r => r.keyInto up on)) :=
  within_updPort (PortRec.keyInto_carrier _ _ _) (fun h => by rw [PortRec.keyInto_cfg]; exact h)

theorem within_applyKey (s : State) (p : PortId) (d : KeyDecision) : Within s (s.applyKey p d) := by
  cases d with
  | key => exact within_keyInto s p _ _
  | unkey => exact within_updPort (f := fun r => r.unkeyInto .idle) rfl id
  | leave => exact .refl s

theorem within_evalPatch (s : State) (n : SlotId) : Within s (s.evalPatch n) :=
  within_foldl (f := fun acc p => acc.applyKey p (s.keyDecision n p)) (fun _ _ => within_applyKey _ _ _) _ _

theorem within_unkeyParked (s : State) (p : PortId) : Within s (s.unkeyParked p) := within_updPort rfl id

theorem within_evalParked (s : State) (p : PortId) : Within s (s.evalParked p) := by
  unfold State.evalParked
  split
  · split
    · exact within_keyInto s p _ _
    · exact .refl s
  · split
    · split
      · exact .refl s
      · exact within_unkeyParked s p
    · exact .refl s

theorem within_evalPort (s : State) (p : PortId) : Within s (s.evalPort p) := by
  unfold State.evalPort
  split
  · exact within_evalParked s p
  · split
    · exact within_applyKey _ _ _
    · exact .refl s

theorem within_keyUpRunsOut (s : State) (p : PortId) : Within s (s.keyUpRunsOut p) := by
  unfold State.keyUpRunsOut
  split
  · exact within_updPort rfl id
  · exact within_updPort rfl id
  · exact .refl s

theorem within_transmitFault (s : State) (p : PortId) : Within s (s.transmitFault p) := by
  unfold State.transmitFault
  exact Within.trans (within_updPort rfl id) (within_offerBoth _ _)

theorem within_unkeyIfRelaying (s : State) (p : PortId) : Within s (s.unkeyIfRelaying p) := by
  unfold State.unkeyIfRelaying
  split
  · exact within_updPort rfl id
  · exact .refl s

/-! ### The arbiter -/

theorem within_grant (s : State) (n : SlotId) (src : Source) : Within s (s.grant n src) := by
  unfold State.grant
  refine Within.trans ?_ (within_offerBoth _ _)
  cases src with
  | port p => exact Within.trans (within_modPatch fun h => h) (within_updPort (p := p) rfl id)
  | console c => exact within_modPatch fun h => h

theorem within_dropTalker (s : State) (n : SlotId) : Within s (s.dropTalker n) := by
  have dropped : Within s (s.modPatch n (fun r => { r with talker := none, limit := none })) := within_modPatch id
  unfold State.dropTalker State.idleTalker
  refine dropped.trans ?_
  split
  · split
    · exact within_updPort rfl id
    · exact .refl _
  · exact .refl _

theorem within_preempt (s : State) (n : SlotId) (src : Source) (t : PortId) : Within s (s.preempt n src t) := by
  unfold State.preempt
  simp only []
  refine Within.trans ?_ (within_offerBoth _ _)
  exact Within.trans ((within_dropTalker s n).trans (within_grant _ _ _)) (within_modPatch fun h => h)

theorem within_bidOnTalk (s : State) (n : SlotId) (src : Source) : Within s (s.bidOnTalk n src) := by
  have listed : Within s (s.listBid n src) := within_modPatch id
  unfold State.bidOnTalk
  split
  · split
    · exact within_preempt _ _ _ _
    · exact listed
  · exact listed
  · split
    · exact within_modPatch id
    · exact listed
  · exact listed

theorem within_takeBid (s : State) (n : SlotId) (src : Source) : Within s (s.takeBid n src) := by
  unfold State.takeBid
  split
  · exact within_grant _ _ _
  · exact within_grant _ _ _
  · exact within_bidOnTalk _ _ _
  · exact .refl s
  · exact .refl s

theorem within_portBids (s : State) (p : PortId) : Within s (s.portBids p) := by
  unfold State.portBids
  split
  · exact (within_takeBid _ _ _).trans (within_evalPatch _ _)
  · exact .refl s

theorem within_portBidsIfQualified (s : State) (p : PortId) : Within s (s.portBidsIfQualified p) := by
  unfold State.portBidsIfQualified
  split
  · exact within_portBids s p
  · exact .refl s

theorem within_consoleBids (s : State) (c : Console) (n : SlotId) : Within s (s.consoleBids c n) := by
  unfold State.consoleBids
  split
  · exact (within_takeBid _ _ _).trans (within_evalPatch _ _)
  · exact .refl s

/-- A console that forgets a patch keeps its listen set in order (R140). -/
theorem ConsoleRec.forgetPatch_inRange {r : ConsoleRec} (n : SlotId) (h : r.inRange) : (r.forgetPatch n).inRange :=
  ⟨h.1, h.2.1, h.2.2.1, h.2.2.2.1.filter _, fun e he => h.2.2.2.2 e (List.mem_filter.mp he).1⟩

theorem within_leaveFold (l : List PortId) (s : State) : Within s (l.foldl (fun a p => a.updPort p PortRec.leavePatch) s) :=
  within_foldl (f := fun a p => a.updPort p PortRec.leavePatch) (fun _ _ => within_updPort (PortRec.leavePatch_carrier _)
    (fun h => by rw [PortRec.fixedPart_cfg (PortRec.leavePatch_fixed _)]; exact h)) l s

theorem within_retire (s : State) (n : SlotId) (but : Option Console) : Within s (s.retire n but) := by
  unfold State.retire
  refine Within.trans ?_ (within_offerRetired _ _ _)
  refine Within.trans ?_ (within_setPatch (fun _ => PatchRec.unused_inRange))
  refine Within.trans ?_ (within_modConsole (ConsoleRec.forgetPatch_inRange n))
  refine Within.trans ?_ (within_modConsole (ConsoleRec.forgetPatch_inRange n))
  refine Within.trans ?_ (within_leaveFold _ _)
  exact Within.trans (within_modPatch id) (within_foldl within_unkeyIfRelaying _ _)

theorem within_release (s : State) (n : SlotId) (but : Option Console) : Within s (s.release n but) := by
  unfold State.release
  simp only []
  split
  · exact (within_dropTalker _ _).trans (within_retire _ _ _)
  · refine (within_dropTalker s n).trans ?_
    unfold State.releaseOutcome
    split
    · exact within_grant _ _ _
    · exact within_grant _ _ _
    · exact within_modPatch (fun h => by split <;> exact h)

theorem within_withdraw (s : State) (n : SlotId) (src : Source) : Within s (s.withdraw n src) := within_modPatch id

theorem within_vacatePartner (s : State) (n : SlotId) : Within s (s.modPatch n PatchRec.vacatePartner) :=
  within_modPatch (fun h => by unfold PatchRec.vacatePartner; split <;> exact h)

theorem within_consoleLeaves (s : State) (c : Console) (n : SlotId) : Within s (s.consoleLeaves c n) := by
  unfold State.consoleLeaves
  refine Within.trans ?_ (within_evalPatch _ _)
  split
  · exact within_release _ _ _
  · split
    · exact within_vacatePartner s n
    · split
      · exact within_withdraw _ _ _
      · exact .refl s

theorem within_checkEmergency (s : State) (n : SlotId) (p : PortId) : Within s (s.checkEmergency n p) := by
  unfold State.checkEmergency
  split
  · split
    · exact (within_preempt _ _ _ _).trans (within_evalPatch _ _)
    · exact .refl s
  · exact .refl s

theorem within_priorityChanged (s : State) (p : PortId) (rise : Bool) : Within s (s.priorityChanged p rise) := by
  unfold State.priorityChanged
  split
  · exact .refl s
  · rename_i n _
    have placed : Within s (s.modPatch n (fun r => { r with bids := s.insertBid (.port p) (r.bids.erase (.port p)) })) :=
      within_modPatch id
    exact within_ite (fun _ => within_ite (fun _ => placed.trans (within_checkEmergency _ _ _)) (fun _ => placed)) (fun _ => .refl s)

theorem within_hangRunsOut (s : State) (n : SlotId) : Within s (s.hangRunsOut n) := by
  unfold State.hangRunsOut
  split
  · exact Within.trans (within_modPatch id) (within_evalPatch _ _)
  · exact .refl s

theorem within_timesOut (s : State) (n : SlotId) (t : PortId) : Within s (s.timesOut n t) :=
  (((within_updPort rfl id).trans (within_offerBoth _ _)).trans (within_release _ _ _)).trans (within_evalPatch _ _)

/-! ### What passes between the blocks -/

theorem within_handOn (s : State) (e : CarrierEvent) : Within s (s.handOn e) := by
  rcases s.handOn_cases e with h | h <;> rw [h]
  · exact (within_portBids _ _).trans (within_evalPort _ _)
  · refine Within.trans ?_ (within_evalPort _ _)
    unfold State.portLosesPlace
    split
    · exact .refl s
    · split
      · exact (within_release _ _ _).trans (within_evalPatch _ _)
      · split
        · exact (within_withdraw _ _ _).trans (within_evalPatch _ _)
        · exact .refl s

theorem within_settle (s : State) : Within s s.settle := by
  have all : ∀ (k : Nat) (t : State), Within t (settleN k t) := by
    intro k
    induction k with
    | zero => exact fun t => .refl t
    | succ k ih =>
      intro t
      unfold settleN
      split
      · exact .refl t
      · exact ((within_raised t _).trans (within_handOn _ _)).trans (ih _)
  exact all _ s

theorem within_emergencySets (s : State) (p : PortId) : Within s (s.emergencySets p) :=
  ((within_updPort rfl id).trans (within_offerBoth _ _)).trans (within_priorityChanged _ _ _)

theorem within_emergencyClears (s : State) (p : PortId) : Within s (s.emergencyClears p) :=
  (within_updPort rfl id).trans (within_priorityChanged _ _ _)

theorem within_requestRises (s : State) (c : Console) : Within s (s.requestRises c) := by
  unfold State.requestRises
  split
  · exact .refl s
  · exact within_consoleBids _ _ _
  · exact within_evalParked _ _

theorem within_requestFalls (s : State) (c : Console) : Within s (s.requestFalls c) := by
  unfold State.requestFalls
  split
  · exact .refl s
  · exact within_consoleLeaves _ _ _
  · exact within_evalParked _ _

theorem within_changeRequest (s : State) (c : Console) {f : ConsoleRec → ConsoleRec} (hf : ConsoleRec.RequestMove f) :
    Within s (s.changeRequest c f) := by
  have changed : Within s (s.modConsole c f) := within_modConsole (hf.inRange _)
  unfold State.changeRequest
  simp only []
  split
  · exact changed
  · split
    · exact changed.trans (within_requestRises _ _)
    · exact changed.trans (within_requestFalls _ _)

theorem within_changeTarget (s : State) (c : Console) (t : Target) : Within s (s.changeTarget c t) := by
  have changed : Within s (s.modConsole c (fun r => { r with target := t })) := within_modConsole id
  unfold State.changeTarget
  simp only []
  split
  · exact changed
  · refine (changed.trans ?_).trans (within_requestRises _ _)
    split
    · exact .refl _
    · exact within_consoleLeaves _ _ _
    · exact within_evalParked _ _

/-- The record of a port as console c reserves it (R143). -/
def PortRec.parkFor (r : PortRec) (c : Console) : PortRec := { r.restInto .parked with reservedBy := some c }

/-- The reservation of a port in no patch: unkeyed, parked and handed to the keying unit (R143). -/
theorem State.reserve_unpatched {s : State} {p : PortId} (hp : (s.port p).patch = none) (c : Console) :
    s.reserve c p = ((s.unkeyIfRelaying p).updPort p (fun r => r.parkFor c)).evalParked p := by
  unfold State.reserve
  simp only []
  rw [hp]
  rfl

/-- The reservation of a member: out of the list, parked, its talk right released, and its patch evaluated (R143). -/
theorem State.reserve_member {s : State} {p : PortId} {n : SlotId} (hp : (s.port p).patch = some n) (c : Console) :
    s.reserve c p =
      ((if (s.patch n).talker = some (.port p) then
          (((s.withdraw n (.port p)).unkeyIfRelaying p).updPort p (fun r => r.parkFor c)).release n (some c)
        else ((s.withdraw n (.port p)).unkeyIfRelaying p).updPort p (fun r => r.parkFor c)).evalPatch n).evalParked p := by
  unfold State.reserve
  simp only []
  rw [hp]
  simp only [beq_iff_eq]
  rfl

theorem within_reserve (s : State) (c : Console) (p : PortId) : Within s (s.reserve c p) := by
  have parked : ∀ t : State, Within t ((t.unkeyIfRelaying p).updPort p (fun r => r.parkFor c)) := fun t =>
    (within_unkeyIfRelaying t p).trans (within_updPort rfl id)
  cases hp : (s.port p).patch with
  | none => rw [State.reserve_unpatched hp]; exact (parked s).trans (within_evalParked _ _)
  | some n =>
    rw [State.reserve_member hp]
    have out := (within_withdraw s n (.port p)).trans (parked _)
    exact ((within_ite (fun _ => out.trans (within_release _ _ _)) (fun _ => out)).trans (within_evalPatch _ _)).trans
      (within_evalParked _ _)

theorem within_endReservation (s : State) (p : PortId) (b : Bool) : Within s (s.endReservation p b) := by
  unfold State.endReservation
  simp only []
  refine Within.trans ?_ (within_evalPort _ _)
  have freed : Within s (s.updPort p
      (fun r => { r.restInto (if r.patch.isSome then .idle else .detached) with reservedBy := none })) := within_updPort rfl id
  split
  · exact freed
  · exact freed.trans (within_portBidsIfQualified _ _)

theorem within_releaseReservation (s : State) (c : Console) (p : PortId) : Within s (s.releaseReservation c p) := by
  have untargeted : Within s (if (s.console c).target = .port p then s.changeTarget c .none else s) :=
    within_ite (fun _ => within_changeTarget _ _ _) (fun _ => .refl s)
  unfold State.releaseReservation
  simp only []
  exact Within.trans (within_ite (fun _ => untargeted.trans (within_unkeyParked _ _)) (fun _ => untargeted)) (within_endReservation _ _ _)

theorem within_shareOwned (s : State) (c : Console) : Within s (s.shareOwned c) :=
  { Within.refl s with
    patches := fun n h => by
      unfold State.shareOwned State.patch
      simp only [mapVec_getElem]
      split <;> exact h }

theorem within_linkLost (s : State) (c : Console) : Within s (s.linkLost c) := by
  unfold State.linkLost
  simp only []
  refine Within.trans ?_ (within_offer _ _ _)
  refine Within.trans ?_ (within_shareOwned _ _)
  refine Within.trans ?_ (within_foldl (fun t p => ?_) _ _)
  · exact Within.trans (within_changeRequest s c (f := fun r => { r with link := .lost, seize := false }) ⟨fun _ => rfl, fun _ => id⟩)
      (within_modConsole id)
  · refine Within.trans ?_ (within_endReservation _ _ _)
    split
    · exact within_unkeyParked _ _
    · exact .refl _

/-! ### Commands on ports and patches -/

theorem PortSettings.store_inRange {c : PortSettings} (sel : PortSelection) (h : c.inRange) : (c.store sel).inRange := by
  obtain ⟨hq, hd, hk, ht, hb, hr, hx⟩ := h
  exact ⟨storeUpTo_le _ hq, storeUpTo_le _ hd, storeUpTo_le _ hk, storeUpTo_le _ ht, storeUpTo_le _ hb, storeUpTo_le _ hr,
    storeUpTo_le _ hx⟩

theorem PortRec.senseChanges_frame (r : PortRec) (old : Bool) :
    r.senseChanges old = { r with
      startWindow := (r.senseChanges old).startWindow, startCheck := (r.senseChanges old).startCheck
      lossLeft := (r.senseChanges old).lossLeft } := by
  unfold PortRec.senseChanges
  split
  · rfl
  · split
    · rfl
    · split
      · rw [PortRec.startSupervision_frame]
      · rfl

theorem PortRec.quiet_senseChanges (r : PortRec) (old : Bool) : r.QuietMove (r.senseChanges old) := by
  rw [PortRec.senseChanges_frame]
  exact ⟨rfl, rfl, rfl, rfl, rfl, id⟩

theorem PortRec.QuietMove.range {r r' : PortRec} (h : r.QuietMove r') : r.cfg.inRange → r'.cfg.inRange := by rw [h.cfg]; exact id

theorem within_kindChanges (s : State) (p : PortId) (old : PortKind) : Within s (s.kindChanges p old) := by
  unfold State.kindChanges
  split
  · exact .refl s
  · refine Within.trans (Within.trans ?_ (within_evalPort _ _)) (within_settle _)
    split
    · exact within_settle s
    · exact .refl s

theorem within_emgChanges (s : State) (p : PortId) (v : Bool) : Within s (s.emgChanges p v) := by
  unfold State.emgChanges
  split
  · split
    · exact within_offerBoth _ _
    · exact within_emergencySets _ _
  · exact .refl s
  · split
    · exact within_offerBoth _ _
    · exact within_emergencySets _ _
  · split
    · exact within_emergencyClears _ _
    · exact .refl s

theorem within_conditionEmg (s : State) (p : PortId) (old : Bool) : Within s (s.conditionEmg p old) := by
  unfold State.conditionEmg
  split
  · exact within_updPort rfl id
  · unfold State.takeFilteredEmg
    simp only []
    split
    · exact within_updPort rfl id
    · exact (within_updPort rfl id).trans (within_emgChanges _ _ _)

theorem within_inputsChange (s : State) (p : PortId) (old : PortRec) : Within s (s.inputsChange p old) := by
  have quiet := PortRec.quiet_conditionCor (s.port p) old.correctedCor
  have conditioned : Within s (if (s.port p).cfg.corPolarity = old.cfg.corPolarity ∧ (s.port p).cfg.glitchFilter = old.cfg.glitchFilter
      then s else (s.writePort p ((s.port p).conditionCor old.correctedCor)).settle) := by
    split
    · exact .refl s
    · exact (within_writePort quiet.maskedClear quiet.range).trans (within_settle _)
  unfold State.inputsChange
  simp only []
  split
  · exact conditioned
  · exact conditioned.trans (within_conditionEmg _ _ _)

theorem within_emgModeChanges (s : State) (p : PortId) (old : EmgMode) : Within s (s.emgModeChanges p old) := by
  unfold State.emgModeChanges
  split
  · split
    · exact .refl s
    · split
      · exact within_emergencySets _ _
      · exact within_emergencyClears _ _
  · exact .refl s

theorem within_settingsChange (s : State) (p : PortId) (old : PortRec) : Within s (s.settingsChange p old) := by
  unfold State.settingsChange
  refine Within.trans ?_ (within_emgModeChanges _ _ _)
  refine Within.trans ?_ (within_updPort ?_ (PortRec.quiet_senseChanges _ _).range)
  · refine Within.trans (Within.trans ?_ (within_kindChanges _ _ _)) (within_inputsChange _ _ _)
    unfold State.baseChanges
    split
    · exact .refl s
    · exact within_priorityChanged _ _ _
  · rw [PortRec.senseChanges_frame]

theorem within_conditionsClear (s : State) (p : PortId) (old : PortRec) : Within s (s.conditionsClear p old) := by
  have fallen : Within s (if old.emergency && !(s.port p).emergency then s.priorityChanged p false else s) :=
    within_ite (fun _ => within_priorityChanged _ _ _) (fun _ => .refl s)
  unfold State.conditionsClear
  simp only []
  have expired := within_ite (b := (decide (0 < old.lockoutLeft) && (s.port p).lockoutLeft == 0) = true)
    (fun _ => fallen.trans (within_portBidsIfQualified _ p)) (fun _ => fallen)
  exact within_ite (fun _ => expired.trans (within_evalPort _ _)) (fun _ => expired)

theorem within_join (s : State) (n : SlotId) (p : PortId) : Within s (s.join n p) := by
  have joined : Within s ((s.modPatch n (fun r => { r with members := r.members ++ [p] })).updPort p (fun r =>
      if r.isParked then { r with patch := some n } else { r.restInto .idle with patch := some n })) :=
    Within.trans (within_modPatch id) (within_updPort (by split <;> rfl) (fun h => by split <;> exact h))
  unfold State.join
  simp only []
  split
  · exact joined
  · exact (joined.trans (within_portBidsIfQualified _ _)).trans (within_evalPort _ _)

theorem within_joinAll (s : State) (n : SlotId) (ps : List PortId) : Within s (s.joinAll n ps) :=
  within_foldl (f := fun a p => a.join n p) (fun _ _ => within_join _ _ _) _ _

theorem within_leaveAll (s : State) (n : SlotId) (ps : List PortId) (c : Console) : Within s (s.leaveAll n ps c) := by
  unfold State.leaveAll
  simp only []
  refine Within.trans ?_ (within_evalPatch _ _)
  have detached := (((within_foldl (f := fun a p => a.withdraw n (.port p)) (fun _ _ => within_withdraw _ _ _) ps s).trans
    (within_foldl within_unkeyIfRelaying ps _)).trans
    (within_modPatch (n := n) (f := fun r => { r with members := r.members.filter (fun p => !ps.contains p) }) id)).trans
    (within_leaveFold ps _)
  split
  · exact detached.trans (within_release _ _ _)
  · exact detached

/-- A joined record keeps the settings of the survivor (R58). -/
theorem State.mergedRecord_inRange {s : State} (a b : SlotId) (h : (s.patch a).inRange) : (s.mergedRecord a b).inRange := by
  have joined : (s.joinedRecord a b).inRange := h
  have carried : (s.carryPartner (s.joinedRecord a b) (s.patch b).partner).inRange := by
    unfold State.carryPartner
    split
    · exact joined
    · split <;> exact joined
  unfold State.mergedRecord PatchRec.promotePartner
  split <;> exact carried

theorem insertEntry_mem {e x : ListenEntry} {l : List ListenEntry} : x ∈ insertEntry e l ↔ x = e ∨ x ∈ l := by
  have parts := List.takeWhile_append_dropWhile (p := fun x => decide (x.patch < e.patch)) (l := l)
  have mem : x ∈ l ↔ x ∈ l.takeWhile (fun x => decide (x.patch < e.patch)) ∨ x ∈ l.dropWhile (fun x => decide (x.patch < e.patch)) := by
    rw [← List.mem_append, parts]
  simp only [insertEntry, List.mem_append, List.mem_cons, mem]
  tauto

/-- An entry of a patch that has none goes in at its place (R140). -/
theorem insertEntry_ascends {e : ListenEntry} {l : List ListenEntry} (hl : l.Pairwise (fun a b => a.patch < b.patch))
    (hne : ∀ x ∈ l, x.patch ≠ e.patch) : (insertEntry e l).Pairwise (fun a b => a.patch < b.patch) := by
  induction l with
  | nil => simp [insertEntry]
  | cons a l ih =>
    obtain ⟨ha, hl⟩ := List.pairwise_cons.mp hl
    by_cases hlt : a.patch < e.patch
    · have e1 : insertEntry e (a :: l) = a :: insertEntry e l := by simp [insertEntry, hlt]
      rw [e1]
      refine List.pairwise_cons.mpr ⟨fun x hx => ?_, ih hl (fun x hx => hne x (List.mem_cons_of_mem _ hx))⟩
      rcases insertEntry_mem.mp hx with rfl | hx
      · exact hlt
      · exact ha x hx
    · have e1 : insertEntry e (a :: l) = e :: a :: l := by simp [insertEntry, hlt]
      have hea : e.patch < a.patch := lt_of_le_of_ne (not_lt.mp hlt) (fun h => hne a List.mem_cons_self h.symm)
      rw [e1]
      refine List.pairwise_cons.mpr ⟨fun x hx => ?_, List.pairwise_cons.mpr ⟨ha, hl⟩⟩
      rcases List.mem_cons.mp hx with rfl | hx
      · exact hea
      · exact hea.trans (ha x hx)

/-- Renaming the absorbed patch keeps a listen set in order, each level as it was (R60). -/
theorem ConsoleRec.renamePatch_inRange {r : ConsoleRec} (b a : SlotId) (h : r.inRange) : (r.renamePatch b a).inRange := by
  obtain ⟨hsup, hmic, hside, hasc, hlev⟩ := h
  have others : (r.listen.filter (fun e => e.patch != b)).Pairwise (fun x y => x.patch < y.patch) := hasc.filter _
  have levels : ∀ e ∈ r.listen.filter (fun e => e.patch != b), e.level ≤ 1023 := fun e he => hlev e (List.mem_filter.mp he).1
  suffices hren : (renameListen b a r.listen).Pairwise (fun x y => x.patch < y.patch) ∧ ∀ e ∈ renameListen b a r.listen, e.level ≤ 1023 from
    ⟨hsup, hmic, hside, hren.1, hren.2⟩
  unfold renameListen
  simp only []
  split
  · exact ⟨hasc, hlev⟩
  · rename_i e he
    split
    · exact ⟨others, levels⟩
    · rename_i hno
      refine ⟨insertEntry_ascends others (fun x hx hxa => hno (List.any_eq_true.mpr ⟨x, hx, by simpa using hxa⟩)), fun x hx => ?_⟩
      rcases insertEntry_mem.mp hx with rfl | hx
      · exact hlev e (List.mem_of_find?_eq_some he)
      · exact levels x hx

theorem within_merge (s : State) (c : Console) (a b : SlotId) : Within s (s.merge c a b) := by
  unfold State.merge
  simp only []
  refine Within.trans ?_ (within_offer _ _ _)
  refine Within.trans ?_ (within_modConsole (ConsoleRec.renamePatch_inRange b a))
  refine Within.trans ?_ (within_modConsole (ConsoleRec.renamePatch_inRange b a))
  refine Within.trans ?_ (within_evalPatch _ _)
  refine Within.trans ?_ (within_foldl (f := fun t p => t.updPort p (fun r => { r with patch := some a })) (fun _ _ => within_updPort rfl id) _ _)
  exact (within_setPatch (State.mergedRecord_inRange a b)).trans (within_setPatch (fun _ => PatchRec.unused_inRange))

theorem labelAdmitted_iff {l : List Byte} :
    labelAdmitted l = true ↔ l.length ≤ 8 ∧ ∀ b ∈ l, 0x20 ≤ b.toNat ∧ b.toNat ≤ 0x7E := by
  simp [labelAdmitted]

/-- A selection whose label is admitted is stored in range (R61). -/
theorem PatchRec.store_inRange {r : PatchRec} {sel : PatchSelection} (hl : ∀ l, sel.label = some l → labelAdmitted l = true)
    (h : r.inRange) : (r.store sel).inRange := by
  obtain ⟨hlen, hchars, hlow, hhigh, hlevel, hhang, htime, hlock⟩ := h
  have label : (sel.label.getD r.label).length ≤ 8 ∧ ∀ b ∈ sel.label.getD r.label, 0x20 ≤ b.toNat ∧ b.toNat ≤ 0x7E := by
    cases hsel : sel.label with
    | none => exact ⟨hlen, hchars⟩
    | some l => exact labelAdmitted_iff.mp (hl l hsel)
  have threshold : 1 ≤ storeThreshold sel.threshold r.threshold ∧ storeThreshold sel.threshold r.threshold ≤ 10 := by
    cases sel.threshold with
    | none => exact ⟨hlow, hhigh⟩
    | some v => simp only [storeThreshold]; omega
  have timeOut : storeTimeOut sel.timeOutLimit r.timeOutLimit = 0 ∨
      (10 ≤ storeTimeOut sel.timeOutLimit r.timeOutLimit ∧ storeTimeOut sel.timeOutLimit r.timeOutLimit ≤ 600) := by
    cases sel.timeOutLimit with
    | none => exact htime
    | some v =>
      simp only [storeTimeOut]
      split
      · exact .inl rfl
      · omega
  exact ⟨label.1, label.2, threshold.1, threshold.2, storeUpTo_le _ hlevel, storeUpTo_le _ hhang, timeOut, storeUpTo_le _ hlock⟩

theorem within_modeChanges (s : State) (n : SlotId) (old : PatchMode) : Within s (s.modeChanges n old) := by
  unfold State.modeChanges
  split
  · exact .refl s
  · exact within_evalPatch _ _

theorem within_styleChanges (s : State) (n : SlotId) (old : PatchStyle) : Within s (s.styleChanges n old) := by
  have vacated : Within s (s.modPatch n (fun r => { r with partner := none })) := within_modPatch id
  unfold State.styleChanges
  split
  · simp only []
    split
    · exact (vacated.trans (within_takeBid _ _ _)).trans (within_evalPatch _ _)
    · exact vacated
  · exact .refl s

theorem within_dissolve (s : State) (c : Console) (n : SlotId) (k : Nat) : Within s (s.dissolve c n k) := by
  unfold State.dissolve
  split
  · exact Within.trans (within_modPatch id) (within_evalPatch _ _)
  · exact within_retire _ _ _

theorem PatchRec.created_inRange (c : Console) {label : List Byte} (h : labelAdmitted label = true) :
    (PatchRec.created c label).inRange := by
  obtain ⟨hlen, hchars⟩ := labelAdmitted_iff.mp h
  exact ⟨hlen, hchars, PatchRec.unused_inRange.2.2⟩

end Sys2Proof.Machine

/-! The three kinds of reset (R177, R178): the state each of them begins with, and what a part that takes up its work makes of it, port by
port. -/

namespace Sys2Proof.Machine

/-! ### Handing on events that move nothing -/

/-- Raised events that move nothing are handed on to nobody. -/
theorem State.settle_of_idle {s : State} (hi : ∀ e ∈ s.raised, ∀ l, ({ s with raised := l } : State).handOn e = { s with raised := l })
    (hl : s.raised.length ≤ 256) : s.settle = { s with raised := [] } := by
  have all : ∀ (k : Nat) (l : List CarrierEvent), l.length ≤ k → (∀ e ∈ l, ∀ l, ({ s with raised := l } : State).handOn e = { s with raised := l }) →
      settleN k { s with raised := l } = { s with raised := [] } := by
    intro k
    induction k with
    | zero =>
      intro l hk _
      rw [List.length_eq_zero_iff.mp (Nat.le_zero.mp hk)]
      rfl
    | succ k ih =>
      intro l hk hl
      cases l with
      | nil => unfold settleN; rfl
      | cons e l =>
        unfold settleN
        simp only []
        rw [hl e List.mem_cons_self]
        exact ih l (Nat.le_of_succ_le_succ hk) (fun x hx => hl x (List.mem_cons_of_mem _ hx))
  exact all 256 s.raised hl hi

/-! ### One port takes up its inputs (R19) -/

/-- What a port raises as it takes up an asserted COR with a qualify time of 0 (R7, R19). -/
def PortRec.newsAtReset (r : PortRec) (cfg : PortSettings) : List CarrierNews :=
  if (r.atReset cfg).correctedCor = true ∧ cfg.qualifyTime = 0 then [.qualified] else []

theorem PortRec.newsAtReset_length (r : PortRec) (cfg : PortSettings) : (r.newsAtReset cfg).length ≤ 1 := by
  unfold PortRec.newsAtReset; split <;> simp

@[simp] theorem PortRec.atReset_masked (r : PortRec) (cfg : PortSettings) : (r.atReset cfg).masked = false := by
  simp [PortRec.atReset, PortRec.masked, PortRec.reset, PortRec.ptt, PortRec.parkedKeyed]

@[simp] theorem PortRec.afterReset_patch (r : PortRec) (cfg : PortSettings) : (r.afterReset cfg).patch = none := rfl
@[simp] theorem PortRec.afterReset_state (r : PortRec) (cfg : PortSettings) : (r.afterReset cfg).state = .detached := rfl
@[simp] theorem PortRec.afterReset_cfg (r : PortRec) (cfg : PortSettings) : (r.afterReset cfg).cfg = cfg := rfl
@[simp] theorem PortRec.afterReset_masked (r : PortRec) (cfg : PortSettings) : (r.afterReset cfg).masked = false := by
  simp [PortRec.afterReset, PortRec.masked, PortRec.reset, PortRec.ptt, PortRec.parkedKeyed]
@[simp] theorem PortRec.afterReset_isParked (r : PortRec) (cfg : PortSettings) : (r.afterReset cfg).isParked = false := rfl

/-- The filtered inputs of a port at reset, and its carrier, taken up: all but the emergency flag of R19. -/
def PortRec.inputsTaken (r : PortRec) (cfg : PortSettings) : PortRec := { r.afterReset cfg with emergency := false }

theorem PortRec.corAsserts_atReset (r : PortRec) (cfg : PortSettings) (h : (r.atReset cfg).correctedCor = true) :
    ({ r.atReset cfg with filteredCor := (r.atReset cfg).correctedCor, filteredEmg := (r.atReset cfg).correctedEmg } : PortRec).corAsserts =
      (r.inputsTaken cfg, r.newsAtReset cfg) := by
  have hc : (r.atReset cfg).correctedCor = true := h
  unfold PortRec.newsAtReset
  simp only [hc, true_and]
  unfold PortRec.atReset at hc
  by_cases hq : cfg.qualifyTime = 0 <;>
    simp [PortRec.corAsserts, PortRec.inputsTaken, PortRec.afterReset, PortRec.atReset, PortRec.reset, hq, PortRec.correctedCor, PortRec.correctedEmg] <;>
    simp [PortRec.correctedCor] at hc <;> simp [hc]

theorem PortRec.inputsTaken_of_clear (r : PortRec) (cfg : PortSettings) (h : (r.atReset cfg).correctedCor = false) :
    ({ r.atReset cfg with filteredCor := (r.atReset cfg).correctedCor, filteredEmg := (r.atReset cfg).correctedEmg } : PortRec) =
      r.inputsTaken cfg ∧ r.newsAtReset cfg = [] := by
  constructor
  · simp [PortRec.correctedCor, PortRec.atReset, PortRec.reset] at h
    simp [PortRec.inputsTaken, PortRec.afterReset, PortRec.atReset, PortRec.reset, PortRec.correctedCor, PortRec.correctedEmg, h]
  · simp [PortRec.newsAtReset, h]

/-- A port line unit that takes up its inputs after a reset: its record, what its carrier raises, and the notice of an emergency. -/
theorem State.takeUpPort_of_reset {s : State} {p : PortId} {r : PortRec} {cfg : PortSettings} (h : s.port p = r.atReset cfg) :
    s.takeUpPort p =
      if (r.afterReset cfg).emergency = true then
        ((s.setPort p (r.afterReset cfg)).raise p (r.newsAtReset cfg)).offerBoth ⟨.emergency, portNumber p⟩
      else (s.setPort p (r.afterReset cfg)).raise p (r.newsAtReset cfg) := by
  have filtered : s.updPort p (fun r => { r with filteredCor := r.correctedCor, filteredEmg := r.correctedEmg }) =
      s.setPort p { r.atReset cfg with filteredCor := (r.atReset cfg).correctedCor, filteredEmg := (r.atReset cfg).correctedEmg } := by
    rw [State.updPort_of_masked rfl, h]
  have heard : (if ((s.setPort p { r.atReset cfg with
        filteredCor := (r.atReset cfg).correctedCor, filteredEmg := (r.atReset cfg).correctedEmg }).port p).filteredCor = true
      then (s.setPort p { r.atReset cfg with
        filteredCor := (r.atReset cfg).correctedCor, filteredEmg := (r.atReset cfg).correctedEmg }).writePort p
          ((s.setPort p { r.atReset cfg with
        filteredCor := (r.atReset cfg).correctedCor, filteredEmg := (r.atReset cfg).correctedEmg }).port p).corAsserts
      else s.setPort p { r.atReset cfg with
        filteredCor := (r.atReset cfg).correctedCor, filteredEmg := (r.atReset cfg).correctedEmg }) =
      (s.setPort p (r.inputsTaken cfg)).raise p (r.newsAtReset cfg) := by
    simp only [State.setPort_port_same]
    cases hc : (r.atReset cfg).correctedCor with
    | true =>
      have e := PortRec.corAsserts_atReset r cfg hc
      rw [hc] at e
      rw [if_pos rfl, e]
      unfold State.writePort
      rw [State.setPort_setPort]
    | false =>
      obtain ⟨e, en⟩ := PortRec.inputsTaken_of_clear r cfg hc
      rw [hc] at e
      rw [if_neg Bool.false_ne_true, e, en, State.raise_nil]
  unfold State.takeUpPort
  simp only []
  rw [filtered, heard]
  have hport : ((s.setPort p (r.inputsTaken cfg)).raise p (r.newsAtReset cfg)).port p = r.inputsTaken cfg := by
    rw [State.raise_port, State.setPort_port_same]
  rw [hport]
  have hcond : ((r.inputsTaken cfg).cfg.emgMode = .level ∧ (r.inputsTaken cfg).filteredEmg = true) ↔ (r.afterReset cfg).emergency = true := by
    simp [PortRec.inputsTaken, PortRec.afterReset, PortRec.correctedEmg]
  by_cases he : (r.afterReset cfg).emergency = true
  · rw [if_pos (hcond.mpr he), if_pos he]
    have hset : ((s.setPort p (r.inputsTaken cfg)).raise p (r.newsAtReset cfg)).updPort p (fun r => { r with emergency := true }) =
        (s.setPort p (r.afterReset cfg)).raise p (r.newsAtReset cfg) := by
      have hem : ({ r.inputsTaken cfg with emergency := true } : PortRec) = r.afterReset cfg := by
        unfold PortRec.inputsTaken
        rw [← he]
      rw [State.updPort_of_masked rfl, hport, hem]
      show ((s.setPort p (r.inputsTaken cfg)).setPort p (r.afterReset cfg)).raise p (r.newsAtReset cfg) = _
      rw [State.setPort_setPort]
    unfold State.emergencySets State.priorityChanged
    rw [hset, State.offerBoth_port, State.raise_port, State.setPort_port_same]
    rfl
  · rw [if_neg (fun hk => he (hcond.mp hk)), if_neg he]
    have hem : r.inputsTaken cfg = r.afterReset cfg := by
      unfold PortRec.inputsTaken
      rw [← Bool.eq_false_of_not_eq_true he]
    rw [hem]

/-! ### Every port takes up its inputs -/

theorem mem_allPorts (p : PortId) : p ∈ allPorts := by rw [allPorts_eq_finRange]; exact List.mem_finRange p

/-- From s, whose ports stand as a reset leaves them, the ports of l have taken up their inputs in t. -/
structure TakenUp (recs : PortId → PortRec) (cfg : PortId → PortSettings) (l : List PortId) (s t : State) : Prop where
  ports : ∀ q, t.port q = if q ∈ l then (recs q).afterReset (cfg q) else (recs q).atReset (cfg q)
  patches : t.patches = s.patches
  consoles : t.consoles = s.consoles
  rest : t.fixedPart = s.fixedPart
  raisedLength : t.raised.length ≤ s.raised.length + l.length
  masks : ∀ c, (t.notice c).mask = (s.notice c).mask
  entries : ∀ c, ∀ e ∈ (s.notice c).entries, e ∈ (t.notice c).entries
  bounded : ∀ c, (s.notice c).bounded → (t.notice c).bounded
  links : (∀ c, (s.notice c).entries ≠ []) → t.links = s.links
  linkMoves : ∀ c, (s.link c).QuietMove (t.link c)
  notices : (∀ q, ((recs q).afterReset (cfg q)).emergency = false) → t.notices = s.notices ∧ t.links = s.links

theorem State.offer_links_of_pending {s : State} {c : Console} {e : Notice} (h : (s.notice c).entries ≠ []) :
    (s.offer c e).links = s.links := by
  unfold State.offer State.startAlert
  rw [if_neg]
  · rfl
  · have : (s.notice c).entries.isEmpty = false := by simpa using h
    simp [this]

theorem State.offerBoth_links_of_pending {s : State} {e : Notice} (h : ∀ c, (s.notice c).entries ≠ []) :
    (s.offerBoth e).links = s.links := by
  unfold State.offerBoth
  rw [State.offer_links_of_pending, State.offer_links_of_pending (h .A)]
  rw [State.offer_notice]
  exact h .B

@[simp] theorem State.startAlert_patches (s : State) (c : Console) (u : NoticeUnit) : (s.startAlert c u).patches = s.patches := by
  unfold State.startAlert; split <;> rfl
@[simp] theorem State.startAlert_consoles (s : State) (c : Console) (u : NoticeUnit) : (s.startAlert c u).consoles = s.consoles := by
  unfold State.startAlert; split <;> rfl
@[simp] theorem State.offer_patches (s : State) (c : Console) (e : Notice) : (s.offer c e).patches = s.patches := by
  unfold State.offer; rw [State.startAlert_patches]; rfl
@[simp] theorem State.offer_consoles (s : State) (c : Console) (e : Notice) : (s.offer c e).consoles = s.consoles := by
  unfold State.offer; rw [State.startAlert_consoles]; rfl
@[simp] theorem State.offerBoth_patches (s : State) (e : Notice) : (s.offerBoth e).patches = s.patches := by simp [State.offerBoth]
@[simp] theorem State.offerBoth_consoles (s : State) (e : Notice) : (s.offerBoth e).consoles = s.consoles := by simp [State.offerBoth]

theorem TakenUp.step {recs : PortId → PortRec} {cfg : PortId → PortSettings} {l : List PortId} {s t : State} {p : PortId}
    (h : TakenUp recs cfg l s t) (hp : p ∉ l) : TakenUp recs cfg (l ++ [p]) s (t.takeUpPort p) := by
  have hport : t.port p = (recs p).atReset (cfg p) := by rw [h.ports, if_neg hp]
  have hlen := PortRec.newsAtReset_length (recs p) (cfg p)
  have written : TakenUp recs cfg (l ++ [p]) s
      ((t.setPort p ((recs p).afterReset (cfg p))).raise p ((recs p).newsAtReset (cfg p))) :=
    { h with
      ports := fun q => by
        rw [State.raise_port, State.setPort_port]
        by_cases hq : q = p
        · subst hq; simp
        · rw [if_neg hq, h.ports]; simp [hq]
      raisedLength := by
        have := h.raisedLength
        simp only [State.raise, State.setPort_raised, List.length_append, List.length_map, List.length_singleton]
        omega }
  rw [State.takeUpPort_of_reset hport]
  split
  · rename_i he
    exact { written with
      ports := fun q => by rw [State.offerBoth_port]; exact written.ports q
      patches := by rw [State.offerBoth_patches]; exact written.patches
      consoles := by rw [State.offerBoth_consoles]; exact written.consoles
      rest := ((kept_offerBoth (ns := []) (ps := []) _ _).rest).trans written.rest
      raisedLength := by rw [State.offerBoth_raised]; exact written.raisedLength
      masks := fun c => ((kept_offerBoth (ns := []) (ps := []) _ _).masks c).trans (written.masks c)
      entries := fun c e hm => (kept_offerBoth (ns := []) (ps := []) _ _).entries c e (written.entries c e hm)
      bounded := fun c hb => (kept_offerBoth (ns := []) (ps := []) _ _).notices c (written.bounded c hb)
      links := fun hn => (State.offerBoth_links_of_pending (fun c => by
        obtain ⟨e, hm⟩ := List.exists_mem_of_ne_nil _ (hn c)
        exact List.ne_nil_of_mem (written.entries c e hm))).trans (written.links hn)
      linkMoves := fun c => by
        have hw := written.linkMoves c
        have ho := (within_offerBoth ((t.setPort p ((recs p).afterReset (cfg p))).raise p ((recs p).newsAtReset (cfg p)))
          ⟨.emergency, portNumber p⟩).links c
        exact ⟨ho.queue.trans hw.queue, fun hs => ho.stored (hw.stored hs)⟩
      notices := fun hn => by rw [hn p] at he; cases he }
  · exact written

/-- The part takes up its work after a reset: every port has taken up its inputs, and what the carriers raise moves nothing (R9, R19). -/
theorem State.takeUp_of_reset {recs : PortId → PortRec} {cfg : PortId → PortSettings} {s : State}
    (h : ∀ p, s.port p = (recs p).atReset (cfg p)) (hr : s.raised = []) :
    ∃ t, TakenUp recs cfg allPorts s t ∧ s.takeUp = { t with raised := [] } := by
  have none : TakenUp recs cfg [] s s :=
    { ports := fun q => by rw [h q]; rfl
      patches := rfl, consoles := rfl, rest := rfl, raisedLength := le_rfl, masks := fun _ => rfl
      entries := fun _ _ => id, bounded := fun _ => id, links := fun _ => rfl, linkMoves := fun _ => .refl _
      notices := fun _ => ⟨rfl, rfl⟩ }
  have all : ∀ (l done : List PortId) (t : State), (done ++ l).Nodup → TakenUp recs cfg done s t →
      TakenUp recs cfg (done ++ l) s (l.foldl State.takeUpPort t) := by
    intro l
    induction l with
    | nil => intro done t _ ht; simpa using ht
    | cons p l ih =>
      intro done t hn ht
      have hp : p ∉ done := by
        intro hm
        exact (List.nodup_append.mp hn).2.2 p hm p List.mem_cons_self rfl
      have := ih (done ++ [p]) (t.takeUpPort p) (by simpa using hn) (ht.step hp)
      simpa using this
  obtain ⟨t, ht, done⟩ : ∃ t, allPorts.foldl State.takeUpPort s = t ∧ TakenUp recs cfg allPorts s t :=
    ⟨_, rfl, all allPorts [] s (by decide) none⟩
  have hport : ∀ q, t.port q = (recs q).afterReset (cfg q) := fun q => by rw [done.ports, if_pos (mem_allPorts q)]
  refine ⟨t, done, ?_⟩
  unfold State.takeUp
  rw [ht]
  refine State.settle_of_idle (fun e _ l => State.handOn_unpatched e ?_ ?_) ?_
  · exact (congrArg PortRec.patch (hport e.port)).trans (PortRec.afterReset_patch _ _)
  · exact (congrArg PortRec.isParked (hport e.port)).trans (PortRec.afterReset_isParked _ _)
  · have hlen := done.raisedLength
    rw [hr] at hlen
    exact hlen.trans (by decide)

end Sys2Proof.Machine

/-! The bounds are kept by every step: resets and the counting of a millisecond, every row of the table, and the millisecond itself, taken
apart once for every invariant. -/

namespace Sys2Proof.Machine

/-! ### The records right after a reset -/

theorem State.powerOnValues_port (s : State) (p : PortId) :
    s.powerOnValues.port p = (s.port p).atReset PortSettings.default := by
  simp [State.powerOnValues, State.port]
theorem State.powerOnValues_patch (s : State) (n : SlotId) : s.powerOnValues.patch n = PatchRec.unused := by
  simp [State.powerOnValues, State.patch, State.reset]
theorem State.powerOnValues_console (s : State) (c : Console) : s.powerOnValues.console c = (s.console c).atReset := by
  simp [State.powerOnValues, State.console]
theorem State.restartValues_port (s : State) (p : PortId) : s.restartValues.port p = (s.port p).atReset (s.port p).cfg := by
  simp [State.restartValues, State.port]
theorem State.restartValues_patch (s : State) (n : SlotId) : s.restartValues.patch n = PatchRec.unused :=
  State.powerOnValues_patch s n
theorem State.restartValues_console (s : State) (c : Console) : s.restartValues.console c = (s.console c).atRestart := by
  simp [State.restartValues, State.console]
theorem State.restartValues_notice (s : State) (c : Console) : s.restartValues.notice c = (s.notice c).atRestart := by
  simp [State.restartValues, State.notice]

/-- Every slot is unused and every port DETACHED, in no patch and unmasked, as a reset leaves them (R2, R24, R96). -/
structure State.Blank (s : State) : Prop where
  patches : ∀ n, s.patch n = PatchRec.unused
  portPatch : ∀ p, (s.port p).patch = none
  detached : ∀ p, (s.port p).state = .detached
  unmasked : ∀ p, (s.port p).masked = false

/-- A part that takes up its work after a reset is blank, and no record of it leaves its bounds. -/
theorem takeUp_blank {recs : PortId → PortRec} {cfg : PortId → PortSettings} {s : State}
    (h : ∀ p, s.port p = (recs p).atReset (cfg p)) (hp : ∀ n, s.patch n = PatchRec.unused) (hr : s.raised = []) :
    s.takeUp.Blank ∧ Within s s.takeUp := by
  obtain ⟨t, taken, he⟩ := State.takeUp_of_reset h hr
  have hport : ∀ p, t.port p = (recs p).afterReset (cfg p) := fun p => by rw [taken.ports, if_pos (mem_allPorts p)]
  have hpatch : ∀ n, t.patch n = s.patch n := fun n => congrArg (fun v : Vector PatchRec 12 => v[n.val]) taken.patches
  rw [he]
  refine ⟨⟨fun n => (hpatch n).trans (hp n), fun p => ?_, fun p => ?_, fun p => ?_⟩, Within.trans ?_ (within_raised t _)⟩
  · exact (congrArg PortRec.patch (hport p)).trans (PortRec.afterReset_patch _ _)
  · exact (congrArg PortRec.state (hport p)).trans (PortRec.afterReset_state _ _)
  · exact (congrArg PortRec.masked (hport p)).trans (PortRec.afterReset_masked _ _)
  · exact {
      masked := fun p _ hm => by rw [hport p, PortRec.afterReset_masked] at hm; cases hm
      cfg := fun p => by rw [hport p, h p]; exact id
      patches := fun n => by rw [hpatch n]; exact id
      consoles := fun c => by
        have hc : t.console c = s.console c := congrArg (fun x : Pair ConsoleRec => x.get c) taken.consoles
        rw [hc]; exact id
      links := taken.linkMoves
      notices := taken.bounded
      pending := by have e := congrArg State.pending taken.rest; exact e }

theorem PortSettings.default_inRange : PortSettings.default.inRange := by decide

theorem ConsoleRec.atReset_inRange (r : ConsoleRec) : r.atReset.inRange :=
  ⟨Nat.zero_le _, (by decide : 256 ≤ 1023), Nat.zero_le _, List.Pairwise.nil, fun _ h => by cases h⟩

theorem ConsoleRec.atRestart_inRange {r : ConsoleRec} (h : r.inRange) : r.atRestart.inRange :=
  ⟨h.1, h.2.1, h.2.2.1, List.Pairwise.nil, fun _ h => by cases h⟩

theorem NoticeUnit.reset_bounded : NoticeUnit.reset.bounded := by decide

theorem NoticeUnit.atRestart_bounded {u : NoticeUnit} (h : u.bounded) : u.atRestart.bounded := by
  obtain ⟨_, _, _, hbit⟩ := h
  have held := NoticeUnit.reset_bounded
  refine ⟨held.1, held.2.1, fun e he => ?_, hbit⟩
  obtain rfl := List.mem_singleton.mp he
  exact hbit

theorem LinkUnit.quiet_reset (u : LinkUnit) (b : Bool) : u.QuietMove { LinkUnit.reset with alertWaiting := b } :=
  ⟨Nat.zero_le _, fun _ => Nat.zero_le _⟩

theorem State.powerOnValues_link (s : State) (c : Console) : s.powerOnValues.link c = LinkUnit.reset := by cases c <;> rfl
theorem State.powerOnValues_notice (s : State) (c : Console) : s.powerOnValues.notice c = NoticeUnit.reset := by cases c <;> rfl
theorem State.held_link (s : State) (c : Console) : s.held.link c = { LinkUnit.reset with alertWaiting := false } := by cases c <;> rfl
theorem State.held_notice (s : State) (c : Console) : s.held.notice c = { NoticeUnit.reset with entries := [] } := by cases c <;> rfl

theorem within_powerOnValues (s : State) : Within s s.powerOnValues where
  masked p _ hm := by rw [State.powerOnValues_port, PortRec.atReset_masked] at hm; cases hm
  cfg p _ := by rw [State.powerOnValues_port]; exact PortSettings.default_inRange
  patches n _ := by rw [State.powerOnValues_patch]; exact PatchRec.unused_inRange
  consoles c _ := by rw [State.powerOnValues_console]; exact ConsoleRec.atReset_inRange _
  links c := by rw [State.powerOnValues_link]; exact LinkUnit.quiet_reset _ true
  notices c _ := by rw [State.powerOnValues_notice]; exact NoticeUnit.reset_bounded
  pending := rfl

theorem within_restartValues (s : State) : Within s s.restartValues where
  masked p _ hm := by rw [State.restartValues_port, PortRec.atReset_masked] at hm; cases hm
  cfg p h := by rw [State.restartValues_port]; exact h
  patches n _ := by rw [State.restartValues_patch]; exact PatchRec.unused_inRange
  consoles c h := by rw [State.restartValues_console]; exact ConsoleRec.atRestart_inRange h
  links c := (within_powerOnValues s).links c
  notices c h := by rw [State.restartValues_notice]; exact NoticeUnit.atRestart_bounded h
  pending := rfl

theorem within_held (s : State) : Within s s.held :=
  { within_powerOnValues s with
    links := fun c => by rw [State.held_link]; exact LinkUnit.quiet_reset _ false
    notices := fun c _ => by rw [State.held_notice]; decide }

theorem powerOnValues_blank (s : State) : s.powerOnValues.Blank where
  patches := State.powerOnValues_patch s
  portPatch p := by rw [State.powerOnValues_port]; rfl
  detached p := by rw [State.powerOnValues_port]; rfl
  unmasked p := by rw [State.powerOnValues_port, PortRec.atReset_masked]

theorem held_blank (s : State) : s.held.Blank where
  patches := (powerOnValues_blank s).patches
  portPatch := (powerOnValues_blank s).portPatch
  detached := (powerOnValues_blank s).detached
  unmasked := (powerOnValues_blank s).unmasked

theorem powerUp_blank (s : State) : s.powerUp.Blank ∧ Within s s.powerUp := by
  unfold State.powerUp
  split
  · exact ⟨⟨(held_blank s).patches, (held_blank s).portPatch, (held_blank s).detached, (held_blank s).unmasked⟩,
      { within_held s with }⟩
  · have taken := takeUp_blank (s := { s.powerOnValues with resetCause := .powerOn, coldStart := false })
      (State.powerOnValues_port s) (State.powerOnValues_patch s) rfl
    exact ⟨taken.1, Within.trans (t := { s.powerOnValues with resetCause := .powerOn, coldStart := false })
      { within_powerOnValues s with } taken.2⟩

theorem assertReset_blank (s : State) : (s.assertReset = s ∨ s.assertReset.Blank) ∧ Within s s.assertReset := by
  unfold State.assertReset
  split
  · exact ⟨.inl rfl, .refl s⟩
  · exact ⟨.inr ⟨(held_blank s).patches, (held_blank s).portPatch, (held_blank s).detached, (held_blank s).unmasked⟩,
      { within_held s with }⟩

theorem releaseReset_blank (s : State) : (s.releaseReset = s ∨ s.releaseReset.Blank) ∧ Within s s.releaseReset := by
  unfold State.releaseReset
  split
  · have taken := takeUp_blank (s := { s.powerOnValues with
        resetCause := if s.coldStart then .powerOn else .resetLine, resetLine := false, coldStart := false })
      (State.powerOnValues_port s) (State.powerOnValues_patch s) rfl
    exact ⟨.inr taken.1, Within.trans (t := { s.powerOnValues with
        resetCause := if s.coldStart then .powerOn else .resetLine, resetLine := false, coldStart := false })
      { within_powerOnValues s with } taken.2⟩
  · exact ⟨.inl rfl, .refl s⟩

theorem restartTakesEffect_blank (s : State) : s.restartTakesEffect.Blank ∧ Within s s.restartTakesEffect := by
  have taken := takeUp_blank (s := { s.restartValues with resetCause := restartCause (s.restartFirst.getD .A) })
    (State.restartValues_port s) (State.restartValues_patch s) rfl
  exact ⟨taken.1, Within.trans (t := { s.restartValues with resetCause := restartCause (s.restartFirst.getD .A) })
    { within_restartValues s with } taken.2⟩

/-! ### Counting -/

@[simp] theorem State.count_port (s : State) (p : PortId) : s.count.port p = (s.port p).tick := by simp [State.count, State.port]
@[simp] theorem State.count_patch (s : State) (n : SlotId) : s.count.patch n = (s.patch n).tick := by simp [State.count, State.patch]
@[simp] theorem State.count_console (s : State) (c : Console) : s.count.console c = (s.console c).tick := by
  simp [State.count, State.console]
@[simp] theorem State.count_link (s : State) (c : Console) : s.count.link c = (s.link c).tick := by simp [State.count, State.link]
@[simp] theorem State.count_notice (s : State) (c : Console) : s.count.notice c = s.notice c := rfl

theorem PortRec.tick_maskedClear {r : PortRec} (h : r.maskedClear) : r.tick.maskedClear := fun hm => h (by
  have ticked : ((r.cfg.kind == .half && r.ptt) || r.parkedKeyed || decide (0 < r.guardLeft - 1)) = true := hm
  unfold PortRec.masked
  simp only [Bool.or_eq_true, decide_eq_true_eq] at ticked ⊢
  exact ticked.imp_right (fun hg => Nat.lt_of_lt_of_le hg (Nat.sub_le _ _)))

theorem within_count (s : State) : Within s s.count where
  masked p h := by rw [State.count_port]; exact PortRec.tick_maskedClear h
  cfg p h := by rw [State.count_port]; exact h
  patches n h := by rw [State.count_patch]; exact h
  consoles c h := by rw [State.count_console]; exact h
  links c := by rw [State.count_link]; exact ⟨le_rfl, id⟩
  notices c h := h
  pending := rfl

/-! ### Every action stays within the bounds -/

theorem PortRec.QuietMove.within {s : State} {p : PortId} {rn : PortRec × List CarrierNews} (h : (s.port p).QuietMove rn.1) :
    Within s (s.writePort p rn) := within_writePort h.maskedClear h.range

/-- A selection that passes SET PATCH's checks has a label that is admitted (R61). -/
theorem State.setPatchChecks_label {s : State} {c : Console} {n : SlotId} {sel : PatchSelection}
    (h : firstRefusal (s.setPatchChecks c n sel) = none) : ∀ l, sel.label = some l → labelAdmitted l = true := by
  intro l hl
  simp only [State.setPatchChecks, firstRefusal_cons, check_eq_none, hl] at h
  simpa using h.2.2.1

/-- A property of records that stay within their bounds is kept: no action of the part takes a record out of them. -/
theorem Invariant.of_within {I : State → Prop} (hI : ∀ s t, Within s t → I s → I t) : Invariant I where
  restartFirst {s _} h := hI s _ { Within.refl s with } h
  audio {s _ _} h := hI s _ { Within.refl s with } h
  assertReset h := hI _ _ (assertReset_blank _).2 h
  powerUp h := hI _ _ (powerUp_blank _).2 h
  releaseReset h := hI _ _ (releaseReset_blank _).2 h
  restartTakesEffect h := hI _ _ (restartTakesEffect_blank _).2 h
  link hq h := hI _ _ (within_setLink hq) h
  notice hb h := hI _ _ (within_setNotice hb) h
  console hq h := hI _ _ (within_setConsole hq.inRange) h
  count h := hI _ _ (within_count _) h
  raised h := hI _ _ (within_raised _ _) h
  write hq h := hI _ _ hq.within h
  handOn e h := hI _ _ (within_handOn _ e) h
  bids p h := hI _ _ (within_portBidsIfQualified _ p) h
  keyUpRunsOut p h := hI _ _ (within_keyUpRunsOut _ p) h
  transmitFault p h := hI _ _ (within_transmitFault _ p) h
  hangRunsOut n h := hI _ _ (within_hangRunsOut _ n) h
  elapsed _ _ _ _ h := hI _ _ (within_modPatch id) h
  timesOut n t _ h := hI _ _ (within_timesOut _ n t) h
  emergencySets p h := hI _ _ (within_emergencySets _ p) h
  emergencyClears p h := hI _ _ (within_emergencyClears _ p) h
  changeRequest c _ hf h := hI _ _ (within_changeRequest _ c hf) h
  changeTarget c t h := hI _ _ (within_changeTarget _ c t) h
  linkLost c h := hI _ _ (within_linkLost _ c) h
  ownership _ _ _ _ h := hI _ _ (within_modPatch id) h
  storePort p sel _ h := hI _ _ (Within.trans (within_updPort rfl (PortSettings.store_inRange sel)) (within_settingsChange _ p _)) h
  clearConditions p sel h := hI _ _ (Within.trans (within_updPort rfl id) (within_conditionsClear _ p _)) h
  reserve c p h := hI _ _ (within_reserve _ c p) h
  releaseReservation c p h := hI _ _ (within_releaseReservation _ c p) h
  create c _ label _ n hc _ h := by
    simp only [State.createChecks, firstRefusal_cons, check_eq_none, Bool.not_eq_false'] at hc
    exact hI _ _ ((within_setPatch (fun _ => PatchRec.created_inRange c hc.2.1)).trans (within_joinAll _ n _)) h
  add _ n _ _ h := hI _ _ (within_joinAll _ n _) h
  remove c n _ _ h := hI _ _ (within_leaveAll _ n _ c) h
  move c _ n d _ _ h := hI _ _ ((within_leaveAll _ n _ c).trans (within_join _ d _)) h
  merge c a b _ h := hI _ _ (within_merge _ c a b) h
  storePatch c n sel hc h := hI _ _ (((within_modPatch (PatchRec.store_inRange (State.setPatchChecks_label hc))).trans
    (within_modeChanges _ n _)).trans (within_styleChanges _ n _)) h
  dissolve c n k _ h := hI _ _ (within_dissolve _ c n k) h

theorem within_invariant (a : State) : Invariant (Within a) := .of_within (fun _ _ k h => h.trans k)

/-- A command leaves its link's queue no longer than it was: the response is queued behind it (R169). -/
theorem runRequest_links (c : Console) (r : Request) (s : State) (d : Console) :
    (s.link d).QuietMove ((runRequest c r s).1.link d) :=
  ((within_invariant s).runRequest c r (.refl s)).links d

theorem runParsed_links (c : Console) (x : Parsed) (s : State) (d : Console) :
    (s.link d).QuietMove ((runParsed c x s).1.link d) := by
  cases x with
  | request r => exact runRequest_links c r s d
  | unknown _ => exact .refl _
  | badLength => exact .refl _

/-! ### Frames -/

/-- A property that a response at the tail of a queue with room leaves. -/
def KeptByReply (I : State → Prop) : Prop := ∀ (s : State) (c : Console) (r : Response), (s.link c).queue.length < 4 → I s → I (s.replied c r)

theorem Receiver.take_stored {rx : Receiver} (ch : LineChar) (hs : rx.stored.length ≤ 65) : (rx.take ch).stored.length ≤ 65 := by
  have note : ∀ (x : Receiver) (f : FrameFault), (x.note f).stored = x.stored := fun x f => by unfold Receiver.note; split <;> rfl
  have store : ∀ (x : Receiver) (b : Byte), x.stored.length ≤ 65 → (x.store b).stored.length ≤ 65 := by
    intro x b hx
    unfold Receiver.store
    split
    · rename_i hlt
      rw [List.length_append]
      exact hlt
    · exact (congrArg List.length (note x _)).trans_le hx
  unfold Receiver.take
  simp only []
  split
  · exact (congrArg List.length (note rx.counted _)).trans_le hs
  · split
    · exact store rx.counted _ hs
    · split
      · exact hs
      · split
        · split <;> exact hs
        · exact store rx.counted _ hs

theorem State.whenRunning_keeps {I : State → Prop} {s : State} {f : State → State} (hf : ∀ {t}, I t → I (f t)) (i : I s) : I (s.whenRunning f) := by
  unfold State.whenRunning
  split
  · exact i
  · exact hf i

theorem State.pinEvent_keeps {I : State → Prop} {s : State} {pin f : State → State} (hpin : ∀ {t}, I t → I (pin t)) (hf : ∀ {t}, I t → I (f t)) (i : I s) :
    I (s.pinEvent pin f) := by
  unfold State.pinEvent
  split
  · exact hpin i
  · exact hf i

theorem next_keeps {I : State → Prop} {u t : State} (h : I u) (e : (Host.Outcome.next u : Host.Outcome State Fault Refusal) = .next t) : I t :=
  Host.Outcome.next.inj e ▸ h

namespace Invariant

variable {I : State → Prop} (h : Invariant I) (hr : KeptByReply I) {s : State}
include h

section
include hr

theorem answer {c : Console} {act : State → State × Response} (hq : ∀ t : State, (t.link c).QuietMove ((act t).1.link c))
    (ha : ∀ {t}, I t → I (act t).1) (i : I s) : I (s.answer c act) := by
  unfold State.answer
  split
  · exact h.modLink ⟨le_rfl, id⟩ i
  · split
    · exact i
    · rename_i hroom _
      exact hr _ c _ (lt_of_le_of_lt (hq s).queue (not_le.mp hroom)) (ha i)

theorem goodFrame {c : Console} {act : State → State × Response} (hq : ∀ t : State, (t.link c).QuietMove ((act t).1.link c))
    (ha : ∀ {t}, I t → I (act t).1) (i : I s) : I (s.goodFrame c act) := by
  unfold State.goodFrame
  split
  · exact i
  · exact h.answer hr hq ha (h.linkHeard c (h.closeFrame c i))

theorem command (c : Console) (r : Request) (i : I s) : I (s.goodFrame c (Machine.runRequest c r)) :=
  h.goodFrame hr (fun t => runRequest_links c r t c) (h.runRequest c r) i

theorem badFrameCloses (c : Console) (f : FrameFault) (i : I s) : I (s.badFrameCloses c f) := by
  unfold State.badFrameCloses
  split
  · exact i
  · exact h.answer hr (fun _ => .refl _) id (h.closeFrame c i)

theorem frameTimesOut (c : Console) (i : I s) : I (s.frameTimesOut c) := by
  unfold State.frameTimesOut
  split
  · exact h.badFrameCloses hr c _ i
  · exact i

theorem frameCloses (c : Console) (i : I s) : I (s.frameCloses c) := by
  unfold State.frameCloses
  split
  · exact h.badFrameCloses hr c _ i
  · refine h.goodFrame hr (fun t => runParsed_links c _ t c) (fun {t} it => ?_) i
    cases parsePayload (s.link c).rx.stored.dropLast with
    | request r => exact h.runRequest c r it
    | unknown _ => exact it
    | badLength => exact it

theorem hearCharacter (c : Console) (ch : LineChar) (i : I s) : I (s.hearCharacter c ch) := by
  unfold State.hearCharacter
  split
  · exact h.modLink ⟨le_rfl, fun _ => Nat.zero_le _⟩ i
  · split
    · split
      · exact h.frameCloses hr c i
      · exact h.modLink ⟨le_rfl, Receiver.take_stored ch⟩ i
    · exact i

end

/-! ### The transmitting half -/

theorem startResponse (c : Console) (i : I s) : I (s.startResponse c) := by
  unfold State.startResponse
  split
  · exact i
  · split
    · exact i
    · exact h.modLink ⟨le_rfl, id⟩ i

theorem finishResponse (c : Console) (i : I s) : I (s.finishResponse c) :=
  h.modLink ⟨(List.length_tail).trans_le (Nat.sub_le _ _), id⟩ (h.startResponse c i)

theorem responseLeaves (c : Console) (i : I s) : I (s.responseLeaves c) := by
  unfold State.responseLeaves
  split
  · exact i
  · split
    · exact h.restartTakesEffect (h.finishResponse c i)
    · exact h.finishResponse c i

theorem sendAlert (c : Console) (i : I s) : I (s.sendAlert c) := by
  unfold State.sendAlert
  simp only []
  split
  · exact h.modLink ⟨le_rfl, id⟩ i
  · exact i

/-! ### Events -/

theorem corPin (p : PortId) (l : Level) (i : I s) :
    I (s.pinEvent (fun t => t.setPort p ((t.port p).setCorPin l)) (fun t => (t.writePort p ((t.port p).corPinTo l)).settle)) :=
  State.pinEvent_keeps (h.setPort ⟨rfl, rfl, rfl, rfl, rfl, id⟩) (fun it => h.settle (h.write (PortRec.quiet_corPinTo _ _) it)) i

theorem emgPin (p : PortId) (l : Level) (i : I s) :
    I (s.pinEvent (fun t => t.setPort p ((t.port p).setEmgPin l))
      (fun t => ((t.setPort p ((t.port p).setEmgPin l)).conditionEmg p (t.port p).correctedEmg).settle)) :=
  State.pinEvent_keeps (h.setPort ⟨rfl, rfl, rfl, rfl, rfl, id⟩)
    (fun it => h.settle (h.conditionEmg p _ (h.setPort ⟨rfl, rfl, rfl, rfl, rfl, id⟩ it))) i

theorem txsPin (p : PortId) (l : Level) (i : I s) :
    I (s.pinEvent (fun t => t.setPort p ((t.port p).setTxsPin l)) (fun t => t.setPort p ((t.port p).txsTo l))) :=
  State.pinEvent_keeps (h.setPort ⟨rfl, rfl, rfl, rfl, rfl, id⟩) (h.setPort (PortRec.quiet_txsTo _ _)) i

theorem pttPin (c : Console) (l : Level) (i : I s) :
    I (s.pinEvent (fun t => t.modConsole c (fun r => r.setPttPin l)) (fun t => t.modConsole c (fun r => r.pttTo l))) :=
  State.pinEvent_keeps (h.modConsole ⟨rfl, id, id⟩) (h.modConsole ⟨rfl, id, id⟩) i

theorem glitchFilter (p : PortId) (x : FilterInput) (i : I s) :
    I (s.whenRunning (fun t => if (t.port p).holdRuns x then (t.filterRunsOut p x).settle else t)) :=
  State.whenRunning_keeps (fun it => by split; exacts [h.settle (h.filterRunsOut p x it), it]) i

theorem guardExpiry (p : PortId) (i : I s) :
    I (s.whenRunning (fun t =>
      if 0 < (t.port p).guardLeft then ((t.setPort p { t.port p with guardLeft := 0 }).guardRunsOut p).settle else t)) :=
  State.whenRunning_keeps (fun it => by
    split
    exacts [h.settle (h.guardRunsOut p (h.setPort (PortRec.quiet_unguard _) it)), it]) i

theorem lockoutExpiry (p : PortId) (i : I s) :
    I (s.whenRunning (fun t =>
      if 0 < (t.port p).lockoutLeft then ((t.setPort p { t.port p with lockoutLeft := 0 }).portBidsIfQualified p).settle else t)) :=
  State.whenRunning_keeps (fun it => by
    split
    exacts [h.settle (h.bids p (h.setPort ⟨rfl, rfl, rfl, rfl, rfl, id⟩ it)), it]) i

theorem faultWhere (p : PortId) (b : PortRec → Bool) (i : I s) :
    I (s.whenRunning (fun t => if b (t.port p) then (t.transmitFault p).settle else t)) :=
  State.whenRunning_keeps (fun it => by split; exacts [h.settle (h.transmitFault p it), it]) i

theorem reachesLimit (n : SlotId) (i : I s) : I (s.reachesLimit n) := by
  unfold State.reachesLimit
  split
  · rename_i t limit ht _
    split
    · refine h.timesOut n t ?_ (h.elapsed n t limit ht i)
      rw [State.modPatch_patch, if_pos rfl]
      exact ht
    · exact i
  · exact i

theorem pttFilter (c : Console) (i : I s) :
    I (s.whenRunning (fun t => if 0 < (t.console c).pttHold then (t.pttFilterRunsOut c).settle else t)) :=
  State.whenRunning_keeps (fun it => by split; exacts [h.settle (h.pttFilterRunsOut c it), it]) i

/-- Every row of the table. -/
theorem exec (hr : KeptByReply I) (x : Instr) (i : I s) {t : State} (e : Machine.exec x s = .next t) : I t := by
  cases x with
  | powerOn => exact next_keeps (h.powerUp i) e
  | resetLineAsserted => exact next_keeps (h.assertReset i) e
  | resetLineReleased => exact next_keeps (h.releaseReset i) e
  | corLineChange p l => exact next_keeps (h.corPin p l i) e
  | emgLineChange p l => exact next_keeps (h.emgPin p l i) e
  | glitchFilterExpiry p x => exact next_keeps (h.glitchFilter p x i) e
  | qualifyTimerExpiry p => exact next_keeps (State.whenRunning_keeps (fun it => h.settle (h.write (PortRec.quiet_qualifyExpires _) it)) i) e
  | dropTimerExpiry p => exact next_keeps (State.whenRunning_keeps (fun it => h.settle (h.write (PortRec.quiet_dropExpires _) it)) i) e
  | guardExpiry p => exact next_keeps (h.guardExpiry p i) e
  | lockoutExpiry p => exact next_keeps (h.lockoutExpiry p i) e
  | txsChange p l => exact next_keeps (h.txsPin p l i) e
  | keyUpExpiry p => exact next_keeps (State.whenRunning_keeps (fun it => h.settle (h.keyUpRunsOut p it)) i) e
  | startWindowExpiry p => exact next_keeps (h.faultWhere p _ i) e
  | lossExpiry p => exact next_keeps (h.faultWhere p _ i) e
  | hangExpiry n => exact next_keeps (State.whenRunning_keeps (fun it => h.settle (h.hangRunsOut n it)) i) e
  | timeOut n => exact next_keeps (State.whenRunning_keeps (fun it => h.settle (h.reachesLimit n it)) i) e
  | consolePttLineChange c l => exact next_keeps (h.pttPin c l i) e
  | pttFilterExpiry c => exact next_keeps (h.pttFilter c i) e
  | silenceExpiry c => exact next_keeps (State.whenRunning_keeps (fun it => h.settle (h.silenceRunsOut c it)) i) e
  | alertByteSent c => exact next_keeps (State.whenRunning_keeps (h.sendAlert c) i) e
  | audioFrame samples => exact next_keeps (State.whenRunning_keeps h.audio i) e
  | partialFrameDropped c => exact next_keeps (State.whenRunning_keeps (h.modLink ⟨le_rfl, fun _ => Nat.zero_le _⟩) i) e
  | badFrame c f k => exact next_keeps (h.badFrameCloses hr c _ i) e
  | frameTimeout c => exact next_keeps (State.whenRunning_keeps (h.frameTimesOut hr c) i) e
  | unknownCommand c k => exact next_keeps (h.goodFrame hr (fun _ => .refl _) id i) e
  | responseTransmissionStart c => exact next_keeps (State.whenRunning_keeps (h.startResponse c) i) e
  | responseSent c => exact next_keeps (State.whenRunning_keeps (h.responseLeaves c) i) e
  | characterReceived c ch => exact next_keeps (State.whenRunning_keeps (h.hearCharacter hr c ch) i) e
  | queryUnit c => exact next_keeps (h.command hr c .queryUnit i) e
  | restart c => exact next_keeps (h.command hr c .restart i) e
  | setLink c t m => exact next_keeps (h.command hr c (.setLink t m) i) e
  | readNotice c => exact next_keeps (h.command hr c .readNotice i) e
  | setPort c p sel => exact next_keeps (h.command hr c (.setPort p sel) i) e
  | queryPort c p => exact next_keeps (h.command hr c (.queryPort p) i) e
  | clearPortConditions c p sel => exact next_keeps (h.command hr c (.clearPortConditions p sel) i) e
  | reservePort c p => exact next_keeps (h.command hr c (.reservePort p) i) e
  | releasePort c p => exact next_keeps (h.command hr c (.releasePort p) i) e
  | createPatch c n l ps => exact next_keeps (h.command hr c (.createPatch n l ps) i) e
  | addMembers c n ps => exact next_keeps (h.command hr c (.addMembers n ps) i) e
  | removeMembers c n ps => exact next_keeps (h.command hr c (.removeMembers n ps) i) e
  | moveMember c p n => exact next_keeps (h.command hr c (.moveMember p n) i) e
  | mergePatches c a b => exact next_keeps (h.command hr c (.mergePatches a b) i) e
  | setPatch c n sel => exact next_keeps (h.command hr c (.setPatch n sel) i) e
  | dissolveNow c n => exact next_keeps (h.command hr c (.dissolve n 0) i) e
  | dissolveWhenClear c n => exact next_keeps (h.command hr c (.dissolve n 1) i) e
  | queryPatch c n => exact next_keeps (h.command hr c (.queryPatch n) i) e
  | listPatches c => exact next_keeps (h.command hr c .listPatches i) e
  | setSharing c n v => exact next_keeps (h.command hr c (.setSharing n v) i) e
  | takeOver c n => exact next_keeps (h.command hr c (.takeOver n) i) e
  | setConsole c m t => exact next_keeps (h.command hr c (.setConsole m t) i) e
  | setListen c es => exact next_keeps (h.command hr c (.setListen es) i) e
  | setTalkTarget c k n => exact next_keeps (h.command hr c (.setTalkTarget k n) i) e
  | seize c => exact next_keeps (h.command hr c .seize i) e
  | unseize c => exact next_keeps (h.command hr c .unseize i) e

/-! ### The millisecond -/

theorem carrierTimers (old : State) (p : PortId) (i : I s) : I (State.carrierTimers old s p) := by
  have filtered : ∀ {t}, I t → I (State.corFilterDue old t p) := fun {t} it => by
    unfold State.corFilterDue
    split
    · exact h.setPort ⟨rfl, rfl, rfl, rfl, rfl, id⟩ it
    · exact h.filterRunsOut p .cor it
  exact State.due_keeps (h.write (PortRec.quiet_dropExpires _)) (State.due_keeps (h.write (PortRec.quiet_qualifyExpires _))
    (State.due_keeps filtered i))

theorem portTimers (old : State) (p : PortId) (i : I s) : I (State.portTimers old s p) :=
  State.due_keeps (fun it => h.settle (h.transmitFault p it)) (State.due_keeps (fun it => h.settle (h.transmitFault p it))
    (State.due_keeps (fun it => h.settle (h.keyUpRunsOut p it)) (State.due_keeps (fun it => h.settle (h.bids p it))
      (State.due_keeps (fun it => h.settle (h.takeFilteredEmg p _ it)) i))))

theorem patchTimers (old : State) (n : SlotId) (i : I s) : I (State.patchTimers old s n) := by
  unfold State.patchTimers
  simp only []
  have hung : I (s.due (ranOut (old.patch n).hangLeft (s.patch n).hangLeft) (fun t => (t.hangRunsOut n).settle)) :=
    State.due_keeps (fun it => h.settle (h.hangRunsOut n it)) i
  revert hung
  generalize s.due (ranOut (old.patch n).hangLeft (s.patch n).hangLeft) (fun t => (t.hangRunsOut n).settle) = u
  intro hung
  split
  · rename_i t ht
    unfold State.due
    split
    · exact h.settle (h.timesOut n t ht hung)
    · exact hung
  · exact hung

theorem consoleTimers (hr : KeptByReply I) (old : State) (c : Console) (i : I s) : I (State.consoleTimers old s c) := by
  unfold State.consoleTimers
  exact State.due_keeps (f := fun t => t.frameTimesOut c) (h.frameTimesOut hr c)
    (State.due_keeps (f := fun t => (t.silenceRunsOut c).settle) (fun it => h.settle (h.silenceRunsOut c it))
      (State.due_keeps (f := fun t => (t.pttFilterRunsOut c).settle) (fun it => h.settle (h.pttFilterRunsOut c it)) i))

theorem guardTimers (old : State) (p : PortId) (i : I s) : I (State.guardTimers old s p) := State.due_keeps (h.guardRunsOut p) i

theorem tick (hr : KeptByReply I) (i : I s) : I s.tick := by
  unfold State.tick
  split
  · exact i
  · exact h.settle (foldl_keeps (h.guardTimers s) allPorts (h.consoleTimers hr s .B (h.consoleTimers hr s .A
      (foldl_keeps (h.patchTimers s) allSlots (foldl_keeps (h.portTimers s) allPorts
        (h.settle (foldl_keeps (h.carrierTimers s) allPorts (h.count i))))))))

/-- An invariant is kept by every step. -/
theorem step (hp : ∀ (s : State) (l : List Instr), I s → I { s with pending := l }) (hr : KeptByReply I) (i : I s) {t : State} (e : Machine.step s = .next t) : I t := by
  unfold Machine.step at e
  split at e
  · obtain rfl := Host.Outcome.next.inj e
    exact h.tick hr i
  · exact h.exec hr _ (hp s _ i) e

end Invariant

/-! ### The statements on masked machines and on the bounds -/

theorem State.replied_link (s : State) (c d : Console) (r : Response) :
    (s.replied c r).link d = if d = c then { s.link c with queue := (s.link c).queue ++ [r] } else s.link d := State.modLink_link _ _ _ _

theorem replied_linksBounded {s : State} {c : Console} {r : Response} (hq : (s.link c).queue.length < 4) (h : s.linksBounded) :
    (s.replied c r).linksBounded := by
  intro d
  refine ⟨?_, (h d).2⟩
  rw [State.replied_link]
  split
  · refine ⟨?_, (h c).1.2⟩
    rw [List.length_append]
    exact hq
  · exact (h d).1

theorem linksBounded_of_within {s t : State} (k : Within s t) (h : s.linksBounded) : t.linksBounded := fun c =>
  ⟨⟨(k.links c).queue.trans (h c).1.1, (k.links c).stored (h c).1.2⟩, k.notices c (h c).2⟩

theorem settingsInRange_of_within {s t : State} (k : Within s t) (h : s.settingsInRange) : t.settingsInRange :=
  ⟨fun p => k.cfg p (h.1 p), fun n => k.patches n (h.2.1 n), fun c => k.consoles c (h.2.2 c)⟩

/-- Settles O55: every action keeps a masked machine CLEAR. -/
theorem maskedMachinesStayClear : Obligations.MaskedMachinesStayClear := by
  unfold Obligations.MaskedMachinesStayClear
  intro s t h e
  exact (Invariant.of_within (I := State.maskedClear) (fun _ _ k h p => k.masked p (h p))).step (fun _ _ h => h) (fun _ _ _ _ h => h) h e

/-- Settles O58: every action stays within the bounds, and only a response with room is queued. -/
theorem limitsAreKept : Obligations.LimitsAreKept := by
  unfold Obligations.LimitsAreKept
  exact fun s t e => ⟨fun h => (Invariant.of_within (fun _ _ => linksBounded_of_within)).step (fun _ _ h => h) (fun _ _ _ => replied_linksBounded) h e,
    fun h => (Invariant.of_within (fun _ _ => settingsInRange_of_within)).step (fun _ _ h => h) (fun _ _ _ _ h => h) h e⟩

end Sys2Proof.Machine

/-! What the arbiter's operations make of one patch's record, said once for each of them, and Still: what an operation leaves to the patch
table and the arbiter. -/

namespace Sys2Proof.Machine

/-! ### Putting a bid in its place (R70, R80) -/

/-- An element put in behind a leading run keeps a list in order, where the run's elements may stand before it and every other element
behind it. -/
theorem pairwise_insert {α : Type} {R : α → α → Prop} (q : α → Bool) {x : α} {l : List α} (hl : l.Pairwise R)
    (hbefore : ∀ a ∈ l, q a = true → R a x) (hbehind : ∀ a ∈ l, q a = false → R x a ∧ ∀ b ∈ l, R a b → R x b) :
    (l.takeWhile q ++ x :: l.dropWhile q).Pairwise R := by
  induction l with
  | nil => simp
  | cons a l ih =>
    obtain ⟨ha, hl⟩ := List.pairwise_cons.mp hl
    cases hq : q a with
    | true =>
      rw [List.takeWhile_cons_of_pos hq, List.dropWhile_cons_of_pos hq, List.cons_append]
      refine List.pairwise_cons.mpr ⟨fun b hb => ?_, ih hl (fun b hb => hbefore b (List.mem_cons_of_mem _ hb)) (fun b hb hqb => ?_)⟩
      · rcases List.mem_append.mp hb with hb | hb
        · exact ha b (List.takeWhile_subset _ hb)
        · rcases List.mem_cons.mp hb with rfl | hb
          · exact hbefore a List.mem_cons_self hq
          · exact ha b (List.dropWhile_subset _ hb)
      · obtain ⟨h1, h2⟩ := hbehind b (List.mem_cons_of_mem _ hb) hqb
        exact ⟨h1, fun d hd => h2 d (List.mem_cons_of_mem _ hd)⟩
    | false =>
      have hq' : ¬ q a = true := by rw [hq]; decide
      rw [List.takeWhile_cons_of_neg hq', List.dropWhile_cons_of_neg hq', List.nil_append]
      obtain ⟨h1, h2⟩ := hbehind a List.mem_cons_self hq
      refine List.pairwise_cons.mpr ⟨fun b hb => ?_, List.pairwise_cons.mpr ⟨ha, hl⟩⟩
      rcases List.mem_cons.mp hb with rfl | hb
      · exact h1
      · exact h2 b (List.mem_cons_of_mem _ hb) (ha b hb)

theorem perm_insert {α : Type} (q : α → Bool) (x : α) (l : List α) : (l.takeWhile q ++ x :: l.dropWhile q).Perm (x :: l) := by
  have h := List.perm_middle (a := x) (l₁ := l.takeWhile q) (l₂ := l.dropWhile q)
  rwa [List.takeWhile_append_dropWhile] at h

/-- A bid list in order of effective priority (R70). -/
abbrev Sorted (prio : Source → Nat) (l : List Source) : Prop := l.Pairwise (fun a b => prio b ≤ prio a)

theorem State.insertBid_perm (s : State) (src : Source) (l : List Source) : (s.insertBid src l).Perm (src :: l) := perm_insert _ _ _
theorem State.insertAhead_perm (s : State) (src : Source) (l : List Source) : (s.insertAhead src l).Perm (src :: l) := perm_insert _ _ _

theorem State.insertBid_sorted {s : State} {l : List Source} (src : Source) (h : Sorted s.priority l) :
    Sorted s.priority (s.insertBid src l) :=
  pairwise_insert _ h (fun _ _ ha => of_decide_eq_true ha) (fun _ _ ha =>
    have hlt := not_le.mp (of_decide_eq_false ha)
    ⟨hlt.le, fun _ _ hb => hb.trans hlt.le⟩)

theorem State.insertAhead_sorted {s : State} {l : List Source} (src : Source) (h : Sorted s.priority l) :
    Sorted s.priority (s.insertAhead src l) :=
  pairwise_insert _ h (fun _ _ ha => (of_decide_eq_true ha).le) (fun _ _ ha =>
    have hle := not_lt.mp (of_decide_eq_false ha)
    ⟨hle, fun _ _ hb => hb.trans hle⟩)

theorem State.insertBid_congr {s t : State} (h : ∀ src, t.priority src = s.priority src) (src : Source) (l : List Source) :
    t.insertBid src l = s.insertBid src l := by
  simp only [State.insertBid, h]
theorem State.insertAhead_congr {s t : State} (h : ∀ src, t.priority src = s.priority src) (src : Source) (l : List Source) :
    t.insertAhead src l = s.insertAhead src l := by
  simp only [State.insertAhead, h]

theorem firstConsole_mem {l : List Source} {c : Console} (h : firstConsole l = some c) : .console c ∈ l := by
  induction l with
  | nil => cases h
  | cons a l ih =>
    cases a with
    | port p => exact List.mem_cons_of_mem _ (ih h)
    | console d => obtain rfl := Option.some.inj h; exact List.mem_cons_self

/-! ### One patch's record in order -/

/-- State.bidsInOrder, of a record alone. -/
def PatchRec.inOrder (prio : Source → Nat) (r : PatchRec) : Prop :=
  Sorted prio r.bids ∧ r.bids.Nodup ∧ (∀ src ∈ r.bids, r.talker ≠ some src ∧ r.partner.map Source.console ≠ some src) ∧
    (r.partner.isSome = true → r.style = .mix ∧ r.portTalker.isSome = true)

theorem State.bidsInOrder_iff (s : State) (n : SlotId) : s.bidsInOrder n ↔ (s.patch n).inOrder s.priority := Iff.rfl

theorem PatchRec.stands_iff {r : PatchRec} {src : Source} :
    r.stands src = true ↔ r.talker = some src ∨ r.partner.map Source.console = some src ∨ src ∈ r.bids := by
  simp [PatchRec.stands, or_assoc]

theorem PatchRec.stands_eq_false {r : PatchRec} {src : Source} :
    r.stands src = false ↔ r.talker ≠ some src ∧ r.partner.map Source.console ≠ some src ∧ src ∉ r.bids := by
  rw [← Bool.not_eq_true, PatchRec.stands_iff]
  tauto

@[simp] theorem PatchRec.portTalker_eq_some {r : PatchRec} {p : PortId} : r.portTalker = some p ↔ r.talker = some (.port p) := by
  unfold PatchRec.portTalker
  split
  next h => rw [h]; simp
  next h => exact Iff.intro (fun e => nomatch e) (fun e => absurd e (h p))

theorem PatchRec.portTalker_isSome {r : PatchRec} : r.portTalker.isSome = true ↔ ∃ p, r.talker = some (.port p) := by
  rw [Option.isSome_iff_exists]
  simp

/-- Beside a console talker, or none, there is no partner (R88). -/
theorem PatchRec.inOrder.partner_of_talker {prio : Source → Nat} {r : PatchRec} (h : r.inOrder prio)
    (ht : ∀ p, r.talker ≠ some (.port p)) : r.partner = none := by
  by_contra hp
  obtain ⟨p, hp⟩ := PatchRec.portTalker_isSome.mp (h.2.2.2 (Option.isSome_iff_ne_none.mpr hp)).2
  exact ht p hp

theorem PatchRec.inOrder.partner_of_preempt {prio : Source → Nat} {r : PatchRec} (h : r.inOrder prio) (hs : r.style = .preempt) :
    r.partner = none := by
  by_contra hp
  have := (h.2.2.2 (Option.isSome_iff_ne_none.mpr hp)).1
  rw [hs] at this
  cases this

/-- What order and agreement read of a record: the state, the style and the arbiter's three fields. -/
structure PatchRec.SameFloor (r r' : PatchRec) : Prop where
  state : r'.state = r.state
  style : r'.style = r.style
  talker : r'.talker = r.talker
  partner : r'.partner = r.partner
  bids : r'.bids = r.bids

theorem PatchRec.SameFloor.portTalker {r r' : PatchRec} (h : r.SameFloor r') : r'.portTalker = r.portTalker := by
  unfold PatchRec.portTalker; rw [h.talker]

theorem PatchRec.SameFloor.inOrder {prio : Source → Nat} {r r' : PatchRec} (h : r.SameFloor r') (ho : r.inOrder prio) : r'.inOrder prio := by
  unfold PatchRec.inOrder at *
  rw [h.bids, h.talker, h.partner, h.style, h.portTalker]
  exact ho

theorem PatchRec.SameFloor.floorAgrees {r r' : PatchRec} (h : r.SameFloor r') (ho : r.floorAgrees) : r'.floorAgrees := by
  unfold PatchRec.floorAgrees at *
  rw [h.state, h.bids, h.talker, h.partner]
  exact ho

theorem PatchRec.SameFloor.stands {r r' : PatchRec} (h : r.SameFloor r') (src : Source) : r'.stands src = r.stands src := by
  unfold PatchRec.stands
  rw [h.bids, h.talker, h.partner]

/-- A patch with neither talker nor partner nor bid is in order. -/
theorem PatchRec.inOrder_of_none {prio : Source → Nat} {r : PatchRec} (hp : r.partner = none) (hb : r.bids = []) : r.inOrder prio := by
  unfold PatchRec.inOrder Sorted
  rw [hp, hb]
  simp

/-! ### Grant (R77) -/

/-- The record a grant leaves (R77, R117). -/
def PatchRec.granted (r : PatchRec) (src : Source) : PatchRec :=
  { r with
    state := .talk
    talker := some src
    partner := if r.partner.map Source.console = some src then none else r.partner
    bids := r.bids.erase src
    hangLeft := 0
    elapsed := 0
    limit := if isConsole src then none else some (r.timeOutLimit * 1000) }

theorem State.grant_patch_eq (s : State) (n m : SlotId) (src : Source) :
    (s.grant n src).patch m = if m = n then (s.patch n).granted src else s.patch m := State.grant_patch s n m src

theorem PatchRec.granted_floorAgrees (r : PatchRec) (src : Source) : (r.granted src).floorAgrees := rfl

theorem PatchRec.granted_partner {r : PatchRec} {src : Source} (h : r.partner = none ∨ r.partner.map Source.console = some src) :
    (r.granted src).partner = none := by
  rcases h with h | h <;> simp [PatchRec.granted, h]

theorem PatchRec.granted_inOrder {prio : Source → Nat} {r : PatchRec} {src : Source} (hs : Sorted prio r.bids) (hn : r.bids.Nodup)
    (hp : r.partner = none ∨ r.partner.map Source.console = some src) : (r.granted src).inOrder prio := by
  have partner := PatchRec.granted_partner hp
  refine ⟨hs.sublist (List.erase_sublist), hn.erase _, fun x hx => ⟨fun e => ?_, ?_⟩, fun h => ?_⟩
  · obtain rfl := Option.some.inj e
    exact hn.not_mem_erase hx
  · rw [partner]; simp
  · rw [partner] at h; cases h

theorem PatchRec.granted_stands {r : PatchRec} {src x : Source} (hp : r.partner = none ∨ r.partner.map Source.console = some src)
    (h : (r.granted src).stands x = true) : x = src ∨ x ∈ r.bids := by
  rcases PatchRec.stands_iff.mp h with h | h | h
  · exact .inl (Option.some.inj h).symm
  · rw [PatchRec.granted_partner hp] at h; cases h
  · exact .inr (List.mem_of_mem_erase h)

/-! ### Release (R84, R85) -/

/-- The record without its talker (R84). -/
def PatchRec.dropped (r : PatchRec) : PatchRec := { r with talker := none, limit := none }

/-- The record a release in TALK leaves, by the order of R85. -/
def PatchRec.released (r : PatchRec) : PatchRec :=
  match r.partner, r.bids with
  | some c, _ => r.dropped.granted (.console c)
  | none, b :: _ => r.dropped.granted b
  | none, [] => if r.hangTime = 0 then { r.dropped with state := .quiet } else { r.dropped with state := .hang, hangLeft := r.hangTime }

theorem State.dropTalker_patch_eq (s : State) (n m : SlotId) :
    (s.dropTalker n).patch m = if m = n then (s.patch n).dropped else s.patch m := State.dropTalker_patch s n m

theorem State.releaseOutcome_patch (s : State) (n m : SlotId) (h : (s.patch n).dropped = s.patch n) :
    (s.releaseOutcome n).patch m = if m = n then (s.patch n).released else s.patch m := by
  cases hp : (s.patch n).partner with
  | some d => simp only [State.releaseOutcome, PatchRec.released, hp]; rw [State.grant_patch_eq, h]
  | none =>
    cases hb : (s.patch n).bids with
    | cons x l => simp only [State.releaseOutcome, PatchRec.released, hp, hb]; rw [State.grant_patch_eq, h]
    | nil => simp only [State.releaseOutcome, PatchRec.released, hp, hb]; rw [State.modPatch_patch, h]

/-- A release outside CLOSING writes the released record and no other patch (R84, R85). -/
theorem State.release_patch {s : State} {n : SlotId} (h : (s.patch n).state ≠ .closing) (but : Option Console) (m : SlotId) :
    (s.release n but).patch m = if m = n then (s.patch n).released else s.patch m := by
  have hd : (s.dropTalker n).patch n = (s.patch n).dropped := by rw [State.dropTalker_patch_eq, if_pos rfl]
  unfold State.release
  simp only []
  rw [if_neg h, State.releaseOutcome_patch _ _ _ (by rw [hd]; rfl), hd, State.dropTalker_patch_eq]
  split
  · rfl
  · rfl

theorem PatchRec.released_members (r : PatchRec) : r.released.members = r.members := by
  unfold PatchRec.released
  split
  · rfl
  · rfl
  · split <;> rfl

theorem PatchRec.released_used (r : PatchRec) : r.released.state ≠ .unused := by
  unfold PatchRec.released
  split
  · exact nofun
  · exact nofun
  · split <;> exact nofun

theorem PatchRec.released_floorAgrees (r : PatchRec) : r.released.floorAgrees := by
  unfold PatchRec.released
  split
  · exact PatchRec.granted_floorAgrees _ _
  · exact PatchRec.granted_floorAgrees _ _
  · rename_i hp hb
    split <;> exact ⟨rfl, hp, hb⟩

theorem PatchRec.released_inOrder {prio : Source → Nat} {r : PatchRec} (h : r.inOrder prio) : r.released.inOrder prio := by
  obtain ⟨hsorted, hnodup, _, _⟩ := h
  unfold PatchRec.released
  split
  · rename_i c _ hp
    exact PatchRec.granted_inOrder (r := r.dropped) hsorted hnodup (.inr (by show r.partner.map _ = _; rw [hp]; rfl))
  · rename_i hp _
    exact PatchRec.granted_inOrder (r := r.dropped) hsorted hnodup (.inl hp)
  · rename_i hp hb
    split <;> exact PatchRec.inOrder_of_none hp hb

/-- After a release the former talker stands no longer, and nobody does who did not (R84, R85). -/
theorem PatchRec.released_stands {prio : Source → Nat} {r : PatchRec} {x : Source} (h : r.inOrder prio) (hx : r.released.stands x = true) :
    r.stands x = true ∧ r.talker ≠ some x := by
  obtain ⟨_, _, hapart, hpartner⟩ := h
  have listed : x ∈ r.bids → r.stands x = true ∧ r.talker ≠ some x := fun hm =>
    ⟨PatchRec.stands_iff.mpr (.inr (.inr hm)), (hapart x hm).1⟩
  unfold PatchRec.released at hx
  split at hx
  · rename_i c _ hp
    rcases PatchRec.granted_stands (r := r.dropped) (.inr (by show r.partner.map _ = _; rw [hp]; rfl)) hx with rfl | hm
    · obtain ⟨p, ht⟩ := PatchRec.portTalker_isSome.mp (hpartner (by rw [hp]; rfl)).2
      exact ⟨PatchRec.stands_iff.mpr (.inr (.inl (by rw [hp]; rfl))), by rw [ht]; simp⟩
    · exact listed hm
  · rename_i b l hp hb
    rcases PatchRec.granted_stands (r := r.dropped) (.inl hp) hx with rfl | hm
    · exact listed (by rw [hb]; exact List.mem_cons_self)
    · exact listed hm
  · rename_i hp hb
    exfalso
    have : r.dropped.stands x = true := by split at hx <;> exact hx
    rcases PatchRec.stands_iff.mp this with e | e | e
    · cases e
    · have e' : r.partner.map Source.console = some x := e
      rw [hp] at e'; cases e'
    · have e' : x ∈ r.bids := e
      rw [hb] at e'; cases e'

/-! ### Pre-emption (R79, R80) -/

/-- The record of a patch whose port talker t is pre-empted by src, the list with t in it given (R79, R80). -/
def PatchRec.preempted (r : PatchRec) (src : Source) (bids : List Source) : PatchRec := { r.dropped.granted src with bids := bids }

theorem PatchRec.preempted_inOrder {s : State} {r : PatchRec} {src : Source} {t : PortId} (h : r.inOrder s.priority)
    (hstyle : r.style = .preempt) (ht : r.talker = some (.port t)) (hsrc : src ≠ .port t) :
    (r.preempted src (s.insertAhead (.port t) (r.bids.erase src))).inOrder s.priority := by
  have partner := h.partner_of_preempt hstyle
  obtain ⟨hsorted, hnodup, hapart, _⟩ := h
  have granted := PatchRec.granted_inOrder (r := r.dropped) (src := src) hsorted hnodup (.inl partner)
  have hp : (r.dropped.granted src).partner = none := PatchRec.granted_partner (.inl partner)
  have perm := s.insertAhead_perm (.port t) (r.bids.erase src)
  have hnot : Source.port t ∉ r.bids.erase src := fun hm => (hapart _ (List.mem_of_mem_erase hm)).1 ht
  refine ⟨State.insertAhead_sorted _ granted.1, perm.nodup_iff.mpr (List.nodup_cons.mpr ⟨hnot, hnodup.erase _⟩), fun x hx => ⟨fun e => ?_, ?_⟩, ?_⟩
  · obtain rfl := Option.some.inj e
    rcases List.mem_cons.mp (perm.mem_iff.mp hx) with hx | hx
    · exact hsrc hx
    · exact hnodup.not_mem_erase hx
  · show (r.dropped.granted src).partner.map _ ≠ _
    rw [hp]; simp
  · intro hsome
    have : (r.dropped.granted src).partner.isSome = true := hsome
    rw [hp] at this; cases this

theorem PatchRec.preempted_stands {s : State} {r : PatchRec} {src x : Source} {t : PortId} (hp : r.partner = none)
    (h : (r.preempted src (s.insertAhead (.port t) (r.bids.erase src))).stands x = true) : x = src ∨ x = .port t ∨ x ∈ r.bids := by
  rcases PatchRec.stands_iff.mp h with h | h | h
  · exact .inl (Option.some.inj h).symm
  · have h' : (r.dropped.granted src).partner.map Source.console = some x := h
    rw [PatchRec.granted_partner (r := r.dropped) (.inl hp)] at h'; cases h'
  · rcases List.mem_cons.mp ((s.insertAhead_perm _ _).mem_iff.mp h) with h | h
    · exact .inr (.inl h)
    · exact .inr (.inr (List.mem_of_mem_erase h))

/-! ### Listing, withdrawing, placing again, and the partner -/

theorem PatchRec.listed_inOrder {s : State} {r : PatchRec} {src : Source} (h : r.inOrder s.priority) (hs : r.stands src = false) :
    ({ r with bids := s.insertBid src r.bids } : PatchRec).inOrder s.priority := by
  obtain ⟨hsorted, hnodup, hapart, hpartner⟩ := h
  obtain ⟨ht, hp, hb⟩ := PatchRec.stands_eq_false.mp hs
  have perm := s.insertBid_perm src r.bids
  refine ⟨State.insertBid_sorted _ hsorted, perm.nodup_iff.mpr (List.nodup_cons.mpr ⟨hb, hnodup⟩), fun x hx => ?_, hpartner⟩
  rcases List.mem_cons.mp (perm.mem_iff.mp hx) with rfl | hx
  · exact ⟨ht, hp⟩
  · exact hapart x hx

theorem PatchRec.listed_stands {s : State} {r : PatchRec} {src x : Source}
    (h : ({ r with bids := s.insertBid src r.bids } : PatchRec).stands x = true) : r.stands x = true ∨ x = src := by
  rcases PatchRec.stands_iff.mp h with h | h | h
  · exact .inl (PatchRec.stands_iff.mpr (.inl h))
  · exact .inl (PatchRec.stands_iff.mpr (.inr (.inl h)))
  · rcases List.mem_cons.mp ((s.insertBid_perm _ _).mem_iff.mp h) with h | h
    · exact .inr h
    · exact .inl (PatchRec.stands_iff.mpr (.inr (.inr h)))

theorem PatchRec.erased_inOrder {prio : Source → Nat} {r : PatchRec} (h : r.inOrder prio) (src : Source) :
    ({ r with bids := r.bids.erase src } : PatchRec).inOrder prio := by
  obtain ⟨hsorted, hnodup, hapart, hpartner⟩ := h
  exact ⟨hsorted.sublist List.erase_sublist, hnodup.erase _, fun x hx => hapart x (List.mem_of_mem_erase hx), hpartner⟩

/-- Once withdrawn, a source whose bid was all its standing stands no longer (R83). -/
theorem PatchRec.erased_stands {r : PatchRec} {src x : Source} (h : ({ r with bids := r.bids.erase src } : PatchRec).stands x = true) :
    r.stands x = true := by
  rcases PatchRec.stands_iff.mp h with h | h | h
  · exact PatchRec.stands_iff.mpr (.inl h)
  · exact PatchRec.stands_iff.mpr (.inr (.inl h))
  · exact PatchRec.stands_iff.mpr (.inr (.inr (List.mem_of_mem_erase h)))

/-- A listed entry placed again at its new priority, all others at theirs (R81). -/
theorem PatchRec.replaced_inOrder {s : State} {prio : Source → Nat} {r : PatchRec} {src : Source} (h : r.inOrder prio) (hm : src ∈ r.bids)
    (hprio : ∀ x, x ≠ src → s.priority x = prio x) :
    ({ r with bids := s.insertBid src (r.bids.erase src) } : PatchRec).inOrder s.priority := by
  obtain ⟨hsorted, hnodup, hapart, hpartner⟩ := h
  have hne : ∀ x ∈ r.bids.erase src, x ≠ src := fun x hx e => hnodup.not_mem_erase (e ▸ hx)
  have hrest : Sorted s.priority (r.bids.erase src) := by
    refine (hsorted.sublist List.erase_sublist).imp_of_mem (fun ha hb hab => ?_)
    rw [hprio _ (hne _ ha), hprio _ (hne _ hb)]
    exact hab
  have perm := s.insertBid_perm src (r.bids.erase src)
  refine ⟨State.insertBid_sorted _ hrest, perm.nodup_iff.mpr (List.nodup_cons.mpr ⟨hnodup.not_mem_erase, hnodup.erase _⟩), fun x hx => ?_, hpartner⟩
  rcases List.mem_cons.mp (perm.mem_iff.mp hx) with rfl | hx
  · exact hapart _ hm
  · exact hapart x (List.mem_of_mem_erase hx)

theorem PatchRec.replaced_stands {s : State} {r : PatchRec} {src x : Source} (hm : src ∈ r.bids)
    (h : ({ r with bids := s.insertBid src (r.bids.erase src) } : PatchRec).stands x = true) : r.stands x = true := by
  rcases PatchRec.stands_iff.mp h with h | h | h
  · exact PatchRec.stands_iff.mpr (.inl h)
  · exact PatchRec.stands_iff.mpr (.inr (.inl h))
  · rcases List.mem_cons.mp ((s.insertBid_perm _ _).mem_iff.mp h) with rfl | h
    · exact PatchRec.stands_iff.mpr (.inr (.inr hm))
    · exact PatchRec.stands_iff.mpr (.inr (.inr (List.mem_of_mem_erase h)))

/-- A list in which the source whose priority has changed does not stand stays in order. -/
theorem PatchRec.inOrder_congr {prio prio' : Source → Nat} {r : PatchRec} (h : r.inOrder prio) (hprio : ∀ x ∈ r.bids, prio' x = prio x) :
    r.inOrder prio' := by
  refine ⟨h.1.imp_of_mem (fun ha hb hab => ?_), h.2⟩
  rw [hprio _ ha, hprio _ hb]
  exact hab

theorem PatchRec.partnered_inOrder {prio : Source → Nat} {r : PatchRec} {c : Console} (h : r.inOrder prio) (hstyle : r.style = .mix)
    (ht : r.portTalker.isSome = true) (hc : .console c ∉ r.bids) : ({ r with partner := some c } : PatchRec).inOrder prio := by
  obtain ⟨hsorted, hnodup, hapart, _⟩ := h
  refine ⟨hsorted, hnodup, fun x hx => ⟨(hapart x hx).1, fun e => ?_⟩, fun _ => ⟨hstyle, ht⟩⟩
  obtain rfl := Option.some.inj e
  exact hc hx

theorem PatchRec.partnered_stands {r : PatchRec} {c : Console} {x : Source} (h : ({ r with partner := some c } : PatchRec).stands x = true) :
    r.stands x = true ∨ x = .console c := by
  rcases PatchRec.stands_iff.mp h with h | h | h
  · exact .inl (PatchRec.stands_iff.mpr (.inl h))
  · exact .inr (Option.some.inj h).symm
  · exact .inl (PatchRec.stands_iff.mpr (.inr (.inr h)))

theorem PatchRec.unpartnered_inOrder {prio : Source → Nat} {r : PatchRec} (h : Sorted prio r.bids) (hn : r.bids.Nodup)
    (ht : ∀ x ∈ r.bids, r.talker ≠ some x) : ({ r with partner := none } : PatchRec).inOrder prio :=
  ⟨h, hn, fun x hx => ⟨ht x hx, nofun⟩, nofun⟩

theorem PatchRec.unpartnered_stands {r : PatchRec} {x : Source} (h : ({ r with partner := none } : PatchRec).stands x = true) :
    r.stands x = true := by
  rcases PatchRec.stands_iff.mp h with h | h | h
  · exact PatchRec.stands_iff.mpr (.inl h)
  · cases h
  · exact PatchRec.stands_iff.mpr (.inr (.inr h))

theorem PatchRec.vacatePartner_state (r : PatchRec) : r.vacatePartner.state = r.state := by
  unfold PatchRec.vacatePartner; split <;> rfl
theorem PatchRec.vacatePartner_talker (r : PatchRec) : r.vacatePartner.talker = r.talker := by
  unfold PatchRec.vacatePartner; split <;> rfl

theorem PatchRec.vacatePartner_floorAgrees {r : PatchRec} (h : r.floorAgrees) : r.vacatePartner.floorAgrees := by
  unfold PatchRec.vacatePartner
  split
  · rename_i hc
    split at hc
    · rename_i hs
      unfold PatchRec.floorAgrees at h ⊢
      simp only [hs.1] at h ⊢
      exact h
    · cases hc
  · unfold PatchRec.floorAgrees at h ⊢
    simp only []
    split at h
    · exact ⟨h.1, trivial, h.2.2⟩
    · exact ⟨h.1, trivial, h.2.2⟩
    · exact ⟨h.1, trivial, h.2.2⟩
    · exact h
    · exact h

theorem PatchRec.vacatePartner_inOrder {prio : Source → Nat} {r : PatchRec} (h : r.inOrder prio) (hp : r.partner.isSome = true) :
    r.vacatePartner.inOrder prio := by
  have hfull := h
  obtain ⟨hsorted, hnodup, hapart, hpartner⟩ := h
  unfold PatchRec.vacatePartner
  split
  · rename_i d _
    exact PatchRec.partnered_inOrder (PatchRec.erased_inOrder hfull (.console d)) (hpartner hp).1 (hpartner hp).2 hnodup.not_mem_erase
  · exact PatchRec.unpartnered_inOrder hsorted hnodup (fun x hx => (hapart x hx).1)

/-- After a partner has left, it stands no longer, and nobody does who did not (R89). -/
theorem PatchRec.vacatePartner_stands {prio : Source → Nat} {r : PatchRec} {x : Source} (h : r.inOrder prio)
    (hx : r.vacatePartner.stands x = true) : r.stands x = true ∧ r.partner.map Source.console ≠ some x := by
  obtain ⟨_, _, hapart, hpartner⟩ := h
  have talking : r.talker = some x → r.partner.map Source.console ≠ some x := by
    intro ht e
    obtain ⟨c, hc, rfl⟩ := Option.map_eq_some_iff.mp e
    obtain ⟨p, hp⟩ := PatchRec.portTalker_isSome.mp (hpartner (by rw [hc]; rfl)).2
    rw [ht] at hp; cases hp
  have listed : x ∈ r.bids → r.stands x = true ∧ r.partner.map Source.console ≠ some x := fun hm =>
    ⟨PatchRec.stands_iff.mpr (.inr (.inr hm)), (hapart x hm).2⟩
  unfold PatchRec.vacatePartner at hx
  split at hx
  · rename_i d hd
    rcases PatchRec.stands_iff.mp hx with e | e | e
    · exact ⟨PatchRec.stands_iff.mpr (.inl e), talking e⟩
    · obtain rfl := Option.some.inj e
      split at hd
      · exact listed (firstConsole_mem hd)
      · cases hd
    · exact listed (List.mem_of_mem_erase e)
  · rcases PatchRec.stands_iff.mp hx with e | e | e
    · exact ⟨PatchRec.stands_iff.mpr (.inl e), talking e⟩
    · cases e
    · exact listed e

/-! ### What an operation leaves to the patch table and the arbiter -/

/-- From s to t every patch but those of ns, every console, and every port's patch and effective priority stand. -/
structure Still (ns : List SlotId) (s t : State) : Prop where
  patch : ∀ m, m ∉ ns → t.patch m = s.patch m
  console : ∀ c, t.console c = s.console c
  portPatch : ∀ p, (t.port p).patch = (s.port p).patch
  portPriority : ∀ p, (t.port p).priority = (s.port p).priority

namespace Still

variable {ns : List SlotId} {s t u : State}

theorem refl (s : State) : Still ns s s := ⟨fun _ _ => rfl, fun _ => rfl, fun _ => rfl, fun _ => rfl⟩

theorem trans (h : Still ns s t) (k : Still ns t u) : Still ns s u where
  patch m hm := (k.patch m hm).trans (h.patch m hm)
  console c := (k.console c).trans (h.console c)
  portPatch p := (k.portPatch p).trans (h.portPatch p)
  portPriority p := (k.portPriority p).trans (h.portPriority p)

theorem mono (h : Still [] s t) : Still ns s t := { h with patch := fun m _ => h.patch m (by simp) }

theorem priority (h : Still ns s t) (src : Source) : t.priority src = s.priority src := by
  cases src with
  | port p => exact h.portPriority p
  | console c => rfl

end Still

variable {ns : List SlotId}

theorem still_setPort {s : State} {p : PortId} {r : PortRec} (hp : r.patch = (s.port p).patch) (hq : r.priority = (s.port p).priority) :
    Still ns s (s.setPort p r) :=
  { Still.refl s with
    portPatch := fun q => by
      rw [State.setPort_port]; split
      next e => rw [e, hp]
      next => rfl
    portPriority := fun q => by
      rw [State.setPort_port]; split
      next e => rw [e, hq]
      next => rfl }

theorem still_raised (s : State) (l : List CarrierEvent) : Still ns s { s with raised := l } := { Still.refl s with }

theorem still_writePort {s : State} {p : PortId} {rn : PortRec × List CarrierNews} (hp : rn.1.patch = (s.port p).patch)
    (hq : rn.1.priority = (s.port p).priority) : Still ns s (s.writePort p rn) :=
  (still_setPort hp hq).trans (still_raised _ _)

theorem PortRec.remask_priority (old new : PortRec) : (PortRec.remask old new).1.priority = new.priority := by
  unfold PortRec.priority; rw [PortRec.remask_emergency, PortRec.remask_cfg]

/-- A request on a port record that leaves its patch and its effective priority. -/
theorem still_updPort {s : State} {p : PortId} {f : PortRec → PortRec} (hp : (f (s.port p)).patch = (s.port p).patch)
    (hq : (f (s.port p)).priority = (s.port p).priority) : Still ns s (s.updPort p f) where
  patch _ _ := State.updPort_patch _ _ _ _
  console _ := State.updPort_console _ _ _ _
  portPatch q := by
    rw [State.updPort_port]; split
    next e => rw [PortRec.remask_patch, hp, e]
    next => rfl
  portPriority q := by
    rw [State.updPort_port]; split
    next e => rw [PortRec.remask_priority, hq, e]
    next => rfl

theorem still_modPatch (s : State) (n : SlotId) (f : PatchRec → PatchRec) : Still [n] s (s.modPatch n f) :=
  ⟨fun m hm => by rw [State.modPatch_patch, if_neg (by simpa using hm)], fun _ => rfl, fun _ => rfl, fun _ => rfl⟩

theorem still_offer (s : State) (c : Console) (e : Notice) : Still ns s (s.offer c e) :=
  ⟨fun _ _ => by simp, fun _ => by simp, fun _ => by simp, fun _ => by simp⟩
theorem still_offerBoth (s : State) (e : Notice) : Still ns s (s.offerBoth e) := (still_offer s .A e).trans (still_offer _ .B e)

theorem still_foldl {α : Type} {f : State → α → State} (hf : ∀ s a, Still ns s (f s a)) (l : List α) (s : State) :
    Still ns s (l.foldl f s) :=
  foldl_keeps (I := Still ns s) (fun a h => h.trans (hf _ a)) l (.refl s)

theorem PortRec.fixedPart_priority {r r' : PortRec} (h : r'.fixedPart = r.fixedPart) : r'.priority = r.priority := by
  have he : r'.emergency = r.emergency := by have e := congrArg PortRec.emergency h; exact e
  unfold PortRec.priority
  rw [he, PortRec.fixedPart_cfg h]

theorem still_keyInto (s : State) (p : PortId) (up on : PortState) : Still ns s (s.updPort p (fun r => r.keyInto up on)) :=
  still_updPort (PortRec.keyInto_patch _ _ _) (PortRec.fixedPart_priority (PortRec.keyInto_fixed _ _ _))

theorem still_applyKey (s : State) (p : PortId) (d : KeyDecision) : Still ns s (s.applyKey p d) := by
  cases d with
  | key => exact still_keyInto s p _ _
  | unkey => exact still_updPort (f := fun r => r.unkeyInto .idle) rfl rfl
  | leave => exact .refl s

theorem still_evalPatch (s : State) (n : SlotId) : Still ns s (s.evalPatch n) :=
  still_foldl (f := fun acc p => acc.applyKey p (s.keyDecision n p)) (fun _ _ => still_applyKey _ _ _) _ _

theorem still_evalParked (s : State) (p : PortId) : Still ns s (s.evalParked p) := by
  unfold State.evalParked
  split
  · split
    · exact still_keyInto s p _ _
    · exact .refl s
  · split
    · split
      · exact .refl s
      · exact still_updPort (f := fun r => r.unkeyInto .parked) rfl rfl
    · exact .refl s

theorem still_evalPort (s : State) (p : PortId) : Still ns s (s.evalPort p) := by
  unfold State.evalPort
  split
  · exact still_evalParked s p
  · split
    · exact still_applyKey _ _ _
    · exact .refl s

theorem still_unkeyIfRelaying (s : State) (p : PortId) : Still ns s (s.unkeyIfRelaying p) := by
  unfold State.unkeyIfRelaying
  split
  · exact still_updPort (f := fun r => r.unkeyInto .idle) rfl rfl
  · exact .refl s

theorem still_keyUpRunsOut (s : State) (p : PortId) : Still ns s (s.keyUpRunsOut p) := by
  unfold State.keyUpRunsOut
  split
  · exact still_updPort rfl rfl
  · exact still_updPort rfl rfl
  · exact .refl s

theorem still_transmitFault (s : State) (p : PortId) : Still ns s (s.transmitFault p) := by
  unfold State.transmitFault
  exact Still.trans (still_updPort rfl rfl) (still_offerBoth _ _)

theorem still_idleTalker (s : State) (src : Option Source) : Still ns s (s.idleTalker src) := by
  unfold State.idleTalker
  split
  · split
    · exact still_updPort rfl rfl
    · exact .refl s
  · exact .refl s

theorem still_grant (s : State) (n : SlotId) (src : Source) : Still [n] s (s.grant n src) := by
  unfold State.grant
  refine Still.trans ?_ (still_offerBoth _ _)
  cases src with
  | port p => exact Still.trans (still_modPatch s n _) (still_updPort (p := p) rfl rfl)
  | console c => exact still_modPatch s n _

theorem still_dropTalker (s : State) (n : SlotId) : Still [n] s (s.dropTalker n) :=
  (still_modPatch s n _).trans (still_idleTalker _ _)

theorem still_release {s : State} {n : SlotId} (h : (s.patch n).state ≠ .closing) (but : Option Console) : Still [n] s (s.release n but) := by
  unfold State.release
  simp only []
  rw [if_neg h]
  refine (still_dropTalker s n).trans ?_
  unfold State.releaseOutcome
  split
  · exact still_grant _ _ _
  · exact still_grant _ _ _
  · exact still_modPatch _ _ _

theorem still_preempt (s : State) (n : SlotId) (src : Source) (t : PortId) : Still [n] s (s.preempt n src t) :=
  (((still_dropTalker s n).trans (still_grant _ _ _)).trans (still_modPatch _ n _)).trans (still_offerBoth _ _)

theorem State.preempt_patch (s : State) (n m : SlotId) (src : Source) (t : PortId) :
    (s.preempt n src t).patch m =
      if m = n then (s.patch n).preempted src (s.insertAhead (.port t) ((s.patch n).bids.erase src)) else s.patch m := by
  have still := (still_dropTalker s n).trans (still_grant _ n src)
  unfold State.preempt
  simp only [State.offerBoth_patch, State.modPatch_patch]
  rw [State.insertAhead_congr still.priority]
  simp only [State.grant_patch_eq, State.dropTalker_patch_eq]
  by_cases h : m = n
  · subst h; simp; rfl
  · simp [h]

end Sys2Proof.Machine

/-! Sound: memberships in agreement, and with them the floors and their order, through every action of the part. Settles the statements on
memberships and on floors. -/

namespace Sys2Proof.Machine

/-! ### Sound -/

/-- Source src has its place in patch n: a member port, or a console that talks to it with its request active (R70, R73). -/
def State.home (s : State) (n : SlotId) : Source → Prop
  | .port p => (s.port p).patch = some n
  | .console c => (s.console c).target = .patch n ∧ (s.console c).request = true

theorem State.home_port {s : State} {n : SlotId} {p : PortId} : s.home n (.port p) ↔ (s.port p).patch = some n := Iff.rfl
theorem State.home_console {s : State} {n : SlotId} {c : Console} :
    s.home n (.console c) ↔ (s.console c).target = .patch n ∧ (s.console c).request = true := Iff.rfl

/-- Memberships agree; where F, the floors of all patches but those of N agree with their states; and where O besides, their lists are in
order, and whoever stands in one is at home there, or excused by E. -/
structure Sound (F O : Prop) (E : Source → Prop) (N : List SlotId) (s : State) : Prop where
  agree : s.membersAgree
  floors : F → ∀ n, n ∉ N → (s.patch n).floorAgrees
  order : F → O → ∀ n, n ∉ N → (s.patch n).inOrder s.priority
  homes : F → O → ∀ n, n ∉ N → ∀ src, (s.patch n).stands src = true → s.home n src ∨ E src

/-- Nobody is excused. -/
def noOne : Source → Prop := fun _ => False

theorem standsAtHome_iff {s : State} {n : SlotId} :
    s.standsAtHome n ↔ ∀ src, (s.patch n).stands src = true → s.home n src := by
  constructor
  · rintro ⟨hp, hc⟩ (p | c) h
    · exact hp p h
    · exact hc c h
  · exact fun h => ⟨fun p => h (.port p), fun c => h (.console c)⟩

theorem sound_iff {F O : Prop} {s : State} :
    Sound F O noOne [] s ↔ s.membersAgree ∧ (F → s.floorsAgree) ∧ (F → O → s.floorsOrdered) := by
  constructor
  · intro h
    exact ⟨h.agree, fun f n => h.floors f n (by simp), fun f o n => ⟨h.order f o n (by simp),
      standsAtHome_iff.mpr (fun src hs => (h.homes f o n (by simp) src hs).resolve_right id)⟩⟩
  · rintro ⟨a, hf, ho⟩
    exact ⟨a, fun f n _ => hf f n, fun f o n _ => (ho f o n).1, fun f o n _ src hs => .inl (standsAtHome_iff.mp (ho f o n).2 src hs)⟩

theorem Still.home {ns : List SlotId} {s t : State} (h : Still ns s t) (n : SlotId) (src : Source) : t.home n src ↔ s.home n src := by
  cases src with
  | port p => rw [State.home_port, State.home_port, h.portPatch]
  | console c => rw [State.home_console, State.home_console, h.console]

namespace Sound

variable {F O : Prop} {E E' : Source → Prop} {N : List SlotId} {s t : State} {n : SlotId}

theorem but (h : Sound F O E [] s) : Sound F O E N s :=
  ⟨h.agree, fun f m _ => h.floors f m (by simp), fun f o m _ => h.order f o m (by simp), fun f o m _ => h.homes f o m (by simp)⟩

/-- Moves that leave every patch outside N, and members and use of those in it. -/
theorem still (h : Sound F O E N s) (k : Still N s t)
    (hN : ∀ n ∈ N, (t.patch n).members = (s.patch n).members ∧ (t.patch n).state ≠ .unused) : Sound F O E N t where
  agree := by
    obtain ⟨hmem, hnodup, hunused⟩ := h.agree
    refine ⟨fun n p => ?_, fun n => ?_, fun n => ?_⟩
    · rw [k.portPatch]
      by_cases hn : n ∈ N
      · rw [(hN n hn).1]; exact hmem n p
      · rw [k.patch n hn]; exact hmem n p
    · by_cases hn : n ∈ N
      · rw [(hN n hn).1]; exact hnodup n
      · rw [k.patch n hn]; exact hnodup n
    · by_cases hn : n ∈ N
      · exact fun e => absurd e (hN n hn).2
      · rw [k.patch n hn]; exact hunused n
  floors f n hn := by rw [k.patch n hn]; exact h.floors f n hn
  order f o n hn := by
    rw [k.patch n hn]
    exact PatchRec.inOrder_congr (h.order f o n hn) (fun x _ => k.priority x)
  homes f o n hn src hs := by
    rw [k.patch n hn] at hs
    exact (h.homes f o n hn src hs).imp_left (k.home n src).mpr

theorem stays (h : Sound F O E [] s) (k : Still [] s t) : Sound F O E [] t := h.still k (by simp)

/-- A patch left out, put back in order. -/
theorem close (h : Sound F O E [n] s) (hf : F → (s.patch n).floorAgrees) (ho : F → O → (s.patch n).inOrder s.priority)
    (hh : F → O → ∀ src, (s.patch n).stands src = true → s.home n src ∨ E src) : Sound F O E [] s where
  agree := h.agree
  floors f m _ := by
    by_cases e : m = n
    · rw [e]; exact hf f
    · exact h.floors f m (by simpa using e)
  order f o m _ := by
    by_cases e : m = n
    · rw [e]; exact ho f o
    · exact h.order f o m (by simpa using e)
  homes f o m _ := by
    by_cases e : m = n
    · rw [e]; exact hh f o
    · exact h.homes f o m (by simpa using e)

/-- Fewer are excused. -/
theorem excuse (h : Sound F O E N s) (hE : F → O → ∀ m, m ∉ N → ∀ src, (s.patch m).stands src = true → s.home m src ∨ E' src) :
    Sound F O E' N s := ⟨h.agree, h.floors, h.order, hE⟩

theorem weaken (h : Sound F O noOne N s) : Sound F O E N s :=
  h.excuse (fun f o m hm src hs => .inl ((h.homes f o m hm src hs).resolve_right id))

/-- An update of the arbiter's fields of one patch in use, whose record stays in order. -/
theorem patch (h : Sound F O E [] s) (k : Still [n] s t) (hm : (t.patch n).members = (s.patch n).members)
    (hu : (t.patch n).state ≠ .unused) (hf : F → (t.patch n).floorAgrees) (ho : F → O → (t.patch n).inOrder s.priority)
    (hh : F → O → ∀ src, (t.patch n).stands src = true → s.home n src ∨ E src) : Sound F O E [] t :=
  (h.but.still (N := [n]) k (by simpa using ⟨hm, hu⟩)).close hf
    (fun f o => PatchRec.inOrder_congr (ho f o) (fun x _ => k.priority x))
    (fun f o src hs => (hh f o src hs).imp_left (k.home n src).mpr)

theorem used_of_talker (h : Sound F O E N s) {src : Source} (ht : (s.patch n).talker = some src) : (s.patch n).state ≠ .unused :=
  used_of_stands h.agree (PatchRec.stands_iff.mpr (.inl ht))

end Sound

/-! ### Retirement -/

theorem foldl_leavePatch_console (l : List PortId) (s : State) (c : Console) :
    (l.foldl (fun a p => a.updPort p PortRec.leavePatch) s).console c = s.console c := by
  induction l generalizing s with
  | nil => rfl
  | cons p l ih => rw [List.foldl_cons, ih, State.updPort_console]

@[simp] theorem State.offerRetired_console (s : State) (n : SlotId) (but : Option Console) (c : Console) :
    (s.offerRetired n but).console c = s.console c := by
  unfold State.offerRetired; split <;> split <;> simp

theorem modConsole_both (s : State) (f : ConsoleRec → ConsoleRec) (c : Console) :
    ((s.modConsole .A f).modConsole .B f).console c = f (s.console c) := by
  cases c <;> simp [State.modConsole_console]

/-- After retirement both consoles have forgotten the patch (R65). -/
theorem State.retire_console (s : State) (n : SlotId) (but : Option Console) (c : Console) :
    (s.retire n but).console c = (s.console c).forgetPatch n := by
  unfold State.retire
  simp only [State.offerRetired_console, State.setPatch_console]
  rw [modConsole_both, foldl_leavePatch_console]
  rw [(still_foldl (ns := []) still_unkeyIfRelaying _ _).console]
  rfl

theorem State.retire_priority (s : State) (n : SlotId) (but : Option Console) (src : Source) :
    (s.retire n but).priority src = s.priority src := by
  cases src with
  | port p => exact PortRec.fixedPart_priority ((kept_retire (ns := []) (ps := []) s n but).ports p)
  | console c => rfl

/-- Retirement moves no source from its place in another patch (R65). -/
theorem State.retire_home {s : State} {n m : SlotId} (a : s.membersAgree) (but : Option Console) (hm : m ≠ n) (src : Source) :
    (s.retire n but).home m src ↔ s.home m src := by
  cases src with
  | port p =>
    rw [State.home_port, State.home_port, State.retire_portPatch]
    split
    · rename_i hp
      rw [(a.1 n p).mp hp]
      simp only [Option.some.injEq, reduceCtorEq, false_iff]
      exact fun e => hm e.symm
    · rfl
  | console c =>
    rw [State.home_console, State.home_console, State.retire_console]
    have hr : ((s.console c).forgetPatch n).request = (s.console c).request := rfl
    rw [hr]
    unfold ConsoleRec.forgetPatch
    simp only []
    split
    · rename_i ht
      rw [ht]
      simp only [reduceCtorEq, false_and, false_iff, Target.patch.injEq, not_and]
      exact fun e => absurd e.symm hm
    · rfl

namespace Sound

variable {F O : Prop} {E E' : Source → Prop} {N : List SlotId} {s t : State} {n : SlotId}

/-- A retired patch is in order, whatever stood in it (R65). -/
theorem retire (h : Sound F O E [n] s) (but : Option Console) : Sound F O E [] (s.retire n but) := by
  have hother : ∀ m, m ≠ n → (s.retire n but).patch m = s.patch m := fun m hm => by rw [State.retire_patch, if_neg hm]
  have hsame : (s.retire n but).patch n = PatchRec.unused := by rw [State.retire_patch, if_pos rfl]
  refine Sound.close (n := n) ⟨(flow_retire s n but).agree h.agree, fun f m hm => ?_, fun f o m hm => ?_, fun f o m hm src hs => ?_⟩
    (fun _ => ?_) (fun _ _ => ?_) (fun _ _ src hs => ?_)
  · rw [hother m (by simpa using hm)]; exact h.floors f m hm
  · rw [hother m (by simpa using hm)]
    exact PatchRec.inOrder_congr (h.order f o m hm) (fun x _ => State.retire_priority s n but x)
  · have hm' : m ≠ n := by simpa using hm
    rw [hother m hm'] at hs
    exact (h.homes f o m hm src hs).imp_left (State.retire_home h.agree but hm' src).mpr
  · rw [hsame]; exact ⟨rfl, rfl, rfl⟩
  · rw [hsame]; exact PatchRec.inOrder_of_none rfl rfl
  · rw [hsame] at hs
    cases hs

/-! ### Grants, bids and releases -/

/-- A bid of a source that is at home and does not stand (R75). -/
theorem grant (h : Sound F O E [] s) {src : Source} (hq : (s.patch n).state = .quiet ∨ (s.patch n).state = .hang)
    (hh : F → O → s.home n src ∨ E src) : Sound F O E [] (s.grant n src) := by
  have hpatch : (s.grant n src).patch n = (s.patch n).granted src := by rw [State.grant_patch_eq, if_pos rfl]
  have hpartner : F → (s.patch n).partner = none := fun f => by
    have := h.floors f n (by simp)
    unfold PatchRec.floorAgrees at this
    rcases hq with e | e <;> rw [e] at this <;> exact this.2.1
  refine h.patch (still_grant s n src) ?_ ?_ (fun _ => ?_) (fun f o => ?_) (fun f o x hx => ?_) <;> rw [hpatch] at *
  · rfl
  · exact nofun
  · exact PatchRec.granted_floorAgrees _ _
  · have order := h.order f o n (by simp)
    exact PatchRec.granted_inOrder order.1 order.2.1 (.inl (hpartner f))
  · rcases PatchRec.granted_stands (.inl (hpartner f)) hx with rfl | hm
    · exact hh f o
    · exact h.homes f o n (by simp) x (PatchRec.stands_iff.mpr (.inr (.inr hm)))

theorem preempt (h : Sound F O E [] s) {src : Source} {p : PortId} (hstyle : (s.patch n).style = .preempt)
    (ht : (s.patch n).talker = some (.port p)) (hsrc : F → O → src ≠ .port p) (hh : F → O → s.home n src ∨ E src) :
    Sound F O E [] (s.preempt n src p) := by
  have hpatch : (s.preempt n src p).patch n =
      (s.patch n).preempted src (s.insertAhead (.port p) ((s.patch n).bids.erase src)) := by rw [State.preempt_patch, if_pos rfl]
  refine h.patch (still_preempt s n src p) ?_ ?_ (fun _ => ?_) (fun f o => ?_) (fun f o x hx => ?_) <;> rw [hpatch] at *
  · rfl
  · exact nofun
  · exact PatchRec.granted_floorAgrees (s.patch n).dropped src
  · exact PatchRec.preempted_inOrder (h.order f o n (by simp)) hstyle ht (hsrc f o)
  · rcases PatchRec.preempted_stands ((h.order f o n (by simp)).partner_of_preempt hstyle) hx with rfl | rfl | hm
    · exact hh f o
    · exact h.homes f o n (by simp) _ (PatchRec.stands_iff.mpr (.inl ht))
    · exact h.homes f o n (by simp) x (PatchRec.stands_iff.mpr (.inr (.inr hm)))

theorem listBid (h : Sound F O E [] s) {src : Source} (ht : (s.patch n).state = .talk) (hs : F → O → (s.patch n).stands src = false)
    (hh : F → O → s.home n src ∨ E src) : Sound F O E [] (s.listBid n src) := by
  have hpatch : (s.listBid n src).patch n = { s.patch n with bids := s.insertBid src (s.patch n).bids } := by
    unfold State.listBid; rw [State.modPatch_patch, if_pos rfl]
  refine h.patch (still_modPatch s n _) ?_ ?_ (fun f => ?_) (fun f o => ?_) (fun f o x hx => ?_)
  · rw [hpatch]
  · rw [hpatch]
    show (s.patch n).state ≠ .unused
    rw [ht]; exact nofun
  · have floors := h.floors f n (by simp)
    rw [hpatch]
    unfold PatchRec.floorAgrees at floors ⊢
    simp only [ht] at floors ⊢
    exact floors
  · rw [hpatch]; exact PatchRec.listed_inOrder (h.order f o n (by simp)) (hs f o)
  · rw [hpatch] at hx
    rcases PatchRec.listed_stands hx with hx | rfl
    · exact h.homes f o n (by simp) x hx
    · exact hh f o

theorem bidOnTalk (h : Sound F O E [] s) {src : Source} (ht : (s.patch n).state = .talk) (hs : F → O → (s.patch n).stands src = false)
    (hh : F → O → s.home n src ∨ E src) : Sound F O E [] (s.bidOnTalk n src) := by
  have listed := h.listBid ht hs hh
  unfold State.bidOnTalk
  split
  · rename_i p hstyle hp
    have htalker := PatchRec.portTalker_eq_some.mp hp
    split
    · exact h.preempt hstyle htalker (fun f o e => (PatchRec.stands_eq_false.mp (hs f o)).1 (e ▸ htalker)) hh
    · exact listed
  · exact listed
  · rename_i p hstyle hp
    split
    · rename_i c hc
      refine h.patch (still_modPatch s n _) ?_ ?_ (fun f => ?_) (fun f o => ?_) (fun f o x hx => ?_) <;>
        rw [State.modPatch_patch, if_pos rfl] at *
      · rw [ht]; exact nofun
      · have floors := h.floors f n (by simp)
        unfold PatchRec.floorAgrees at floors ⊢
        simp only [ht] at floors ⊢
        exact floors
      · exact PatchRec.partnered_inOrder (h.order f o n (by simp)) hstyle (by rw [hp]; rfl) (PatchRec.stands_eq_false.mp (hs f o)).2.2
      · rcases PatchRec.partnered_stands hx with hx | rfl
        · exact h.homes f o n (by simp) x hx
        · exact hh f o
    · exact listed
  · exact listed

theorem takeBid (h : Sound F O E [] s) {src : Source} (hs : F → O → (s.patch n).stands src = false) (hh : F → O → s.home n src ∨ E src) :
    Sound F O E [] (s.takeBid n src) := by
  unfold State.takeBid
  split
  · rename_i e; exact h.grant (.inl e) hh
  · rename_i e; exact h.grant (.inr e) hh
  · rename_i e; exact h.bidOnTalk e hs hh
  · exact h
  · exact h

theorem evalPatch (h : Sound F O E [] s) (n : SlotId) : Sound F O E [] (s.evalPatch n) := h.stays (still_evalPatch s n)
theorem evalPort (h : Sound F O E [] s) (p : PortId) : Sound F O E [] (s.evalPort p) := h.stays (still_evalPort s p)
theorem evalParked (h : Sound F O E [] s) (p : PortId) : Sound F O E [] (s.evalParked p) := h.stays (still_evalParked s p)


end Sound

theorem State.bidsOn?_eq_some {s : State} {p : PortId} {n : SlotId} :
    s.bidsOn? p = some n ↔ (s.port p).patch = some n ∧ (s.port p).isParked = false ∧ (s.port p).lockoutLeft = 0 ∧
      (s.patch n).stands (.port p) = false ∧ (s.patch n).takesBids = true := by
  unfold State.bidsOn?
  cases hp : (s.port p).patch with
  | none => simp
  | some m =>
    simp only [Option.some.injEq]
    split
    · rename_i hb
      simp only [Bool.and_eq_true, Bool.not_eq_true', beq_iff_eq] at hb
      constructor
      · intro e
        obtain rfl := Option.some.inj e
        exact ⟨rfl, hb.1.1.1, hb.1.1.2, hb.1.2, hb.2⟩
      · rintro ⟨rfl, _⟩; rfl
    · rename_i hb
      simp only [Bool.and_eq_true, Bool.not_eq_true', beq_iff_eq] at hb
      constructor
      · exact nofun
      · rintro ⟨rfl, h1, h2, h3, h4⟩
        exact absurd ⟨⟨⟨h1, h2⟩, h3⟩, h4⟩ hb

namespace Sound

variable {F O : Prop} {E E' : Source → Prop} {N : List SlotId} {s t : State} {n : SlotId}

theorem portBids (h : Sound F O E [] s) (p : PortId) : Sound F O E [] (s.portBids p) := by
  unfold State.portBids
  split
  · rename_i m hm
    obtain ⟨hp, _, _, hs, _⟩ := State.bidsOn?_eq_some.mp hm
    exact (h.takeBid (fun _ _ => hs) (fun _ _ => .inl hp)).evalPatch m
  · exact h

theorem portBidsIfQualified (h : Sound F O E [] s) (p : PortId) : Sound F O E [] (s.portBidsIfQualified p) := by
  unfold State.portBidsIfQualified
  split
  · exact h.portBids p
  · exact h

theorem consoleBids (h : Sound F O E [] s) (c : Console) (n : SlotId) (hh : s.home n (.console c)) :
    Sound F O E [] (s.consoleBids c n) := by
  unfold State.consoleBids
  split
  · rename_i hb
    simp only [Bool.and_eq_true, Bool.not_eq_true'] at hb
    exact (h.takeBid (fun _ _ => hb.2) (fun _ _ => .inl hh)).evalPatch n
  · exact h

end Sound

/-- Everyone who stands is at home or excused by E', but for src in patch n. -/
def LeavesBehind (s : State) (n : SlotId) (src : Source) (E' : Source → Prop) : Prop :=
  ∀ m x, (s.patch m).stands x = true → (m = n ∧ x = src) ∨ s.home m x ∨ E' x

namespace Sound

variable {F O : Prop} {E E' : Source → Prop} {N : List SlotId} {s t : State} {n : SlotId}

theorem behind (h : Sound F O E [] s) {src : Source} : F → O → LeavesBehind s n src E :=
  fun f o m x hx => .inr (h.homes f o m (by simp) x hx)

/-- The others keep what they have, with src of patch n no longer excused. -/
theorem apart (h : Sound F O E [] s) {src : Source} (hE : F → O → LeavesBehind s n src E') : Sound F O E' [n] s :=
  h.but.excuse (fun f o m hm x hx => (hE f o m x hx).resolve_left (fun e => hm (by simp [e.1])))

/-- A release of the talker, who need not be excused any longer (R84 to R86). -/
theorem release (h : Sound F O E [] s) {src : Source} (ht : (s.patch n).talker = some src) (hE : F → O → LeavesBehind s n src E')
    (but : Option Console) : Sound F O E' [] (s.release n but) := by
  have hu := h.used_of_talker ht
  by_cases hc : (s.patch n).state = .closing
  · have hd : (s.dropTalker n).patch n = (s.patch n).dropped := by rw [State.dropTalker_patch_eq, if_pos rfl]
    unfold State.release
    simp only []
    rw [if_pos hc]
    refine Sound.retire ((h.apart hE).still (still_dropTalker s n) ?_) but
    simp only [List.mem_singleton, forall_eq]
    rw [hd]
    exact ⟨rfl, hu⟩
  · have hpatch : (s.release n but).patch n = (s.patch n).released := by rw [State.release_patch hc, if_pos rfl]
    have still := still_release hc but
    refine Sound.close (n := n) ((h.apart hE).still still ?_) (fun _ => ?_) (fun f o => ?_) (fun f o x hx => ?_)
    · simp only [List.mem_singleton, forall_eq]
      rw [hpatch]
      exact ⟨PatchRec.released_members _, PatchRec.released_used _⟩
    · rw [hpatch]; exact PatchRec.released_floorAgrees _
    · rw [hpatch]
      exact PatchRec.inOrder_congr (PatchRec.released_inOrder (h.order f o n (by simp))) (fun x _ => still.priority x)
    · rw [hpatch] at hx
      obtain ⟨hx, hne⟩ := PatchRec.released_stands (h.order f o n (by simp)) hx
      rcases hE f o n x hx with ⟨_, rfl⟩ | hh | he
      · exact absurd ht hne
      · exact .inl ((still.home n x).mpr hh)
      · exact .inr he

theorem withdraw (h : Sound F O E [] s) {src : Source} (hm : src ∈ (s.patch n).bids) (hE : F → O → LeavesBehind s n src E') :
    Sound F O E' [] (s.withdraw n src) := by
  have hu : (s.patch n).state ≠ .unused := used_of_stands h.agree (PatchRec.stands_iff.mpr (.inr (.inr hm)))
  have hpatch : (s.withdraw n src).patch n = { s.patch n with bids := (s.patch n).bids.erase src } := by
    unfold State.withdraw; rw [State.modPatch_patch, if_pos rfl]
  have still : Still [n] s (s.withdraw n src) := still_modPatch s n _
  refine Sound.close (n := n) ((h.apart hE).still still ?_) (fun f => ?_) (fun f o => ?_) (fun f o x hx => ?_)
  · simp only [List.mem_singleton, forall_eq]
    rw [hpatch]; exact ⟨rfl, hu⟩
  · have floors := h.floors f n (by simp)
    rw [hpatch]
    unfold PatchRec.floorAgrees at floors ⊢
    simp only []
    split at floors
    · rw [floors.2.2] at hm; cases hm
    · rw [floors.2.2] at hm; cases hm
    · rw [floors.2.2] at hm; cases hm
    · exact floors
    · rw [floors.2] at hm; cases hm
  · rw [hpatch]
    exact PatchRec.inOrder_congr (PatchRec.erased_inOrder (h.order f o n (by simp)) src) (fun x _ => still.priority x)
  · rw [hpatch] at hx
    have order := h.order f o n (by simp)
    have hx' := PatchRec.erased_stands hx
    rcases hE f o n x hx' with ⟨_, rfl⟩ | hh | he
    · rcases PatchRec.stands_iff.mp hx with e | e | e
      · exact absurd e (order.2.2.1 _ hm).1
      · exact absurd e (order.2.2.1 _ hm).2
      · exact absurd e order.2.1.not_mem_erase
    · exact .inl ((still.home n x).mpr hh)
    · exact .inr he

theorem vacate (h : Sound F O E [] s) {c : Console} (hp : (s.patch n).partner = some c)
    (hE : F → O → LeavesBehind s n (.console c) E') : Sound F O E' [] (s.modPatch n PatchRec.vacatePartner) := by
  have hu : (s.patch n).state ≠ .unused := used_of_stands h.agree (src := .console c) (PatchRec.stands_iff.mpr (.inr (.inl (by rw [hp]; rfl))))
  have hpatch : (s.modPatch n PatchRec.vacatePartner).patch n = (s.patch n).vacatePartner := by rw [State.modPatch_patch, if_pos rfl]
  have still := still_modPatch s n PatchRec.vacatePartner
  refine Sound.close (n := n) ((h.apart hE).still still ?_) (fun f => ?_) (fun f o => ?_) (fun f o x hx => ?_)
  · simp only [List.mem_singleton, forall_eq]
    rw [hpatch, PatchRec.vacatePartner_state]
    exact ⟨PatchRec.fixedPart_members (PatchRec.vacatePartner_fixed _), hu⟩
  · rw [hpatch]; exact PatchRec.vacatePartner_floorAgrees (h.floors f n (by simp))
  · rw [hpatch]
    exact PatchRec.inOrder_congr (PatchRec.vacatePartner_inOrder (h.order f o n (by simp)) (by rw [hp]; rfl)) (fun x _ => still.priority x)
  · rw [hpatch] at hx
    obtain ⟨hx, hne⟩ := PatchRec.vacatePartner_stands (h.order f o n (by simp)) hx
    rcases hE f o n x hx with ⟨_, rfl⟩ | hh | he
    · exact absurd (by rw [hp]; rfl) hne
    · exact .inl ((still.home n x).mpr hh)
    · exact .inr he

/-- A console that leaves a patch need not be excused there any longer (R74). -/
theorem consoleLeaves (h : Sound F O E [] s) (c : Console) (n : SlotId) (hE : F → O → LeavesBehind s n (.console c) E') :
    Sound F O E' [] (s.consoleLeaves c n) := by
  unfold State.consoleLeaves
  refine Sound.evalPatch ?_ n
  split
  · rename_i ht; exact h.release ht hE none
  · split
    · rename_i hp; exact h.vacate hp hE
    · split
      · rename_i hb; exact h.withdraw (List.contains_iff_mem.mp hb) hE
      · rename_i ht hp hb
        refine h.excuse (fun f o m _ x hx => (hE f o m x hx).resolve_left ?_)
        rintro ⟨rfl, rfl⟩
        rcases PatchRec.stands_iff.mp hx with e | e | e
        · exact ht e
        · obtain ⟨d, hd, e⟩ := Option.map_eq_some_iff.mp e
          exact hp (by rw [hd]; exact congrArg some (Source.console.inj e))
        · exact hb (List.contains_iff_mem.mpr e)

/-! ### Changes of effective priority -/

theorem checkEmergency (h : Sound F O E [] s) {p : PortId} (hh : F → O → s.home n (.port p) ∨ E (.port p)) :
    Sound F O E [] (s.checkEmergency n p) := by
  unfold State.checkEmergency
  split
  · rename_i t hstyle hp
    split
    · rename_i hc
      simp only [Bool.and_eq_true, State.outranks, decide_eq_true_eq] at hc
      refine (h.preempt hstyle (PatchRec.portTalker_eq_some.mp hp) (fun _ _ e => ?_) hh).evalPatch n
      obtain rfl := Source.port.inj e
      exact absurd hc.2.2 (lt_irrefl _)
    · exact h
  · exact h

end Sound

/-- From s to t only the effective priority of port p, and what the arbiter and the patch table do not read, has changed. -/
structure Reprioritized (p : PortId) (s t : State) : Prop where
  patch : ∀ m, t.patch m = s.patch m
  console : ∀ c, t.console c = s.console c
  portPatch : ∀ q, (t.port q).patch = (s.port q).patch
  portPriority : ∀ q, q ≠ p → (t.port q).priority = (s.port q).priority

theorem Reprioritized.priority {p : PortId} {s t : State} (h : Reprioritized p s t) (x : Source) (hx : x ≠ .port p) :
    t.priority x = s.priority x := by
  cases x with
  | port q => exact h.portPriority q (fun e => hx (e ▸ rfl))
  | console c => rfl

theorem Reprioritized.home {p : PortId} {s t : State} (h : Reprioritized p s t) (n : SlotId) (src : Source) :
    t.home n src ↔ s.home n src := by
  cases src with
  | port q => rw [State.home_port, State.home_port, h.portPatch]
  | console c => rw [State.home_console, State.home_console, h.console]

theorem reprioritized_updPort {s : State} {p : PortId} {f : PortRec → PortRec} (hp : (f (s.port p)).patch = (s.port p).patch) :
    Reprioritized p s (s.updPort p f) where
  patch _ := State.updPort_patch _ _ _ _
  console _ := State.updPort_console _ _ _ _
  portPatch q := by
    rw [State.updPort_port]; split
    next e => rw [PortRec.remask_patch, hp, e]
    next => rfl
  portPriority q hq := by rw [State.updPort_port, if_neg hq]

theorem Reprioritized.still {p : PortId} {s t u : State} (h : Reprioritized p s t) (k : Still [] t u) :
    Reprioritized p s u where
  patch m := (k.patch m (by simp)).trans (h.patch m)
  console c := (k.console c).trans (h.console c)
  portPatch q := (k.portPatch q).trans (h.portPatch q)
  portPriority q hq := (k.portPriority q).trans (h.portPriority q hq)

namespace Sound

variable {F O : Prop} {E E' : Source → Prop} {N : List SlotId} {s t : State} {n : SlotId}

/-- The report of a port's new effective priority places its entry again, and the lists are in order as they were (R81, R82). -/
theorem priorityChanged {p : PortId} (h : Sound F O noOne [] s) (k : Reprioritized p s t) (rise : Bool) :
    Sound F O noOne [] (t.priorityChanged p rise) := by
  have agree : t.membersAgree := by
    obtain ⟨h1, h2, h3⟩ := h.agree
    exact ⟨fun n q => by rw [k.patch, k.portPatch]; exact h1 n q, fun n => by rw [k.patch]; exact h2 n,
      fun n => by rw [k.patch]; exact h3 n⟩
  have order : F → O → ∀ m, .port p ∉ (s.patch m).bids → (t.patch m).inOrder t.priority := fun f o m hp => by
    rw [k.patch]
    exact PatchRec.inOrder_congr (h.order f o m (by simp)) (fun x hx => k.priority x (fun e => hp (e ▸ hx)))
  have homes : F → O → ∀ m src, (t.patch m).stands src = true → t.home m src := fun f o m src hs => by
    rw [k.patch] at hs
    exact (k.home m src).mpr ((h.homes f o m (by simp) src hs).resolve_right id)
  have elsewhere : F → O → ∀ m, (t.port p).patch ≠ some m → .port p ∉ (s.patch m).bids := fun f o m hm hb => by
    refine hm ?_
    rw [k.portPatch]
    exact (h.homes f o m (by simp) (.port p) (PatchRec.stands_iff.mpr (.inr (.inr hb)))).resolve_right id
  have floors : F → ∀ m, (t.patch m).floorAgrees := fun f m => by rw [k.patch]; exact h.floors f m (by simp)
  unfold State.priorityChanged
  split
  · rename_i hn
    exact ⟨agree, fun f m _ => floors f m, fun f o m _ => order f o m (elsewhere f o m (by rw [hn]; exact nofun)),
      fun f o m _ src hs => .inl (homes f o m src hs)⟩
  · rename_i n hn
    have but : Sound F O noOne [n] t := ⟨agree, fun f m _ => floors f m, fun f o m hm => order f o m (elsewhere f o m (by
        rw [hn]; intro e; exact hm (by simp [Option.some.inj e]))), fun f o m _ src hs => .inl (homes f o m src hs)⟩
    split
    · rename_i hb
      have hmem : .port p ∈ (t.patch n).bids := List.contains_iff_mem.mp hb
      have hu : (t.patch n).state ≠ .unused := used_of_stands agree (PatchRec.stands_iff.mpr (.inr (.inr hmem)))
      have hpatch : (t.modPatch n (fun r => { r with bids := t.insertBid (.port p) (r.bids.erase (.port p)) })).patch n =
          { t.patch n with bids := t.insertBid (.port p) ((t.patch n).bids.erase (.port p)) } := by rw [State.modPatch_patch, if_pos rfl]
      have still := still_modPatch t n (fun r => { r with bids := t.insertBid (.port p) (r.bids.erase (.port p)) })
      have placed : Sound F O noOne [] (t.modPatch n (fun r => { r with bids := t.insertBid (.port p) (r.bids.erase (.port p)) })) := by
        refine (but.still still ?_).close (fun f => ?_) (fun f o => ?_) (fun f o x hx => ?_)
        · simp only [List.mem_singleton, forall_eq]
          rw [hpatch]; exact ⟨rfl, hu⟩
        · have hf := floors f n
          rw [hpatch]
          unfold PatchRec.floorAgrees at hf ⊢
          simp only []
          split at hf
          · rw [hf.2.2] at hmem; cases hmem
          · rw [hf.2.2] at hmem; cases hmem
          · rw [hf.2.2] at hmem; cases hmem
          · exact hf
          · rw [hf.2] at hmem; cases hmem
        · rw [hpatch]
          refine PatchRec.inOrder_congr (PatchRec.replaced_inOrder (prio := s.priority) ?_ hmem k.priority) (fun x _ => still.priority x)
          rw [k.patch]; exact h.order f o n (by simp)
        · rw [hpatch] at hx
          exact .inl ((still.home n x).mpr (homes f o n x (PatchRec.replaced_stands hmem hx)))
      split
      · exact placed.checkEmergency (fun _ _ => .inl hn)
      · exact placed
    · rename_i hb
      have hnot : .port p ∉ (s.patch n).bids := fun hm => hb (List.contains_iff_mem.mpr (by rw [k.patch]; exact hm))
      exact but.close (fun f => floors f n) (fun f o => order f o n hnot) (fun f o src hs => .inl (homes f o n src hs))

/-! ### Events -/

theorem portLosesPlace (h : Sound F O E [] s) (p : PortId) : Sound F O E [] (s.portLosesPlace p) := by
  unfold State.portLosesPlace
  split
  · exact h
  · split
    · rename_i ht; exact (h.release ht h.behind none).evalPatch _
    · split
      · rename_i hb; exact (h.withdraw (List.contains_iff_mem.mp hb) h.behind).evalPatch _
      · exact h

theorem handOn (h : Sound F O E [] s) (e : CarrierEvent) : Sound F O E [] (s.handOn e) := by
  rcases s.handOn_cases e with he | he <;> rw [he]
  · exact (h.portBids e.port).evalPort e.port
  · exact (h.portLosesPlace e.port).evalPort e.port

theorem hangRunsOut (h : Sound F O E [] s) (n : SlotId) : Sound F O E [] (s.hangRunsOut n) := by
  unfold State.hangRunsOut
  split
  · rename_i hs
    refine (h.patch (still_modPatch s n _) ?_ ?_ (fun f => ?_) (fun f o => ?_) (fun f o x hx => ?_)).evalPatch n <;>
      rw [State.modPatch_patch, if_pos rfl] at *
    · exact nofun
    · have := h.floors f n (by simp)
      unfold PatchRec.floorAgrees at this
      rw [hs] at this
      exact this
    · exact h.order f o n (by simp)
    · exact h.homes f o n (by simp) x hx
  · exact h

theorem timesOut (h : Sound F O E [] s) (n : SlotId) (p : PortId) (ht : (s.patch n).portTalker = some p) :
    Sound F O E [] (s.timesOut n p) := by
  have locked : Still [] s ((s.updPort p (fun r => { r with lockoutLeft := (s.patch n).lockoutTime * 1000 })).offerBoth
      ⟨.timeOut, portNumber p⟩) := Still.trans (still_updPort rfl rfl) (still_offerBoth _ _)
  have sound := h.stays locked
  refine (sound.release (src := .port p) ?_ sound.behind none).evalPatch n
  rw [locked.patch n (by simp)]
  exact PatchRec.portTalker_eq_some.mp ht

end Sound

end Sys2Proof.Machine

/-! Sound, continued: requests and targets, reservations, joining and leaving, merging and the settings; and with them the statements that
every step keeps memberships in agreement and floors in order. -/

namespace Sys2Proof.Machine

/-! ### Consoles -/

theorem ConsoleRec.fixedPart_request {r r' : ConsoleRec} (h : r'.fixedPart = r.fixedPart) : r'.request = r.request := by
  have hl : r'.link = r.link := by have e := congrArg ConsoleRec.link h; exact e
  have hp : r'.filteredPtt = r.filteredPtt := by have e := congrArg ConsoleRec.filteredPtt h; exact e
  have hs : r'.seize = r.seize := by have e := congrArg ConsoleRec.seize h; exact e
  unfold ConsoleRec.request
  rw [hl, hp, hs]

/-- What a change of its record makes of a console's talk request is not changed by the traffic that follows (R132). -/
theorem State.changeRequest_request (s : State) (c : Console) (f : ConsoleRec → ConsoleRec) :
    ((s.changeRequest c f).console c).request = (f (s.console c)).request := by
  have changed : ((s.modConsole c f).console c).request = (f (s.console c)).request := by rw [State.modConsole_console, if_pos rfl]
  unfold State.changeRequest
  simp only []
  split
  · exact changed
  · split
    · exact (ConsoleRec.fixedPart_request ((kept_requestRises (ns := []) (ps := []) _ c).consoles c)).trans changed
    · exact (ConsoleRec.fixedPart_request ((kept_requestFalls (ns := []) (ps := []) _ c).consoles c)).trans changed

namespace Sound

variable {F O : Prop} {E E' : Source → Prop} {N : List SlotId} {s t : State} {n : SlotId}

/-- A console whose record changes may have to leave its place; nobody else has. -/
theorem setConsole (h : Sound F O noOne [] s) (c : Console) (r : ConsoleRec)
    (hE : F → O → ∀ m, (s.patch m).stands (.console c) = true → (r.target = .patch m ∧ r.request = true) ∨ E (.console c)) :
    Sound F O E [] (s.setConsole c r) where
  agree := h.agree
  floors := h.floors
  order := h.order
  homes f o m hm x hx := by
    have home := (h.homes f o m hm x hx).resolve_right id
    cases x with
    | port p => exact .inl home
    | console d =>
      by_cases e : d = c
      · subst e
        refine (hE f o m hx).imp_left (fun hr => ?_)
        rw [State.home_console, State.setConsole_console_same]
        exact hr
      · refine .inl ?_
        rw [State.home_console, State.setConsole_console, if_neg e]
        exact home

theorem quietConsole (h : Sound F O noOne [] s) {c : Console} {r : ConsoleRec} (hq : (s.console c).QuietMove r) :
    Sound F O noOne [] (s.setConsole c r) :=
  h.setConsole c r (fun f o m hs => by
    obtain ⟨ht, hr⟩ := (h.homes f o m (by simp) (.console c) hs).resolve_right id
    exact .inl ⟨hq.target.trans ht, hq.request hr⟩)

/-- A console that talks to patch n, or to none, stands nowhere else. -/
theorem stands_target (h : Sound F O noOne [] s) (f : F) (o : O) {c : Console} {m : SlotId} (hs : (s.patch m).stands (.console c) = true) :
    (s.console c).target = .patch m ∧ (s.console c).request = true :=
  (h.homes f o m (by simp) (.console c) hs).resolve_right id

theorem requestRises (h : Sound F O E [] s) {c : Console} (hr : (s.console c).request = true) : Sound F O E [] (s.requestRises c) := by
  unfold State.requestRises
  split
  · exact h
  · rename_i n ht; exact h.consoleBids c n ⟨ht, hr⟩
  · exact h.evalParked _

/-- Once console c has changed its record it stands in its old target only, which it leaves if that is a patch (R74, R133). -/
theorem leavesTarget (h : Sound F O noOne [] s) (c : Console) (r : ConsoleRec) :
    Sound F O (fun x => x = .console c) [] (s.setConsole c r) ∧
    ∀ n, (s.console c).target = .patch n → F → O → LeavesBehind (s.setConsole c r) n (.console c) noOne := by
  refine ⟨h.setConsole c r (fun _ _ _ _ => .inr rfl), fun n ht f o m x hx => ?_⟩
  have home := (h.homes f o m (by simp) x hx).resolve_right id
  cases x with
  | port p => exact .inr (.inl home)
  | console d =>
    by_cases e : d = c
    · subst e
      have := ht.symm.trans home.1
      exact .inl ⟨(Target.patch.inj this).symm, rfl⟩
    · refine .inr (.inl ?_)
      rw [State.home_console, State.setConsole_console, if_neg e]
      exact home

/-- A console that talks to no patch stands nowhere. -/
theorem standsNowhere (h : Sound F O noOne [] s) {c : Console} (r : ConsoleRec) (ht : ∀ n, (s.console c).target ≠ .patch n) :
    Sound F O noOne [] (s.setConsole c r) :=
  h.setConsole c r (fun f o m hs => absurd (h.stands_target f o hs).1 (ht m))

theorem changeRequest (h : Sound F O noOne [] s) (c : Console) {f : ConsoleRec → ConsoleRec} (hf : ConsoleRec.RequestMove f) :
    Sound F O noOne [] (s.changeRequest c f) := by
  have hc : (s.modConsole c f).console c = f (s.console c) := State.setConsole_console_same _ _ _
  have htarget : ((s.modConsole c f).console c).target = (s.console c).target := by rw [hc, hf.target]
  unfold State.changeRequest
  simp only []
  split
  · rename_i e
    exact h.quietConsole ⟨hf.target _, fun hr => by rw [← hr, e, hc], hf.inRange _⟩
  · split
    · rename_i hr
      exact (h.quietConsole ⟨hf.target _, fun _ => by rw [← hc]; exact hr, hf.inRange _⟩ : Sound F O noOne [] (s.modConsole c f)).requestRises hr
    · obtain ⟨changed, behind⟩ := h.leavesTarget c (f (s.console c))
      unfold State.requestFalls
      split
      · rename_i ht; exact h.standsNowhere _ (fun n e => by rw [htarget, e] at ht; cases ht)
      · rename_i n ht; exact changed.consoleLeaves c n (behind n (htarget.symm.trans ht))
      · rename_i p ht
        have changed := h.standsNowhere (c := c) (f (s.console c)) (fun n e => by rw [htarget, e] at ht; cases ht)
        exact changed.evalParked p

theorem changeTarget (h : Sound F O noOne [] s) (c : Console) (x : Target) : Sound F O noOne [] (s.changeTarget c x) := by
  have hc : (s.modConsole c (fun r => { r with target := x })).console c = { s.console c with target := x } :=
    State.setConsole_console_same _ _ _
  unfold State.changeTarget
  simp only []
  split
  · rename_i hx
    rcases hx with e | e
    · exact h.quietConsole ⟨e.symm, id, id⟩
    · refine h.setConsole c _ (fun f o m hs => ?_)
      rw [(h.stands_target f o hs).2] at e
      cases e
  · rename_i hx
    have hr : (s.console c).request = true := by simpa using (not_or.mp hx).2
    obtain ⟨changed, behind⟩ := h.leavesTarget c { s.console c with target := x }
    suffices hleft : ∀ left : State, Sound F O noOne [] left → (left.console c).request = (s.console c).request →
        Sound F O noOne [] (left.requestRises c) by
      split
      · rename_i ht; exact hleft _ (h.standsNowhere _ (fun n e => by rw [e] at ht; cases ht)) (by rw [hc]; rfl)
      · rename_i n ht
        refine hleft _ (changed.consoleLeaves c n (behind n ht)) ?_
        have kept := (kept_consoleLeaves (ns := []) (ps := []) (s.modConsole c (fun r => { r with target := x })) c n).consoles c
        exact (ConsoleRec.fixedPart_request kept).trans (by rw [hc]; rfl)
      · rename_i p ht
        have changed := h.standsNowhere (c := c) { s.console c with target := x } (fun n e => by rw [e] at ht; cases ht)
        refine hleft _ (changed.evalParked p) ?_
        exact (congrArg ConsoleRec.request ((still_evalParked (ns := []) _ p).console c)).trans (by rw [hc]; rfl)
    exact fun left sound hl => sound.requestRises (hl.trans hr)

/-! ### Reservations -/

theorem endReservation (h : Sound F O E [] s) (p : PortId) (b : Bool) : Sound F O E [] (s.endReservation p b) := by
  have freed : Sound F O E [] (s.updPort p
      (fun r => { r.restInto (if r.patch.isSome then .idle else .detached) with reservedBy := none })) := h.stays (still_updPort rfl rfl)
  unfold State.endReservation
  simp only []
  split
  · exact freed.evalPort p
  · exact (freed.portBidsIfQualified p).evalPort p

theorem unkeyParked (h : Sound F O E [] s) (p : PortId) : Sound F O E [] (s.unkeyParked p) :=
  h.stays (still_updPort (f := fun r => r.unkeyInto .parked) rfl rfl)

theorem releaseReservation (h : Sound F O noOne [] s) (c : Console) (p : PortId) : Sound F O noOne [] (s.releaseReservation c p) := by
  have untargeted : Sound F O noOne [] (if (s.console c).target = .port p then s.changeTarget c .none else s) := by
    split
    · exact h.changeTarget c .none
    · exact h
  unfold State.releaseReservation
  simp only []
  refine Sound.endReservation ?_ p _
  revert untargeted
  generalize (if (s.console c).target = .port p then s.changeTarget c .none else s) = u
  intro untargeted
  split
  · exact untargeted.unkeyParked p
  · exact untargeted

end Sound

theorem State.withdraw_of_not_mem {s : State} {n : SlotId} {src : Source} (h : src ∉ (s.patch n).bids) : s.withdraw n src = s := by
  unfold State.withdraw State.modPatch
  simp only []
  rw [List.erase_of_not_mem h]
  exact State.setPatch_self s n

theorem State.withdraw_patch (s : State) (n m : SlotId) (src : Source) :
    (s.withdraw n src).patch m = if m = n then { s.patch n with bids := (s.patch n).bids.erase src } else s.patch m :=
  State.modPatch_patch _ _ _ _

namespace Sound

variable {F O : Prop} {E E' : Source → Prop} {N : List SlotId} {s t : State} {n : SlotId}

/-- A withdrawal of a source that may not be listed (R83). -/
theorem withdrawAny (h : Sound F O E [] s) (n : SlotId) (src : Source) : Sound F O E [] (s.withdraw n src) := by
  by_cases hm : src ∈ (s.patch n).bids
  · exact h.withdraw hm h.behind
  · rw [State.withdraw_of_not_mem hm]; exact h

theorem reserve (h : Sound F O noOne [] s) (c : Console) (p : PortId) : Sound F O noOne [] (s.reserve c p) := by
  have parked : ∀ u : State, Still [] u ((u.unkeyIfRelaying p).updPort p (fun r => r.parkFor c)) := fun u =>
    (still_unkeyIfRelaying u p).trans (still_updPort rfl rfl)
  cases hp : (s.port p).patch with
  | none => rw [State.reserve_unpatched hp]; exact (h.stays (parked s)).evalParked p
  | some n =>
    rw [State.reserve_member hp]
    have out := (h.withdrawAny n (.port p)).stays (parked _)
    refine Sound.evalParked (Sound.evalPatch ?_ n) p
    split
    · rename_i ht
      refine out.release (src := .port p) ?_ out.behind _
      rw [(parked _).patch n (by simp), State.withdraw_patch, if_pos rfl]
      exact ht
    · exact out

theorem shareOwned (h : Sound F O E [] s) (c : Console) : Sound F O E [] (s.shareOwned c) := by
  have same : ∀ m, (s.shareOwned c).patch m = { s.patch m with shared := ((s.shareOwned c).patch m).shared } := fun m => by
    have e : (s.shareOwned c).patch m =
        (if (s.patch m).inUse && (s.patch m).owner == some c then { s.patch m with shared := true } else s.patch m) := by
      simp [State.shareOwned, State.patch]
    rw [e]
    split <;> rfl
  have floor : ∀ m, (s.patch m).SameFloor ((s.shareOwned c).patch m) := fun m => by rw [same m]; exact ⟨rfl, rfl, rfl, rfl, rfl⟩
  obtain ⟨hmem, hnodup, hunused⟩ := h.agree
  refine ⟨⟨fun m p => by rw [same m]; exact hmem m p, fun m => by rw [same m]; exact hnodup m, fun m hm => ?_⟩,
    fun f m hm => (floor m).floorAgrees (h.floors f m hm), fun f o m hm => (floor m).inOrder (h.order f o m hm),
    fun f o m hm x hx => h.homes f o m hm x (by rw [← (floor m).stands]; exact hx)⟩
  have hu : (s.patch m).state = .unused := by rw [← (floor m).state]; exact hm
  have e : (s.shareOwned c).patch m =
      (if (s.patch m).inUse && (s.patch m).owner == some c then { s.patch m with shared := true } else s.patch m) := by
    simp [State.shareOwned, State.patch]
  rw [e, hunused m hu]
  rfl

theorem linkLost (h : Sound F O noOne [] s) (c : Console) : Sound F O noOne [] (s.linkLost c) := by
  have fallen := h.changeRequest c (f := fun r => { r with link := .lost, seize := false }) ⟨fun _ => rfl, fun _ => id⟩
  have silent := s.changeRequest_request c (fun r => { r with link := .lost, seize := false })
  unfold State.linkLost
  simp only []
  refine Sound.stays (Sound.shareOwned (foldl_keeps (fun {t} p ht => ?_) _ (fallen.setConsole c _ (fun f o m hs => ?_))) c) (still_offer _ _ _)
  · refine Sound.endReservation ?_ p _
    split
    · exact ht.unkeyParked p
    · exact ht
  · have := (fallen.stands_target f o hs).2
    rw [silent] at this
    simp [ConsoleRec.request] at this

/-! ### Joining (R47) -/

/-- The state in which p has joined patch n, before it bids (R47). -/
theorem joined (h : Sound F O noOne [] s) {p : PortId} (hp : (s.port p).patch = none) (hu : (s.patch n).state ≠ .unused) :
    Sound F O noOne [] ((s.modPatch n (fun r => { r with members := r.members ++ [p] })).updPort p (fun r =>
      if r.isParked then { r with patch := some n } else { r.restInto .idle with patch := some n })) := by
  have hpatch : ∀ m, ((s.modPatch n (fun r => { r with members := r.members ++ [p] })).updPort p (fun r =>
      if r.isParked then { r with patch := some n } else { r.restInto .idle with patch := some n })).patch m =
      { s.patch m with members := if m = n then (s.patch m).members ++ [p] else (s.patch m).members } := fun m => by
    rw [State.updPort_patch, State.modPatch_patch]
    by_cases e : m = n
    · subst e; simp
    · simp [e]
  have hport : ∀ q, (((s.modPatch n (fun r => { r with members := r.members ++ [p] })).updPort p (fun r =>
      if r.isParked then { r with patch := some n } else { r.restInto .idle with patch := some n })).port q).patch =
      if q = p then some n else (s.port q).patch := fun q => by
    rw [State.updPort_port]
    split
    · rw [PortRec.remask_patch]; split <;> rfl
    · rfl
  have hprio : ∀ x, ((s.modPatch n (fun r => { r with members := r.members ++ [p] })).updPort p (fun r =>
      if r.isParked then { r with patch := some n } else { r.restInto .idle with patch := some n })).priority x = s.priority x := fun x => by
    cases x with
    | console c => rfl
    | port q =>
      unfold State.priority
      simp only []
      rw [State.updPort_port]
      split
      · rename_i e; rw [e, PortRec.remask_priority]; split <;> rfl
      · rfl
  have hconsole : ∀ c, ((s.modPatch n (fun r => { r with members := r.members ++ [p] })).updPort p (fun r =>
      if r.isParked then { r with patch := some n } else { r.restInto .idle with patch := some n })).console c = s.console c := fun c => by
    rw [State.updPort_console]; rfl
  revert hpatch hport hprio hconsole
  generalize ((s.modPatch n (fun r => { r with members := r.members ++ [p] })).updPort p (fun r =>
      if r.isParked then { r with patch := some n } else { r.restInto .idle with patch := some n })) = u
  intro hpatch hport hprio hconsole
  obtain ⟨hmem, hnodup, hunused⟩ := h.agree
  have hno : ∀ m, p ∉ (s.patch m).members := fun m e => by rw [(hmem m p).mp e] at hp; cases hp
  have floor : ∀ m, (s.patch m).SameFloor (u.patch m) := fun m => by rw [hpatch m]; exact ⟨rfl, rfl, rfl, rfl, rfl⟩
  refine ⟨⟨fun m q => ?_, fun m => ?_, fun m hm => ?_⟩, fun f m hm => (floor m).floorAgrees (h.floors f m hm),
    fun f o m hm => PatchRec.inOrder_congr ((floor m).inOrder (h.order f o m hm)) (fun x _ => hprio x), fun f o m hm x hx => ?_⟩
  · rw [hpatch, hport]
    by_cases em : m = n <;> by_cases eq : q = p
    · simp [em, eq]
    · simpa [em, eq] using hmem n q
    · simpa [em, eq, Ne.symm em] using hno m
    · simpa [em, eq] using hmem m q
  · rw [hpatch]
    simp only []
    split
    · exact List.nodup_append.mpr ⟨hnodup m, by simp, fun q hq r hr e => hno m (by rw [List.mem_singleton] at hr; exact hr ▸ e ▸ hq)⟩
    · exact hnodup m
  · have hm' : (s.patch m).state = .unused := by rw [← (floor m).state]; exact hm
    have e : m ≠ n := fun e => hu (e ▸ hm')
    rw [hpatch, if_neg e]
    exact hunused m hm'
  · rw [(floor m).stands] at hx
    refine .inl ?_
    have home := (h.homes f o m hm x hx).resolve_right id
    cases x with
    | console c => rw [State.home_console, hconsole]; exact home
    | port q =>
      rw [State.home_port, hport]
      rw [State.home_port] at home
      split
      · rename_i e; rw [e, hp] at home; cases home
      · exact home

theorem join (h : Sound F O noOne [] s) {p : PortId} (hp : (s.port p).patch = none) (hu : (s.patch n).state ≠ .unused) :
    Sound F O noOne [] (s.join n p) := by
  have sound := h.joined hp hu
  unfold State.join
  simp only []
  split
  · exact sound
  · exact (sound.portBidsIfQualified p).evalPort p

end Sound

/-! ### A patch in use stays in use as ports join it -/

theorem State.takeBid_used {s : State} (n : SlotId) (src : Source) {m : SlotId} (h : (s.patch m).state ≠ .unused) :
    ((s.takeBid n src).patch m).state ≠ .unused := by
  have listed : ((s.listBid n src).patch m).state ≠ .unused := by
    unfold State.listBid; rw [State.modPatch_patch]
    split
    next e => subst e; exact h
    next => exact h
  unfold State.takeBid
  split
  · rw [State.grant_patch_eq]; split
    · exact nofun
    · exact h
  · rw [State.grant_patch_eq]; split
    · exact nofun
    · exact h
  · unfold State.bidOnTalk
    split
    · split
      · rw [State.preempt_patch]; split
        · exact nofun
        · exact h
      · exact listed
    · exact listed
    · split
      · rw [State.modPatch_patch]
        split
        next e => subst e; exact h
        next => exact h
      · exact listed
    · exact listed
  · exact h
  · exact h

theorem State.join_used {s : State} (n : SlotId) (p : PortId) {m : SlotId} (h : (s.patch m).state ≠ .unused) :
    ((s.join n p).patch m).state ≠ .unused := by
  have joined : (((s.modPatch n (fun r => { r with members := r.members ++ [p] })).updPort p (fun r =>
      if r.isParked then { r with patch := some n } else { r.restInto .idle with patch := some n })).patch m).state ≠ .unused := by
    rw [State.updPort_patch, State.modPatch_patch]
    split
    next e => subst e; exact h
    next => exact h
  unfold State.join
  simp only []
  split
  · exact joined
  · rw [(still_evalPort (ns := []) _ p).patch m (by simp)]
    unfold State.portBidsIfQualified State.portBids
    split
    · split
      · rw [(still_evalPatch (ns := []) _ _).patch m (by simp)]
        exact State.takeBid_used _ _ joined
      · exact joined
    · exact joined

/-- A join leaves another port in no patch. -/
theorem State.join_portPatch_none {s : State} (n : SlotId) {p q : PortId} (hq : q ≠ p) (h : (s.port q).patch = none) :
    ((s.join n p).port q).patch = none := by
  rcases (kept_join (n := n) (p := p) (ns := [n]) (ps := [p]) (by simp) (by simp) s).portPatch q (by simpa using hq) with e | e
  · exact e.trans h
  · exact e

theorem State.joinAll_cons (s : State) (n : SlotId) (p : PortId) (ps : List PortId) :
    s.joinAll n (p :: ps) = (s.join n p).joinAll n ps := rfl

/-- Ports in no patch, each once, join a patch in use (R47, R51). -/
theorem Sound.joinAll {F O : Prop} {n : SlotId} {ps : List PortId} {s : State} (h : Sound F O noOne [] s) (hn : ps.Nodup)
    (hp : ∀ p ∈ ps, (s.port p).patch = none) (hu : (s.patch n).state ≠ .unused) : Sound F O noOne [] (s.joinAll n ps) := by
  induction ps generalizing s with
  | nil => exact h
  | cons p ps ih =>
    obtain ⟨hnot, hn⟩ := List.nodup_cons.mp hn
    rw [State.joinAll_cons]
    exact ih (h.join (hp p List.mem_cons_self) hu) hn
      (fun q hq => State.join_portPatch_none n (fun e => hnot (e ▸ hq)) (hp q (List.mem_cons_of_mem _ hq))) (State.join_used n p hu)

/-! ### Leaving (R48, R54) -/

/-- A bid list without the ports of ps. -/
def eraseAll (ps : List PortId) (l : List Source) : List Source := ps.foldl (fun b p => b.erase (.port p)) l

theorem eraseAll_sublist (ps : List PortId) (l : List Source) : (eraseAll ps l).Sublist l := by
  induction ps generalizing l with
  | nil => exact .refl l
  | cons p ps ih => exact (ih (l.erase (.port p))).trans List.erase_sublist

theorem mem_eraseAll {ps : List PortId} {l : List Source} (hn : l.Nodup) (x : Source) :
    x ∈ eraseAll ps l ↔ x ∈ l ∧ ∀ p ∈ ps, x ≠ .port p := by
  induction ps generalizing l with
  | nil => simp [eraseAll]
  | cons p ps ih =>
    have e : eraseAll (p :: ps) l = eraseAll ps (l.erase (.port p)) := rfl
    rw [e, ih (hn.erase _), hn.mem_erase_iff]
    simp only [List.mem_cons, forall_eq_or_imp]
    tauto

theorem foldl_withdraw_patch (ps : List PortId) (s : State) (n m : SlotId) :
    (ps.foldl (fun a p => a.withdraw n (.port p)) s).patch m =
      if m = n then { s.patch n with bids := eraseAll ps (s.patch n).bids } else s.patch m := by
  induction ps generalizing s with
  | nil =>
    split
    next e => subst e; rfl
    next => rfl
  | cons p ps ih =>
    rw [List.foldl_cons, ih, State.withdraw_patch, State.withdraw_patch, if_pos rfl]
    split <;> rfl

/-- The ports of ps out of patch n, before its talk right is released: withdrawn, unkeyed, out of the list and of the patch (R54). -/
def State.takenOut (s : State) (n : SlotId) (ps : List PortId) : State :=
  ps.foldl (fun a p => a.updPort p PortRec.leavePatch)
    ((ps.foldl State.unkeyIfRelaying (ps.foldl (fun a p => a.withdraw n (.port p)) s)).modPatch n
      (fun r => { r with members := r.members.filter (fun p => !ps.contains p) }))

theorem State.leaveAll_eq (s : State) (n : SlotId) (ps : List PortId) (c : Console) :
    s.leaveAll n ps c = (if ps.any (fun p => (s.patch n).talker == some (.port p)) then (s.takenOut n ps).release n (some c)
      else s.takenOut n ps).evalPatch n := rfl

theorem State.takenOut_patch (s : State) (n m : SlotId) (ps : List PortId) :
    (s.takenOut n ps).patch m = if m = n then { s.patch n with
      bids := eraseAll ps (s.patch n).bids, members := (s.patch n).members.filter (fun p => !ps.contains p) } else s.patch m := by
  unfold State.takenOut
  rw [foldl_leavePatch_patch, State.modPatch_patch, foldl_unkeyIfRelaying_patch, foldl_unkeyIfRelaying_patch, foldl_withdraw_patch,
    foldl_withdraw_patch, if_pos rfl]
  split <;> rfl

theorem State.takenOut_portPatch (s : State) (n : SlotId) (ps : List PortId) (q : PortId) :
    ((s.takenOut n ps).port q).patch = if q ∈ ps then none else (s.port q).patch := by
  have still : Still [n] s (ps.foldl State.unkeyIfRelaying (ps.foldl (fun a p => a.withdraw n (.port p)) s)) :=
    (still_foldl (f := fun a p => a.withdraw n (.port p)) (fun a _ => still_modPatch a n _) ps s).trans (still_foldl still_unkeyIfRelaying ps _)
  unfold State.takenOut
  rw [foldl_leavePatch_portPatch, State.modPatch_port, still.portPatch]

theorem State.takenOut_console (s : State) (n : SlotId) (ps : List PortId) (c : Console) : (s.takenOut n ps).console c = s.console c := by
  have still : Still [n] s (ps.foldl State.unkeyIfRelaying (ps.foldl (fun a p => a.withdraw n (.port p)) s)) :=
    (still_foldl (f := fun a p => a.withdraw n (.port p)) (fun a _ => still_modPatch a n _) ps s).trans (still_foldl still_unkeyIfRelaying ps _)
  unfold State.takenOut
  rw [foldl_leavePatch_console, State.modPatch_console, still.console]

theorem kept_takenOut (s : State) (n : SlotId) (ps : List PortId) : Kept [n] [] s (s.takenOut n ps) := by
  refine Kept.trans (Kept.trans (Kept.trans (kept_foldl (fun a p => kept_modPatch (.inr rfl)) ps s)
    (kept_foldl (fun a p => (flow_unkeyIfRelaying a p).toKept.mono) ps _)) (kept_modPatch (.inl (by simp)))) (kept_leaveFold ps _)

theorem State.takenOut_priority (s : State) (n : SlotId) (ps : List PortId) (x : Source) : (s.takenOut n ps).priority x = s.priority x := by
  cases x with
  | console c => rfl
  | port q => exact PortRec.fixedPart_priority ((kept_takenOut s n ps).ports q)

namespace Sound

variable {F O : Prop} {E E' : Source → Prop} {N : List SlotId} {s t : State} {n : SlotId}

theorem takenOut (h : Sound F O noOne [] s) {ps : List PortId} (hp : ∀ p ∈ ps, (s.port p).patch = some n)
    (hu : (s.patch n).state ≠ .unused) : Sound F O (fun x => ∃ p ∈ ps, x = .port p) [] (s.takenOut n ps) := by
  obtain ⟨hmem, hnodup, hunused⟩ := h.agree
  have hbids : F → O → ∀ x ∈ eraseAll ps (s.patch n).bids, x ∈ (s.patch n).bids := fun f o x hx =>
    ((mem_eraseAll (h.order f o n (by simp)).2.1 x).mp hx).1
  have sub := eraseAll_sublist ps (s.patch n).bids
  refine ⟨⟨fun m q => ?_, fun m => ?_, fun m hm => ?_⟩, fun f m _ => ?_, fun f o m _ => ?_, fun f o m _ x hx => ?_⟩
  · rw [State.takenOut_patch, State.takenOut_portPatch]
    by_cases em : m = n <;> by_cases eq : q ∈ ps
    · simp [em, eq]
    · simpa [em, eq] using hmem n q
    · have hne := mt (hmem m q).mp (by rw [hp q eq]; simpa using Ne.symm em)
      simpa [em, eq] using hne
    · simpa [em, eq] using hmem m q
  · rw [State.takenOut_patch]
    split
    · exact (hnodup n).filter _
    · exact hnodup m
  · rw [State.takenOut_patch] at hm ⊢
    split at hm
    · exact absurd hm hu
    · rename_i e; rw [if_neg e]; exact hunused m hm
  · rw [State.takenOut_patch]
    split
    · have floors := h.floors f n (by simp)
      unfold PatchRec.floorAgrees at floors ⊢
      simp only []
      have empty : (s.patch n).bids = [] → eraseAll ps (s.patch n).bids = [] := fun e => List.sublist_nil.mp (e ▸ sub)
      split at floors
      · exact ⟨floors.1, floors.2.1, empty floors.2.2⟩
      · exact ⟨floors.1, floors.2.1, empty floors.2.2⟩
      · exact ⟨floors.1, floors.2.1, empty floors.2.2⟩
      · exact floors
      · exact ⟨floors.1, empty floors.2⟩
    · exact h.floors f m (by simp)
  · refine PatchRec.inOrder_congr (prio := s.priority) ?_ (fun x _ => s.takenOut_priority n ps x)
    rw [State.takenOut_patch]
    split
    · obtain ⟨h1, h2, h3, h4⟩ := h.order f o n (by simp)
      exact ⟨h1.sublist sub, h2.sublist sub, fun x hx => h3 x (hbids f o x hx), h4⟩
    · exact h.order f o m (by simp)
  · have hx' : (s.patch m).stands x = true := by
      rw [State.takenOut_patch] at hx
      split at hx
      · rename_i e
        subst e
        rcases PatchRec.stands_iff.mp hx with e | e | e
        · exact PatchRec.stands_iff.mpr (.inl e)
        · exact PatchRec.stands_iff.mpr (.inr (.inl e))
        · exact PatchRec.stands_iff.mpr (.inr (.inr (hbids f o x e)))
      · exact hx
    have home := (h.homes f o m (by simp) x hx').resolve_right id
    cases x with
    | console c => exact .inl (by rw [State.home_console, State.takenOut_console]; exact home)
    | port q =>
      by_cases eq : q ∈ ps
      · exact .inr ⟨q, eq, rfl⟩
      · exact .inl (by rw [State.home_port, State.takenOut_portPatch, if_neg eq]; exact home)

/-- Of the ports taken out only the talker still stands (R48). -/
theorem takenOut_talker (h : Sound F O noOne [] s) (f : F) (o : O) {ps : List PortId} (hp : ∀ p ∈ ps, (s.port p).patch = some n)
    {m : SlotId} {p : PortId} (hps : p ∈ ps) (hs : ((s.takenOut n ps).patch m).stands (.port p) = true) :
    m = n ∧ (s.patch n).talker = some (.port p) := by
  rw [State.takenOut_patch] at hs
  split at hs
  · rename_i e
    refine ⟨e, ?_⟩
    rcases PatchRec.stands_iff.mp hs with e | e | e
    · exact e
    · obtain ⟨c, _, e⟩ := Option.map_eq_some_iff.mp e; cases e
    · exact absurd rfl (((mem_eraseAll (h.order f o n (by simp)).2.1 _).mp e).2 p hps)
  · rename_i e
    have home := (h.homes f o m (by simp) _ hs).resolve_right id
    rw [State.home_port, hp p hps] at home
    exact absurd (Option.some.inj home).symm e

theorem leaveAll (h : Sound F O noOne [] s) {ps : List PortId} (hp : ∀ p ∈ ps, (s.port p).patch = some n)
    (hu : (s.patch n).state ≠ .unused) (c : Console) : Sound F O noOne [] (s.leaveAll n ps c) := by
  have out := h.takenOut hp hu
  rw [State.leaveAll_eq]
  refine Sound.evalPatch ?_ n
  split
  · rename_i ht
    obtain ⟨p, hps, ht⟩ := List.any_eq_true.mp ht
    have ht : (s.patch n).talker = some (.port p) := by simpa using ht
    refine out.release (src := .port p) (by rw [State.takenOut_patch, if_pos rfl]; exact ht) (fun f o m x hx => ?_) _
    rcases out.homes f o m (by simp) x hx with home | ⟨q, hq, rfl⟩
    · exact .inr (.inl home)
    · obtain ⟨e, ht'⟩ := h.takenOut_talker f o hp hq hx
      exact .inl ⟨e, Option.some.inj (ht'.symm.trans ht)⟩
  · rename_i ht
    refine out.excuse (fun f o m _ x hx => ?_)
    rcases out.homes f o m (by simp) x hx with home | ⟨q, hq, rfl⟩
    · exact .inl home
    · obtain ⟨_, ht'⟩ := h.takenOut_talker f o hp hq hx
      exact absurd (List.any_eq_true.mpr ⟨q, hq, by simpa using ht'⟩) ht

/-! ### Closing and the settings of a patch -/

theorem dissolve (h : Sound F O noOne [] s) (c : Console) (n : SlotId) (k : Nat) : Sound F O noOne [] (s.dissolve c n k) := by
  unfold State.dissolve
  split
  · rename_i hk
    refine Sound.evalPatch (h.patch (still_modPatch s n _) ?_ ?_ (fun f => ?_) (fun f o => ?_) (fun f o x hx => ?_)) n <;>
      rw [State.modPatch_patch, if_pos rfl] at *
    · exact nofun
    · have floors := h.floors f n (by simp)
      unfold PatchRec.floorAgrees at floors
      rw [hk.2] at floors
      exact ⟨floors, rfl⟩
    · exact ⟨List.Pairwise.nil, List.nodup_nil, nofun, (h.order f o n (by simp)).2.2.2⟩
    · refine h.homes f o n (by simp) x ?_
      rcases PatchRec.stands_iff.mp hx with e | e | e
      · exact PatchRec.stands_iff.mpr (.inl e)
      · exact PatchRec.stands_iff.mpr (.inr (.inl e))
      · cases e
  · exact h.but.retire _

/-- Stored settings, before a change of style has been handed on: everything but a partner left beside style PREEMPT (R61). -/
theorem storePatch (h : Sound F O noOne [] s) (n : SlotId) (sel : PatchSelection) (hu : (s.patch n).state ≠ .unused) :
    Sound F O noOne [] (((s.modPatch n (fun r => r.store sel)).modeChanges n (s.patch n).mode).styleChanges n (s.patch n).style) := by
  have hmode : Still [] (s.modPatch n (fun r => r.store sel)) ((s.modPatch n (fun r => r.store sel)).modeChanges n (s.patch n).mode) := by
    unfold State.modeChanges
    split
    · exact .refl _
    · exact still_evalPatch _ _
  have hstill := (still_modPatch s n (fun r => r.store sel)).trans hmode.mono
  have hpatch : ((s.modPatch n (fun r => r.store sel)).modeChanges n (s.patch n).mode).patch n = (s.patch n).store sel := by
    rw [hmode.patch n (by simp), State.modPatch_patch, if_pos rfl]
  revert hstill hpatch
  generalize (s.modPatch n (fun r => r.store sel)).modeChanges n (s.patch n).mode = u
  intro hstill hpatch
  have but : Sound F O noOne [n] u := h.but.still hstill (by
    simp only [List.mem_singleton, forall_eq]
    rw [hpatch]; exact ⟨rfl, hu⟩)
  have hfloors : F → (u.patch n).floorAgrees := fun f => by rw [hpatch]; exact h.floors f n (by simp)
  have hhomes : F → O → ∀ x, (u.patch n).stands x = true → u.home n x ∨ noOne x := fun f o x hx => by
    rw [hpatch] at hx
    exact (h.homes f o n (by simp) x hx).imp_left (hstill.home n x).mpr
  unfold State.styleChanges
  split
  · rename_i d hold hnew hd
    have hvac : (u.modPatch n (fun r => { r with partner := none })).patch n = { u.patch n with partner := none } := by
      rw [State.modPatch_patch, if_pos rfl]
    have vacated : Sound F O noOne [] (u.modPatch n (fun r => { r with partner := none })) := by
      have k := still_modPatch u n (fun r => { r with partner := none })
      refine (but.still k ?_).close (fun f => ?_) (fun f o => ?_) (fun f o x hx => ?_)
      · simp only [List.mem_singleton, forall_eq]
        rw [hvac, hpatch]; exact ⟨rfl, hu⟩
      · have floors := hfloors f
        rw [hvac]
        unfold PatchRec.floorAgrees at floors ⊢
        simp only []
        split at floors
        · exact ⟨floors.1, trivial, floors.2.2⟩
        · exact ⟨floors.1, trivial, floors.2.2⟩
        · exact ⟨floors.1, trivial, floors.2.2⟩
        · exact floors
        · exact floors
      · obtain ⟨h1, h2, h3, _⟩ := h.order f o n (by simp)
        rw [hvac, hpatch]
        exact PatchRec.inOrder_congr (PatchRec.unpartnered_inOrder (r := (s.patch n).store sel) h1 h2 (fun x hx => (h3 x hx).1))
          (fun x _ => (k.priority x).trans (hstill.priority x))
      · rw [hvac] at hx
        exact (hhomes f o x (PatchRec.unpartnered_stands hx)).imp_left (k.home n x).mpr
    simp only []
    split
    · have order := fun f o => h.order f o n (by simp)
      have hpartner : (s.patch n).partner = some d := by rw [hpatch] at hd; exact hd
      refine Sound.evalPatch (vacated.takeBid (fun f o => ?_) (fun f o => .inl ?_)) n
      · rw [hvac, hpatch]
        refine PatchRec.stands_eq_false.mpr ⟨?_, nofun, fun hb => ?_⟩
        · obtain ⟨p, hp⟩ := PatchRec.portTalker_isSome.mp ((order f o).2.2.2 (by rw [hpartner]; rfl)).2
          show (s.patch n).talker ≠ _
          rw [hp]; exact nofun
        · exact ((order f o).2.2.1 _ hb).2 (by rw [hpartner]; rfl)
      · have := (h.homes f o n (by simp) (.console d) (PatchRec.stands_iff.mpr (.inr (.inl (by rw [hpartner]; rfl))))).resolve_right id
        exact ((still_modPatch u n _).home n _).mpr ((hstill.home n _).mpr this)
    · exact vacated
  · rename_i hno
    refine but.close hfloors (fun f o => ?_) hhomes
    obtain ⟨h1, h2, h3, h4⟩ := h.order f o n (by simp)
    refine PatchRec.inOrder_congr (prio := s.priority) (r := u.patch n) ?_ (fun x _ => hstill.priority x)
    rw [hpatch] at hno ⊢
    refine ⟨h1, h2, h3, fun hp => ?_⟩
    obtain ⟨d, hd⟩ := Option.isSome_iff_exists.mp hp
    have hd' : (s.patch n).partner = some d := hd
    obtain ⟨hmix, hport⟩ := h4 (by rw [hd']; rfl)
    refine ⟨?_, hport⟩
    cases hstyle : ((s.patch n).store sel).style with
    | mix => rfl
    | preempt => exact absurd hd (hno d hmix hstyle)

end Sound

end Sys2Proof.Machine

/-! Sound, concluded: two patches merged, the settings of a port, a millisecond counted and the resets; every step keeps memberships in
agreement and floors in order. -/

namespace Sys2Proof.Machine

/-! ### The record of a merge (R58, R59) -/

theorem foldl_insertBid_perm (s : State) (l acc : List Source) : (l.foldl (fun l src => s.insertBid src l) acc).Perm (l ++ acc) := by
  induction l generalizing acc with
  | nil => exact .refl _
  | cons x l ih => exact ((ih _).trans ((s.insertBid_perm x acc).append_left l)).trans List.perm_middle

theorem foldl_insertBid_sorted {s : State} (l : List Source) {acc : List Source} (h : Sorted s.priority acc) :
    Sorted s.priority (l.foldl (fun l src => s.insertBid src l) acc) := by
  induction l generalizing acc with
  | nil => exact h
  | cons x l ih => exact ih (State.insertBid_sorted x h)

theorem State.joinedBids_perm (s : State) (a b : SlotId) : (s.joinedBids a b).Perm ((s.patch b).bids ++ (s.patch a).bids) :=
  foldl_insertBid_perm s _ _

theorem PatchRec.promotePartner_inOrder {prio : Source → Nat} {r : PatchRec} (h : r.inOrder prio) : r.promotePartner.inOrder prio := by
  unfold PatchRec.promotePartner
  split
  · rename_i d hd
    split at hd
    · rename_i hc
      exact PatchRec.partnered_inOrder (PatchRec.erased_inOrder h (.console d)) hc.1 hc.2.1 h.2.1.not_mem_erase
    · cases hd
  · exact h

theorem PatchRec.promotePartner_stands {r : PatchRec} {x : Source} (h : r.promotePartner.stands x = true) : r.stands x = true := by
  unfold PatchRec.promotePartner at h
  split at h
  · rename_i d hd
    split at hd
    · rcases PatchRec.partnered_stands (r := { r with bids := r.bids.erase (.console d) }) h with h | rfl
      · exact PatchRec.erased_stands h
      · exact PatchRec.stands_iff.mpr (.inr (.inr (firstConsole_mem hd)))
    · cases hd
  · exact h

theorem PatchRec.promotePartner_state (r : PatchRec) : r.promotePartner.state = r.state := by
  unfold PatchRec.promotePartner; split <;> rfl
theorem PatchRec.promotePartner_members (r : PatchRec) : r.promotePartner.members = r.members := by
  unfold PatchRec.promotePartner; split <;> rfl
theorem PatchRec.promotePartner_talker (r : PatchRec) : r.promotePartner.talker = r.talker := by
  unfold PatchRec.promotePartner; split <;> rfl
theorem State.carryPartner_state (s : State) (r : PatchRec) (d : Option Console) : (s.carryPartner r d).state = r.state := by
  unfold State.carryPartner; split
  · rfl
  · split <;> rfl
theorem State.carryPartner_members (s : State) (r : PatchRec) (d : Option Console) : (s.carryPartner r d).members = r.members := by
  unfold State.carryPartner; split
  · rfl
  · split <;> rfl
theorem State.carryPartner_talker (s : State) (r : PatchRec) (d : Option Console) : (s.carryPartner r d).talker = r.talker := by
  unfold State.carryPartner; split
  · rfl
  · split <;> rfl

theorem State.mergedRecord_members (s : State) (a b : SlotId) : (s.mergedRecord a b).members = (s.patch a).members ++ (s.patch b).members := by
  unfold State.mergedRecord; rw [PatchRec.promotePartner_members, State.carryPartner_members]; rfl
theorem State.mergedRecord_state (s : State) (a b : SlotId) : (s.mergedRecord a b).state = (s.joinedRecord a b).state := by
  unfold State.mergedRecord; rw [PatchRec.promotePartner_state, State.carryPartner_state]
theorem State.mergedRecord_talker (s : State) (a b : SlotId) : (s.mergedRecord a b).talker = (s.patch a).talker.or (s.patch b).talker := by
  unfold State.mergedRecord; rw [PatchRec.promotePartner_talker, State.carryPartner_talker]; rfl

theorem State.mergedRecord_used (s : State) (a b : SlotId) : (s.mergedRecord a b).state ≠ .unused := by
  rw [State.mergedRecord_state]
  unfold State.joinedRecord
  simp only []
  split
  · exact nofun
  · split <;> exact nofun

/-- What the checks of MERGE PATCHES let through (R57). -/
structure Mergeable (s : State) (a b : SlotId) : Prop where
  ne : a ≠ b
  usedA : (s.patch a).state ≠ .unused
  usedB : (s.patch b).state ≠ .unused
  openA : (s.patch a).state ≠ .closing
  openB : (s.patch b).state ≠ .closing
  oneTalker : (s.patch a).talker = none ∨ (s.patch b).talker = none

theorem State.isClosing_eq_none {s : State} {n : SlotId} : s.isClosing n = none ↔ (s.patch n).state ≠ .closing := by
  simp [State.isClosing]

theorem mergeable_of_checks {s : State} {c : Console} {a b : SlotId} (h : firstRefusal (s.mergeChecks c a b) = none) : Mergeable s a b := by
  simp only [State.mergeChecks, firstRefusal_cons, check_eq_none, State.notInUse_eq_none, State.isClosing_eq_none, beq_eq_false_iff_ne,
    Bool.and_eq_false_iff, Option.isSome_eq_false_iff, Option.isNone_iff_eq_none] at h
  obtain ⟨hne, ha, hb, _, _, hca, hcb, ht, _⟩ := h
  exact ⟨hne, ha, hb, hca, hcb, ht⟩

/-- A patch in use and not CLOSING in which nobody talks has neither partner nor bid (R26). -/
theorem PatchRec.floorAgrees.silent {r : PatchRec} (h : r.floorAgrees) (ht : r.talker = none) :
    r.partner = none ∧ r.bids = [] := by
  unfold PatchRec.floorAgrees at h
  split at h
  · exact h.2
  · exact h.2
  · exact h.2
  · rw [ht] at h; cases h
  · rw [ht] at h; cases h.1

theorem State.mergedRecord_floorAgrees {s : State} {a b : SlotId} (ha : (s.patch a).floorAgrees) (hb : (s.patch b).floorAgrees) :
    (s.mergedRecord a b).floorAgrees := by
  cases ht : (s.patch a).talker.or (s.patch b).talker with
  | some src =>
    have hstate : (s.mergedRecord a b).state = .talk := by
      rw [State.mergedRecord_state]
      unfold State.joinedRecord
      simp only [ht, Option.isSome_some, if_true]
    unfold PatchRec.floorAgrees
    rw [hstate, State.mergedRecord_talker, ht]
    rfl
  | none =>
    obtain ⟨hta, htb⟩ := Option.or_eq_none_iff.mp ht
    obtain ⟨hpa, hba⟩ := ha.silent hta
    obtain ⟨hpb, hbb⟩ := hb.silent htb
    have bids : (s.joinedRecord a b).bids = [] := by
      show s.joinedBids a b = []
      unfold State.joinedBids
      rw [hba, hbb]; rfl
    have talker : (s.joinedRecord a b).talker = none := ht
    have merged : s.mergedRecord a b = s.joinedRecord a b := by
      unfold State.mergedRecord State.carryPartner PatchRec.promotePartner
      rw [hpb]
      simp only []
      rw [bids]
      simp [firstConsole]
    rw [merged]
    unfold PatchRec.floorAgrees
    have hp : (s.joinedRecord a b).partner = none := hpa
    have hstate : (s.joinedRecord a b).state = .hang ∨ (s.joinedRecord a b).state = .quiet := by
      unfold State.joinedRecord
      simp only [ht, Option.isSome_none, Bool.false_eq_true, if_false]
      split
      · exact .inl rfl
      · exact .inr rfl
    rcases hstate with e | e <;> rw [e] <;> exact ⟨talker, hp, bids⟩

/-- The joined record in order, and who stands in it (R59). -/
theorem Mergeable.order {s : State} {a b : SlotId} (h : Mergeable s a b) (fa : (s.patch a).floorAgrees) (fb : (s.patch b).floorAgrees)
    (oa : (s.patch a).inOrder s.priority) (ob : (s.patch b).inOrder s.priority) :
    (s.mergedRecord a b).inOrder s.priority ∧
      ∀ x, (s.mergedRecord a b).stands x = true → (s.patch a).stands x = true ∨ (s.patch b).stands x = true := by
  have perm := s.joinedBids_perm a b
  have sorted : Sorted s.priority (s.joinedBids a b) := foldl_insertBid_sorted _ oa.1
  suffices hcarry : (s.carryPartner (s.joinedRecord a b) (s.patch b).partner).inOrder s.priority ∧
      ∀ x, (s.carryPartner (s.joinedRecord a b) (s.patch b).partner).stands x = true →
        (s.patch a).stands x = true ∨ (s.patch b).stands x = true from
    ⟨PatchRec.promotePartner_inOrder hcarry.1, fun x hx => hcarry.2 x (PatchRec.promotePartner_stands hx)⟩
  cases htb : (s.patch b).talker with
  | none =>
    -- Nobody talks in b: it brings neither partner nor bid.
    obtain ⟨hpb, hbb⟩ := fb.silent htb
    have bids : s.joinedBids a b = (s.patch a).bids := by unfold State.joinedBids; rw [hbb]; rfl
    have talker : (s.joinedRecord a b).talker = (s.patch a).talker := by
      show (s.patch a).talker.or (s.patch b).talker = _
      rw [htb, Option.or_none]
    have carried : s.carryPartner (s.joinedRecord a b) (s.patch b).partner = s.joinedRecord a b := by rw [hpb]; rfl
    have portTalker : (s.joinedRecord a b).portTalker = (s.patch a).portTalker := by unfold PatchRec.portTalker; rw [talker]
    rw [carried]
    constructor
    · unfold PatchRec.inOrder
      rw [talker, portTalker]
      have eb : (s.joinedRecord a b).bids = (s.patch a).bids := bids
      rw [eb]
      exact oa
    · intro x hx
      rcases PatchRec.stands_iff.mp hx with e | e | e
      · exact .inl (PatchRec.stands_iff.mpr (.inl (talker ▸ e)))
      · exact .inl (PatchRec.stands_iff.mpr (.inr (.inl e)))
      · exact .inl (PatchRec.stands_iff.mpr (.inr (.inr (bids ▸ e))))
  | some src =>
    -- The talker is b's: a brings neither partner nor bid.
    have hta : (s.patch a).talker = none := h.oneTalker.resolve_right (by rw [htb]; exact nofun)
    obtain ⟨hpa, hba⟩ := fa.silent hta
    have talker : (s.joinedRecord a b).talker = (s.patch b).talker := by
      show (s.patch a).talker.or (s.patch b).talker = _
      rw [hta]; rfl
    rw [hba, List.append_nil] at perm
    have apart : ∀ x ∈ s.joinedBids a b, (s.joinedRecord a b).talker ≠ some x := fun x hx => by
      rw [talker]; exact (ob.2.2.1 x (perm.mem_iff.mp hx)).1
    have joined : (s.joinedRecord a b).inOrder s.priority :=
      ⟨sorted, perm.nodup_iff.mpr ob.2.1, fun x hx => ⟨apart x hx, by
        show (s.patch a).partner.map _ ≠ _
        rw [hpa]; exact nofun⟩, fun hp => by
        have hp : (s.patch a).partner.isSome = true := hp
        rw [hpa] at hp; cases hp⟩
    have joinedStands : ∀ x, (s.joinedRecord a b).stands x = true → (s.patch b).stands x = true := fun x hx => by
      rcases PatchRec.stands_iff.mp hx with e | e | e
      · exact PatchRec.stands_iff.mpr (.inl (talker ▸ e))
      · have e : (s.patch a).partner.map Source.console = some x := e
        rw [hpa] at e; cases e
      · exact PatchRec.stands_iff.mpr (.inr (.inr (perm.mem_iff.mp e)))
    unfold State.carryPartner
    split
    · exact ⟨joined, fun x hx => .inr (joinedStands x hx)⟩
    · rename_i d hd
      obtain ⟨p, hp⟩ := PatchRec.portTalker_isSome.mp (ob.2.2.2 (by rw [hd]; rfl)).2
      have hdb : .console d ∉ s.joinedBids a b := fun hm => (ob.2.2.1 _ (perm.mem_iff.mp hm)).2 (by rw [hd]; rfl)
      have stood : (s.patch b).stands (.console d) = true := PatchRec.stands_iff.mpr (.inr (.inl (by rw [hd]; rfl)))
      split
      · rename_i hstyle
        refine ⟨PatchRec.partnered_inOrder joined hstyle (PatchRec.portTalker_isSome.mpr ⟨p, talker.trans hp⟩) hdb, fun x hx => .inr ?_⟩
        rcases PatchRec.partnered_stands hx with hx | rfl
        · exact joinedStands x hx
        · exact stood
      · refine ⟨PatchRec.listed_inOrder joined (PatchRec.stands_eq_false.mpr ⟨?_, ?_, hdb⟩), fun x hx => .inr ?_⟩
        · rw [talker, hp]; exact nofun
        · show (s.patch a).partner.map _ ≠ _
          rw [hpa]; exact nofun
        · rcases PatchRec.listed_stands hx with hx | rfl
          · exact joinedStands x hx
          · exact stood

/-! ### The state after a merge -/

theorem foldl_carried_portPatch (l : List PortId) (a : SlotId) (s : State) (q : PortId) :
    ((l.foldl (fun t p => t.updPort p (fun r => { r with patch := some a })) s).port q).patch =
      if q ∈ l then some a else (s.port q).patch := by
  induction l generalizing s with
  | nil => simp
  | cons p l ih =>
    rw [List.foldl_cons, ih, State.updPort_port]
    by_cases h : q = p
    · subst h; simp
    · simp [h]

theorem foldl_carried_patch (l : List PortId) (a : SlotId) (s : State) (m : SlotId) :
    (l.foldl (fun t p => t.updPort p (fun r => { r with patch := some a })) s).patch m = s.patch m := by
  induction l generalizing s with
  | nil => rfl
  | cons p l ih => rw [List.foldl_cons, ih, State.updPort_patch]

theorem foldl_carried_console (l : List PortId) (a : SlotId) (s : State) (c : Console) :
    (l.foldl (fun t p => t.updPort p (fun r => { r with patch := some a })) s).console c = s.console c := by
  induction l generalizing s with
  | nil => rfl
  | cons p l ih => rw [List.foldl_cons, ih, State.updPort_console]

theorem State.merge_patch {s : State} {a b : SlotId} (hab : a ≠ b) (c : Console) (m : SlotId) :
    (s.merge c a b).patch m = if m = a then s.mergedRecord a b else if m = b then PatchRec.unused else s.patch m := by
  unfold State.merge
  simp only [State.offer_patch, State.modConsole_patch]
  rw [(still_evalPatch (ns := []) _ a).patch m (by simp), foldl_carried_patch, State.setPatch_patch, State.setPatch_patch]
  by_cases e : m = a
  · subst e; simp [hab]
  · simp [e]

theorem State.merge_portPatch (s : State) (c : Console) (a b : SlotId) (q : PortId) :
    ((s.merge c a b).port q).patch = if q ∈ (s.patch b).members then some a else (s.port q).patch := by
  unfold State.merge
  simp only [State.offer_port, State.modConsole_port]
  rw [(still_evalPatch (ns := []) _ a).portPatch, foldl_carried_portPatch]
  rfl

theorem State.merge_console (s : State) (c : Console) (a b : SlotId) (d : Console) :
    (s.merge c a b).console d = (s.console d).renamePatch b a := by
  unfold State.merge
  simp only [State.offer_console]
  rw [modConsole_both, (still_evalPatch (ns := []) _ a).console, foldl_carried_console]
  rfl

theorem State.merge_priority (s : State) (c : Console) (a b : SlotId) (x : Source) : (s.merge c a b).priority x = s.priority x := by
  cases x with
  | console d => rfl
  | port q => exact PortRec.fixedPart_priority ((kept_merge s c a b).ports q)

namespace Sound

variable {F O : Prop} {E E' : Source → Prop} {N : List SlotId} {s t : State} {n : SlotId}

theorem merge (h : Sound F O noOne [] s) {a b : SlotId} (k : Mergeable s a b) (c : Console) : Sound F O noOne [] (s.merge c a b) := by
  obtain ⟨hmem, hnodup, hunused⟩ := h.agree
  have hpatch := fun m => State.merge_patch (s := s) k.ne c m
  have hmerged : (s.merge c a b).patch a = s.mergedRecord a b := by rw [hpatch, if_pos rfl]
  have hfreed : (s.merge c a b).patch b = PatchRec.unused := by rw [hpatch, if_neg k.ne.symm, if_pos rfl]
  have hother : ∀ m, m ≠ a → m ≠ b → (s.merge c a b).patch m = s.patch m := fun m ha hb => by rw [hpatch, if_neg ha, if_neg hb]
  have disjoint : ∀ q ∈ (s.patch a).members, q ∉ (s.patch b).members := fun q ha hb =>
    k.ne (Option.some.inj (((hmem a q).mp ha).symm.trans ((hmem b q).mp hb)))
  -- Whoever was at home in b is at home in a, and every other home stands.
  have home : ∀ m x, m ≠ b → s.home m x → (s.merge c a b).home m x := fun m x hm hx => by
    cases x with
    | port q =>
      rw [State.home_port] at hx ⊢
      rw [State.merge_portPatch]
      split
      · rename_i hq
        exact absurd (Option.some.inj (hx.symm.trans ((hmem b q).mp hq))) hm
      · exact hx
    | console d =>
      rw [State.home_console] at hx ⊢
      rw [State.merge_console]
      refine ⟨?_, hx.2⟩
      unfold ConsoleRec.renamePatch
      simp only []
      rw [hx.1, if_neg (fun e => hm (Target.patch.inj e))]
  have renamed : ∀ x, s.home b x → (s.merge c a b).home a x := fun x hx => by
    cases x with
    | port q =>
      rw [State.home_port] at hx ⊢
      rw [State.merge_portPatch, if_pos ((hmem b q).mpr hx)]
    | console d =>
      rw [State.home_console] at hx ⊢
      rw [State.merge_console]
      refine ⟨?_, hx.2⟩
      unfold ConsoleRec.renamePatch
      simp only []
      rw [if_pos hx.1]
  refine ⟨⟨fun m q => ?_, fun m => ?_, fun m hm => ?_⟩, fun f m _ => ?_, fun f o m _ => ?_, fun f o m _ x hx => ?_⟩
  · rw [State.merge_portPatch]
    by_cases ea : m = a
    · subst ea
      rw [hmerged, State.mergedRecord_members, List.mem_append]
      split
      · rename_i hq; simp [hq]
      · rename_i hq; simpa [hq] using hmem m q
    · by_cases eb : m = b
      · subst eb
        rw [hfreed]
        split
        · simp [PatchRec.unused, Ne.symm ea]
        · rename_i hq; simpa [PatchRec.unused] using mt (hmem m q).mpr hq
      · rw [hother m ea eb, hmem m q]
        split
        · rename_i hq
          rw [(hmem b q).mp hq]
          simp [Ne.symm ea, Ne.symm eb]
        · rfl
  · by_cases ea : m = a
    · subst ea
      rw [hmerged, State.mergedRecord_members]
      exact List.nodup_append.mpr ⟨hnodup m, hnodup b, fun q hq r hr e => disjoint q hq (e ▸ hr)⟩
    · by_cases eb : m = b
      · subst eb; rw [hfreed]; exact List.nodup_nil
      · rw [hother m ea eb]; exact hnodup m
  · by_cases ea : m = a
    · subst ea; rw [hmerged] at hm; exact absurd hm (State.mergedRecord_used _ _ _)
    · by_cases eb : m = b
      · subst eb; exact hfreed
      · rw [hother m ea eb] at hm ⊢; exact hunused m hm
  · by_cases ea : m = a
    · subst ea; rw [hmerged]; exact State.mergedRecord_floorAgrees (h.floors f m (by simp)) (h.floors f b (by simp))
    · by_cases eb : m = b
      · subst eb; rw [hfreed]; exact ⟨rfl, rfl, rfl⟩
      · rw [hother m ea eb]; exact h.floors f m (by simp)
  · refine PatchRec.inOrder_congr (prio := s.priority) ?_ (fun x _ => s.merge_priority c a b x)
    by_cases ea : m = a
    · subst ea; rw [hmerged]
      exact (k.order (h.floors f m (by simp)) (h.floors f b (by simp)) (h.order f o m (by simp)) (h.order f o b (by simp))).1
    · by_cases eb : m = b
      · subst eb; rw [hfreed]; exact PatchRec.inOrder_of_none rfl rfl
      · rw [hother m ea eb]; exact h.order f o m (by simp)
  · refine .inl ?_
    by_cases ea : m = a
    · subst ea; rw [hmerged] at hx
      rcases (k.order (h.floors f m (by simp)) (h.floors f b (by simp)) (h.order f o m (by simp)) (h.order f o b (by simp))).2 x hx with hx | hx
      · exact home m x k.ne ((h.homes f o m (by simp) x hx).resolve_right id)
      · exact renamed x ((h.homes f o b (by simp) x hx).resolve_right id)
    · by_cases eb : m = b
      · subst eb; rw [hfreed] at hx; cases hx
      · rw [hother m ea eb] at hx
        exact home m x eb ((h.homes f o m (by simp) x hx).resolve_right id)

/-! ### Emergencies and conditions -/

theorem emergencySets (h : Sound F O noOne [] s) (p : PortId) : Sound F O noOne [] (s.emergencySets p) :=
  h.priorityChanged (Reprioritized.still (reprioritized_updPort (f := fun r => { r with emergency := true }) rfl) (still_offerBoth _ _)) true

theorem emergencyClears (h : Sound F O noOne [] s) (p : PortId) : Sound F O noOne [] (s.emergencyClears p) :=
  h.priorityChanged (reprioritized_updPort (f := fun r => { r with emergency := false }) rfl) false

theorem clearConditions (h : Sound F O noOne [] s) (p : PortId) (sel : ConditionSelection) :
    Sound F O noOne [] ((s.updPort p (fun r => r.clearConditions sel)).conditionsClear p (s.port p)) := by
  have hport : (s.updPort p (fun r => r.clearConditions sel)).port p = ((s.updPort p (fun r => r.clearConditions sel)).port p) := rfl
  have hemergency : ((s.updPort p (fun r => r.clearConditions sel)).port p).emergency =
      ((s.port p).emergency && !(sel.emergency && (s.port p).cfg.emgMode == .latch)) := by
    rw [State.updPort_port, if_pos rfl, PortRec.remask_emergency]; rfl
  have fallen : Sound F O noOne [] (if (s.port p).emergency && !((s.updPort p (fun r => r.clearConditions sel)).port p).emergency then
      (s.updPort p (fun r => r.clearConditions sel)).priorityChanged p false else s.updPort p (fun r => r.clearConditions sel)) := by
    split
    · exact h.priorityChanged (reprioritized_updPort rfl) false
    · rename_i hno
      refine h.stays (still_updPort rfl ?_)
      rw [hemergency] at hno
      show PortRec.priority { s.port p with emergency := _ } = _
      have same : ((s.port p).emergency && !(sel.emergency && (s.port p).cfg.emgMode == .latch)) = (s.port p).emergency := by
        cases he : (s.port p).emergency with
        | false => rfl
        | true => rw [he] at hno; simpa [imp_iff_not_or] using hno
      unfold PortRec.priority PortRec.clearConditions
      simp only []
      rw [same]
  unfold State.conditionsClear
  simp only []
  revert fallen
  generalize (if (s.port p).emergency && !((s.updPort p (fun r => r.clearConditions sel)).port p).emergency then
      (s.updPort p (fun r => r.clearConditions sel)).priorityChanged p false else s.updPort p (fun r => r.clearConditions sel)) = u
  intro fallen
  have expired : ∀ (b : Bool), Sound F O noOne [] (if b then u.portBidsIfQualified p else u) := fun b => by
    cases b
    · exact fallen
    · exact fallen.portBidsIfQualified p
  split
  · exact (expired _).evalPort p
  · exact expired _

/-! ### Counting and resets -/

theorem count (h : Sound F O noOne [] s) : Sound F O noOne [] s.count := by
  have floor : ∀ m, (s.patch m).SameFloor (s.count.patch m) := fun m => by rw [State.count_patch]; exact ⟨rfl, rfl, rfl, rfl, rfl⟩
  have prio : ∀ x, s.count.priority x = s.priority x := fun x => by
    cases x with
    | console c => rfl
    | port p => show (s.count.port p).priority = _; rw [State.count_port]; rfl
  obtain ⟨hmem, hnodup, hunused⟩ := h.agree
  refine ⟨⟨fun m p => by rw [State.count_patch, State.count_port]; exact hmem m p, fun m => by rw [State.count_patch]; exact hnodup m,
    fun m hm => ?_⟩, fun f m hm => (floor m).floorAgrees (h.floors f m hm),
    fun f o m hm => PatchRec.inOrder_congr ((floor m).inOrder (h.order f o m hm)) (fun x _ => prio x), fun f o m hm x hx => .inl ?_⟩
  · rw [State.count_patch] at hm ⊢
    rw [hunused m hm]
    rfl
  · rw [(floor m).stands] at hx
    have home := (h.homes f o m hm x hx).resolve_right id
    cases x with
    | port p => rw [State.home_port, State.count_port]; exact home
    | console c => rw [State.home_console, State.count_console]; exact home

theorem of_blank (h : s.Blank) : Sound F O noOne [] s where
  agree := ⟨fun n p => by rw [h.patches, h.portPatch]; simp [PatchRec.unused], fun n => by rw [h.patches]; exact List.nodup_nil,
    fun n _ => h.patches n⟩
  floors _ n _ := by rw [h.patches]; exact ⟨rfl, rfl, rfl⟩
  order _ _ n _ := by rw [h.patches]; exact PatchRec.inOrder_of_none rfl rfl
  homes _ _ n _ x hx := by rw [h.patches] at hx; cases hx

theorem quietPort (h : Sound F O noOne [] s) {p : PortId} {rn : PortRec × List CarrierNews} (hq : (s.port p).QuietMove rn.1) :
    Sound F O noOne [] (s.writePort p rn) :=
  h.stays (still_writePort hq.patch (by unfold PortRec.priority; rw [hq.emergency, hq.cfg]))

theorem modPatch_same (h : Sound F O noOne [] s) {f : PatchRec → PatchRec} (hf : (s.patch n).SameFloor (f (s.patch n)))
    (hm : (f (s.patch n)).members = (s.patch n).members) (hu : (s.patch n).state ≠ .unused) : Sound F O noOne [] (s.modPatch n f) := by
  refine h.patch (still_modPatch s n f) ?_ ?_ (fun f' => ?_) (fun f' o => ?_) (fun f' o x hx => ?_) <;>
    rw [State.modPatch_patch, if_pos rfl] at *
  · exact hm
  · rw [hf.state]; exact hu
  · exact hf.floorAgrees (h.floors f' n (by simp))
  · exact hf.inOrder (h.order f' o n (by simp))
  · rw [hf.stands] at hx
    exact h.homes f' o n (by simp) x hx

end Sound

theorem sound_events (F O : Prop) : EventInvariant (Sound F O noOne []) where
  restartFirst h := h.stays { Still.refl _ with }
  audio h := h.stays { Still.refl _ with }
  assertReset {s} h := by
    rcases (assertReset_blank s).1 with e | e
    · rw [e]; exact h
    · exact .of_blank e
  powerUp {s} _ := .of_blank (powerUp_blank s).1
  releaseReset {s} h := by
    rcases (releaseReset_blank s).1 with e | e
    · rw [e]; exact h
    · exact .of_blank e
  restartTakesEffect {s} _ := .of_blank (restartTakesEffect_blank s).1
  link _ h := h.stays { Still.refl _ with }
  notice _ h := h.stays { Still.refl _ with }
  console hq h := h.quietConsole hq
  count h := h.count
  raised h := h.stays (still_raised _ _)
  write hq h := h.quietPort hq
  handOn e h := h.handOn e
  bids p h := h.portBidsIfQualified p
  keyUpRunsOut p h := h.stays (still_keyUpRunsOut _ p)
  transmitFault p h := h.stays (still_transmitFault _ p)
  hangRunsOut n h := h.hangRunsOut n
  elapsed n t _ ht h := h.modPatch_same ⟨rfl, rfl, rfl, rfl, rfl⟩ rfl (h.used_of_talker (PatchRec.portTalker_eq_some.mp ht))
  timesOut n t ht h := h.timesOut n t ht
  emergencySets p h := h.emergencySets p
  emergencyClears p h := h.emergencyClears p
  changeRequest c _ hf h := h.changeRequest c hf
  changeTarget c t h := h.changeTarget c t
  linkLost c h := h.linkLost c
  ownership n o b hu h := h.modPatch_same ⟨rfl, rfl, rfl, rfl, rfl⟩ rfl hu

end Sys2Proof.Machine

/-! Every step keeps memberships and floors in agreement: the commands that write settings and memberships, and the invariant. -/

namespace Sys2Proof.Machine

/-! ### The ports a command names (R51, R53) -/

theorem portOf?_injective {i j : Nat} {p : PortId} (hi : portOf? i = some p) (hj : portOf? j = some p) : i = j := by
  unfold portOf? at hi hj
  split at hi <;> split at hj <;> simp at hi hj
  · rw [← hj, Fin.mk.injEq] at hi
    omega

theorem mem_portsOf {ks : List Nat} {p : PortId} : p ∈ portsOf ks ↔ ∃ k ∈ ks, portOf? k = some p := by
  simp [portsOf, List.mem_filterMap]

theorem portsOf_nodup {ks : List Nat} (h : ks.Nodup) : (portsOf ks).Nodup :=
  List.Nodup.filterMap (fun _ _ _ hi hj => portOf?_injective hi hj) h

theorem nodup_of_counts {ks : List Nat} (h : ∀ k ∈ ks, ¬ 1 < ks.count k) : ks.Nodup :=
  List.nodup_iff_count_le_one.mpr (fun k => by
    by_cases hk : k ∈ ks
    · exact Nat.le_of_not_lt (h k hk)
    · rw [List.count_eq_zero_of_not_mem hk]; exact Nat.zero_le 1)

theorem nodup_of_firstRepeated {ks : List Nat} (h : firstRepeated ks = none) : ks.Nodup :=
  nodup_of_counts (fun k hk => by simpa using List.find?_eq_none.mp h k hk)

/-- No port of the list fails the check. -/
theorem passes_of_firstPort {ks : List Nat} {fails : PortId → Bool} (h : firstPort ks fails = none) :
    ∀ p ∈ portsOf ks, fails p = false := by
  intro p hp
  obtain ⟨k, hk, hkp⟩ := mem_portsOf.mp hp
  simpa [hkp] using List.find?_eq_none.mp h k hk

theorem freeSlot_unused {s : State} {k : Nat} {n : SlotId} (h : s.freeSlot k = some n) : (s.patch n).state = .unused := by
  unfold State.freeSlot at h
  split at h
  · simpa [PatchRec.inUse] using List.find?_some h
  · simpa [PatchRec.inUse] using (Option.filter_eq_some_iff.mp h).2

theorem State.leaveAll_used {s : State} {n d : SlotId} (ps : List PortId) (c : Console) (hd : d ≠ n)
    (hu : (s.patch d).state ≠ .unused) : ((s.leaveAll n ps c).patch d).state ≠ .unused := by
  have out : ((s.takenOut n ps).patch d).state ≠ .unused := by
    rw [State.takenOut_patch, if_neg hd]; exact hu
  rw [State.leaveAll_eq, (still_evalPatch (ns := []) _ n).patch d (by simp)]
  split
  · by_cases hc : ((s.takenOut n ps).patch n).state = .closing
    · unfold State.release
      rw [if_pos hc, State.retire_patch, if_neg hd, State.dropTalker_patch, if_neg hd]; exact out
    · rw [(still_release hc _).patch d (by simpa using hd)]; exact out
  · exact out

theorem State.leaveAll_portPatch {s : State} {n : SlotId} {ps : List PortId} (c : Console) {p : PortId} (hp : p ∈ ps) :
    ((s.leaveAll n ps c).port p).patch = none := by
  have kept : Kept [] [] (s.takenOut n ps) (s.leaveAll n ps c) := by
    rw [State.leaveAll_eq]
    refine Kept.trans ?_ (kept_evalPatch _ _)
    split
    · exact kept_release _ _ _
    · exact .refl _
  have out : ((s.takenOut n ps).port p).patch = none := by rw [State.takenOut_portPatch, if_pos hp]
  rcases kept.portPatch p (by simp) with h | h
  · rw [h, out]
  · exact h

/-! ### What the checks of a command let through (R49 to R61) -/

theorem createChecks_pass {s : State} {slot : Nat} {label : List Byte} {ports : List Nat}
    (hc : firstRefusal (s.createChecks slot label ports) = none) :
    (portsOf ports).Nodup ∧ ∀ p ∈ portsOf ports, (s.port p).patch = none := by
  simp only [State.createChecks, firstRefusal_cons, Option.map_eq_none_iff] at hc
  obtain ⟨_, _, _, _, repeated, _, _, inUse, _⟩ := hc
  exact ⟨portsOf_nodup (nodup_of_firstRepeated repeated), fun p hp => by simpa using passes_of_firstPort inUse p hp⟩

theorem addChecks_pass {s : State} {c : Console} {n : SlotId} {ports : List Nat} (hc : firstRefusal (s.addChecks c n ports) = none) :
    (portsOf ports).Nodup ∧ (∀ p ∈ portsOf ports, (s.port p).patch = none) ∧ (s.patch n).state ≠ .unused := by
  simp only [State.addChecks, firstRefusal_cons, Option.map_eq_none_iff, State.notInUse_eq_none] at hc
  obtain ⟨_, _, used, _, _, _, repeated, inUse, _⟩ := hc
  refine ⟨portsOf_nodup (nodup_of_counts (fun k hk => ?_)), fun p hp => by simpa using passes_of_firstPort inUse p hp, used⟩
  have passes := List.find?_eq_none.mp repeated k hk
  simp only [Bool.or_eq_true, not_or, decide_eq_true_eq] at passes
  exact passes.1

theorem removeChecks_pass {s : State} {c : Console} {n : SlotId} {ports : List Nat} (hc : firstRefusal (s.removeChecks c n ports) = none) :
    (∀ p ∈ portsOf ports, (s.port p).patch = some n) ∧ (s.patch n).state ≠ .unused := by
  simp only [State.removeChecks, firstRefusal_cons, Option.map_eq_none_iff, State.notInUse_eq_none] at hc
  obtain ⟨_, _, used, _, members, _⟩ := hc
  refine ⟨fun p hp => ?_, used⟩
  obtain ⟨k, hk, hkp⟩ := mem_portsOf.mp hp
  simpa [State.memberOf, hkp] using List.find?_eq_none.mp members k hk

theorem moveChecks_pass {s : State} {c : Console} {n d : SlotId} (hc : firstRefusal (s.moveChecks c n d) = none) :
    (s.patch d).state ≠ .unused ∧ d ≠ n := by
  simp only [State.moveChecks, firstRefusal_cons, check_eq_none, State.notInUse_eq_none, beq_eq_false_iff_ne] at hc
  exact ⟨hc.1, hc.2.1⟩

theorem setPatchChecks_pass {s : State} {c : Console} {n : SlotId} {sel : PatchSelection}
    (hc : firstRefusal (s.setPatchChecks c n sel) = none) : (s.patch n).state ≠ .unused := by
  simp only [State.setPatchChecks, firstRefusal_cons, State.notInUse_eq_none] at hc
  obtain ⟨_, _, _, used, _⟩ := hc
  exact used

/-- A patch with a member is in use (R24). -/
theorem used_of_portPatch {s : State} (a : s.membersAgree) {p : PortId} {n : SlotId} (hp : (s.port p).patch = some n) :
    (s.patch n).state ≠ .unused := fun hn => by
  have member := (a.1 n p).mpr hp
  rw [a.2.2 n hn] at member
  cases member

namespace Sound

variable {F O : Prop} {s : State} {n : SlotId}

/-! ### Settings of a port (R20, R21, R81) -/

theorem settle (h : Sound F O noOne [] s) : Sound F O noOne [] s.settle := (sound_events F O).settle h

theorem storeBase (h : Sound F O noOne [] s) (p : PortId) (sel : PortSelection) : Sound F O noOne []
    ((s.updPort p (fun r => { r with cfg := r.cfg.store sel })).baseChanges p (s.port p).cfg.basePriority) := by
  unfold State.baseChanges
  split
  · rename_i same
    refine h.stays (still_updPort rfl ?_)
    rw [State.updPort_port, if_pos rfl, PortRec.remask_cfg, PortRec.remask_emergency] at same
    unfold PortRec.priority
    rcases same with same | same <;> simp only [] at same ⊢
    · rw [same]
    · rw [same]; rfl
  · exact h.priorityChanged (reprioritized_updPort rfl) false

theorem kindChanges (h : Sound F O noOne [] s) (p : PortId) (old : PortKind) : Sound F O noOne [] (s.kindChanges p old) := by
  unfold State.kindChanges
  split
  · exact h
  · refine Sound.settle (Sound.evalPort ?_ p)
    split
    · exact h.settle
    · exact h

theorem inputsChange (h : Sound F O noOne [] s) (p : PortId) (old : PortRec) : Sound F O noOne [] (s.inputsChange p old) := by
  have cor : Sound F O noOne [] (if (s.port p).cfg.corPolarity = old.cfg.corPolarity ∧ (s.port p).cfg.glitchFilter = old.cfg.glitchFilter then s
      else (s.writePort p ((s.port p).conditionCor old.correctedCor)).settle) := by
    split
    · exact h
    · exact (h.quietPort (PortRec.quiet_conditionCor _ _)).settle
  unfold State.inputsChange
  simp only []
  split
  · exact cor
  · exact (sound_events F O).conditionEmg p _ cor

theorem storePort (h : Sound F O noOne [] s) (p : PortId) (sel : PortSelection) :
    Sound F O noOne [] ((s.updPort p (fun r => { r with cfg := r.cfg.store sel })).settingsChange p (s.port p)) := by
  unfold State.settingsChange
  refine (sound_events F O).emgModeChanges p _ ((sound_events F O).updPort (PortRec.quiet_senseChanges _ _) ?_ ?_)
  · rw [PortRec.senseChanges_frame]
  · exact ((h.storeBase p sel).kindChanges p _).inputsChange p _

/-! ### Memberships (R49 to R56) -/

/-- A slot written by CREATE PATCH is in agreement, with nobody in it (R50). -/
theorem createdSlot (h : Sound F O noOne [] s) (hn : (s.patch n).state = .unused) (c : Console) (label : List Byte) :
    Sound F O noOne [] (s.setPatch n (PatchRec.created c label)) := by
  have members : (s.patch n).members = [] := by rw [h.agree.2.2 n hn]; rfl
  refine h.patch (n := n) ⟨fun m hm => ?_, fun _ => rfl, fun _ => rfl, fun _ => rfl⟩ ?_ ?_ (fun _ => ?_) (fun _ _ => ?_) (fun _ _ x hx => ?_)
  · rw [State.setPatch_patch, if_neg (by simpa using hm)]
  all_goals rw [State.setPatch_patch, if_pos rfl] at *
  · rw [members]; rfl
  · exact nofun
  · exact ⟨rfl, rfl, rfl⟩
  · exact PatchRec.inOrder_of_none rfl rfl
  · cases hx

theorem create (h : Sound F O noOne [] s) {c : Console} {slot : Nat} {label : List Byte} {ports : List Nat}
    (hc : firstRefusal (s.createChecks slot label ports) = none) (hn : s.freeSlot slot = some n) :
    Sound F O noOne [] ((s.setPatch n (PatchRec.created c label)).joinAll n (portsOf ports)) := by
  obtain ⟨nodup, free⟩ := createChecks_pass hc
  exact (h.createdSlot (freeSlot_unused hn) c label).joinAll nodup free (by rw [State.setPatch_patch, if_pos rfl]; exact nofun)

theorem add (h : Sound F O noOne [] s) {c : Console} {ports : List Nat} (hc : firstRefusal (s.addChecks c n ports) = none) :
    Sound F O noOne [] (s.joinAll n (portsOf ports)) := by
  obtain ⟨nodup, free, used⟩ := addChecks_pass hc
  exact h.joinAll nodup free used

theorem remove (h : Sound F O noOne [] s) {c : Console} {ports : List Nat} (hc : firstRefusal (s.removeChecks c n ports) = none) :
    Sound F O noOne [] (s.leaveAll n (portsOf ports) c) := by
  obtain ⟨members, used⟩ := removeChecks_pass hc
  exact h.leaveAll members used c

theorem move (h : Sound F O noOne [] s) {c : Console} {p : PortId} {d : SlotId} (hp : (s.port p).patch = some n)
    (hc : firstRefusal (s.moveChecks c n d) = none) : Sound F O noOne [] ((s.leaveAll n [p] c).join d p) := by
  obtain ⟨usedDest, distinct⟩ := moveChecks_pass hc
  exact (h.leaveAll (ps := [p]) (by simpa using hp) (used_of_portPatch h.agree hp) c).join (State.leaveAll_portPatch c (by simp))
    (State.leaveAll_used [p] c distinct usedDest)

end Sound

/-! ### The invariants of memberships and floors -/

theorem sound_invariant (F O : Prop) : Invariant (Sound F O noOne []) where
  toEventInvariant := sound_events F O
  storePort p sel _ h := h.storePort p sel
  clearConditions p sel h := h.clearConditions p sel
  reserve c p h := h.reserve c p
  releaseReservation c p h := h.releaseReservation c p
  create _ _ _ _ _ hc hn h := h.create hc hn
  add _ _ _ hc h := h.add hc
  remove _ _ _ hc h := h.remove hc
  move _ _ _ _ hp hc h := h.move hp hc
  merge _ _ _ hc h := h.merge (mergeable_of_checks hc) _
  storePatch _ n sel hc h := h.storePatch n sel (setPatchChecks_pass hc)
  dissolve c n k _ h := h.dissolve c n k

theorem sound_keptByReply (F O : Prop) : KeptByReply (Sound F O noOne []) := fun _ _ _ _ h => h.stays { Still.refl _ with }

/-- Settles O56: Sound without floors is membersAgree, and every action of a step keeps it. -/
theorem membershipsStayInAgreement : Obligations.MembershipsStayInAgreement := by
  unfold Obligations.MembershipsStayInAgreement
  intro s t agree e
  have sound : Sound False False noOne [] s := sound_iff.mpr ⟨agree, nofun, nofun⟩
  exact ((sound_invariant False False).step (fun _ _ h => h.stays { Still.refl _ with }) (sound_keptByReply _ _) sound e).agree

/-- Settles O57: Sound with the floors, and with their order where it held, is kept by every action of a step. -/
theorem floorsStayInAgreement : Obligations.FloorsStayInAgreement := by
  unfold Obligations.FloorsStayInAgreement
  intro s t agree floors e
  have sound : Sound True s.floorsOrdered noOne [] s := sound_iff.mpr ⟨agree, fun _ => floors, fun _ o => o⟩
  obtain ⟨_, floors', ordered'⟩ := sound_iff.mp ((sound_invariant True s.floorsOrdered).step (fun _ _ h => h.stays { Still.refl _ with }) (sound_keptByReply _ _) sound e)
  exact ⟨floors' trivial, ordered' trivial⟩

end Sys2Proof.Machine

/-! A port in KEYUP or RELAY is fit to be there: what an action may leave to the keying unit's evaluation, and that the evaluation puts it right. -/

namespace Sys2Proof.Machine

/-! ### Actions that key nobody -/

/-- A record may pass from r to r' without keying: it leaves the relay set, or stays in it with its patch, kind and a clear fault flag. -/
def PortRec.CalmMove (r r' : PortRec) : Prop :=
  r'.inRelaySet = true → r.inRelaySet = true ∧ r'.patch = r.patch ∧ r'.cfg.kind = r.cfg.kind ∧ (r.fault = false → r'.fault = false)

/-- From s to t no port is keyed for its patch; outside ns no patch changes what the relay set depends on; and a patch that is now in HANG
has no talker, or has the talker it had in HANG. -/
structure Calm (ns : List SlotId) (s t : State) : Prop where
  port : ∀ p, (s.port p).CalmMove (t.port p)
  patch : ∀ m, m ∉ ns → (t.patch m).state = (s.patch m).state ∧ (t.patch m).mode = (s.patch m).mode ∧ (t.patch m).talker = (s.patch m).talker
  hang : ∀ m, (t.patch m).state = .hang →
    (t.patch m).talker = none ∨ ((s.patch m).state = .hang ∧ (t.patch m).talker = (s.patch m).talker)

theorem PortRec.CalmMove.refl (r : PortRec) : r.CalmMove r := fun h => ⟨h, rfl, rfl, id⟩

theorem PortRec.CalmMove.of_rest {r r' : PortRec} (h : r'.inRelaySet = false) : r.CalmMove r' := fun k => absurd k (by simp [h])

theorem PortRec.CalmMove.trans {a b c : PortRec} (h : a.CalmMove b) (k : b.CalmMove c) : a.CalmMove c := fun hc => by
  obtain ⟨hb, kp, kk, kf⟩ := k hc
  obtain ⟨ha, hp, hk, hf⟩ := h hb
  exact ⟨ha, kp.trans hp, kk.trans hk, kf ∘ hf⟩

theorem PortRec.inRelaySet_congr {r r' : PortRec} (h : r'.state = r.state) : r'.inRelaySet = r.inRelaySet := by
  unfold PortRec.inRelaySet; rw [h]

theorem PortRec.QuietMove.calm {r r' : PortRec} (h : r.QuietMove r') : r.CalmMove r' := fun k =>
  ⟨by rw [← PortRec.inRelaySet_congr h.state]; exact k, h.patch, by rw [h.cfg], fun hf => h.fault.trans hf⟩

theorem PortRec.calm_remask (old new : PortRec) : new.CalmMove (PortRec.remask old new).1 := fun k =>
  ⟨by rw [← PortRec.inRelaySet_congr (PortRec.remask_state old new)]; exact k, PortRec.remask_patch _ _, by rw [PortRec.remask_cfg],
    fun hf => (PortRec.remask_fault _ _).trans hf⟩

theorem PortRec.inRelaySet_iff {r : PortRec} : r.inRelaySet = true ↔ r.state = .keyUp ∨ r.state = .relay := by
  unfold PortRec.inRelaySet
  cases r.state <;> simp

theorem PortRec.rests_of_isParked {r : PortRec} (h : r.isParked = true) : r.inRelaySet = false := by
  unfold PortRec.isParked at h
  unfold PortRec.inRelaySet
  cases hs : r.state <;> simp_all

/-- PTT asserted for a console keys nobody for a patch (R112). -/
theorem PortRec.keyInto_parked (r : PortRec) : (r.keyInto .parkedKeyUp .parkedRelay).inRelaySet = false := by
  rw [← Bool.not_eq_true, PortRec.inRelaySet_iff, PortRec.keyInto_state]
  split <;> simp

namespace Calm

variable {ns : List SlotId} {s t u : State}

theorem refl (s : State) : Calm ns s s := ⟨fun _ => .refl _, fun _ _ => ⟨rfl, rfl, rfl⟩, fun _ h => .inr ⟨h, rfl⟩⟩

theorem trans (h : Calm ns s t) (k : Calm ns t u) : Calm ns s u where
  port p := (h.port p).trans (k.port p)
  patch m hm := by
    obtain ⟨h1, h2, h3⟩ := h.patch m hm
    obtain ⟨k1, k2, k3⟩ := k.patch m hm
    exact ⟨k1.trans h1, k2.trans h2, k3.trans h3⟩
  hang m hm := by
    rcases k.hang m hm with e | ⟨hh, e⟩
    · exact .inl e
    · rw [e]; exact h.hang m hh

theorem mono (h : Calm [] s t) : Calm ns s t := { h with patch := fun m _ => h.patch m (by simp) }

/-- Moves of ports alone, the patches untouched. -/
theorem of_ports (hp : ∀ p, (s.port p).CalmMove (t.port p)) (hn : ∀ m, t.patch m = s.patch m) : Calm ns s t :=
  ⟨hp, fun m _ => by rw [hn]; exact ⟨rfl, rfl, rfl⟩, fun m h => .inr ⟨by rw [← hn]; exact h, by rw [hn]⟩⟩

end Calm

section CalmOperations

variable {ns : List SlotId}

theorem calm_setPort {s : State} {p : PortId} {r : PortRec} (h : (s.port p).CalmMove r) : Calm ns s (s.setPort p r) :=
  .of_ports (fun q => by
    rw [State.setPort_port]; split
    · rename_i e; rw [e]; exact h
    · exact .refl _) (fun _ => rfl)

theorem calm_raised (s : State) (l : List CarrierEvent) : Calm ns s { s with raised := l } := .of_ports (fun _ => .refl _) (fun _ => rfl)

theorem calm_writePort {s : State} {p : PortId} {rn : PortRec × List CarrierNews} (h : (s.port p).CalmMove rn.1) :
    Calm ns s (s.writePort p rn) := (calm_setPort h).trans (calm_raised _ _)

theorem calm_updPort {s : State} {p : PortId} {f : PortRec → PortRec} (h : (s.port p).CalmMove (f (s.port p))) :
    Calm ns s (s.updPort p f) :=
  .of_ports (fun q => by
    rw [State.updPort_port]; split
    · rename_i e; rw [e]; exact h.trans (PortRec.calm_remask _ _)
    · exact .refl _) (fun _ => State.updPort_patch _ _ _ _)

theorem calm_offer (s : State) (c : Console) (e : Notice) : Calm ns s (s.offer c e) :=
  .of_ports (fun _ => by rw [State.offer_port]; exact .refl _) (fun _ => State.offer_patch _ _ _ _)
theorem calm_offerBoth (s : State) (e : Notice) : Calm ns s (s.offerBoth e) := (calm_offer s .A e).trans (calm_offer _ .B e)

theorem calm_foldl {α : Type} {f : State → α → State} (hf : ∀ s a, Calm ns s (f s a)) (l : List α) (s : State) : Calm ns s (l.foldl f s) :=
  foldl_keeps (I := Calm ns s) (fun a h => h.trans (hf _ a)) l (.refl s)

theorem calm_modPatch {s : State} {n : SlotId} {f : PatchRec → PatchRec} (h : (f (s.patch n)).state = .hang →
    (f (s.patch n)).talker = none ∨ ((s.patch n).state = .hang ∧ (f (s.patch n)).talker = (s.patch n).talker)) :
    Calm [n] s (s.modPatch n f) where
  port _ := .refl _
  patch m hm := by rw [State.modPatch_patch, if_neg (by simpa using hm)]; exact ⟨rfl, rfl, rfl⟩
  hang m hm := by
    rw [State.modPatch_patch] at hm ⊢
    split at hm
    · rename_i e; rw [if_pos e, e]; exact h hm
    · rename_i e; rw [if_neg e]; exact .inr ⟨hm, rfl⟩

/-- A change of a patch that the relay set does not depend on: its list, its partner, its counts, its members. -/
theorem calm_modPatch_same {s : State} {n : SlotId} {f : PatchRec → PatchRec} (h : (f (s.patch n)).state = (s.patch n).state ∧
    (f (s.patch n)).mode = (s.patch n).mode ∧ (f (s.patch n)).talker = (s.patch n).talker) : Calm ns s (s.modPatch n f) := by
  have same : ∀ m, ((s.modPatch n f).patch m).state = (s.patch m).state ∧ ((s.modPatch n f).patch m).mode = (s.patch m).mode ∧
      ((s.modPatch n f).patch m).talker = (s.patch m).talker := fun m => by
    rw [State.modPatch_patch]; split
    · rename_i e; rw [e]; exact h
    · exact ⟨rfl, rfl, rfl⟩
  exact ⟨fun _ => .refl _, fun m _ => same m, fun m hm => .inr ⟨(same m).1.symm.trans hm, (same m).2.2⟩⟩

/-! ### Operations of the arbiter and the keying unit -/

theorem calm_evalParked (s : State) (p : PortId) : Calm ns s (s.evalParked p) := by
  unfold State.evalParked
  split
  · split
    · exact calm_updPort (.of_rest (PortRec.keyInto_parked _))
    · exact .refl s
  · split
    · split
      · exact .refl s
      · exact calm_updPort (.of_rest rfl)
    · exact .refl s

theorem calm_unkeyIfRelaying (s : State) (p : PortId) : Calm ns s (s.unkeyIfRelaying p) := by
  unfold State.unkeyIfRelaying
  split
  · exact calm_updPort (.of_rest rfl)
  · exact .refl s

theorem PortRec.leavePatch_rests (r : PortRec) : r.leavePatch.inRelaySet = false := by
  unfold PortRec.leavePatch
  split
  · rename_i h; exact PortRec.rests_of_isParked (r := r) h
  · rfl

theorem calm_leaveFold (l : List PortId) (s : State) : Calm ns s (l.foldl (fun a p => a.updPort p PortRec.leavePatch) s) :=
  calm_foldl (fun _ _ => calm_updPort (.of_rest (PortRec.leavePatch_rests _))) l s

theorem calm_idleTalker (s : State) (src : Option Source) : Calm ns s (s.idleTalker src) := by
  unfold State.idleTalker
  split
  · split
    · exact calm_updPort (.of_rest rfl)
    · exact .refl s
  · exact .refl s

theorem calm_dropTalker (s : State) (n : SlotId) : Calm [n] s (s.dropTalker n) :=
  (calm_modPatch (fun _ => .inl rfl)).trans (calm_idleTalker _ _)

theorem calm_grant (s : State) (n : SlotId) (src : Source) : Calm [n] s (s.grant n src) := by
  unfold State.grant
  refine Calm.trans ?_ (calm_offerBoth _ _)
  cases src with
  | port p => exact (calm_modPatch (fun e => by cases e)).trans (calm_updPort (.of_rest rfl))
  | console c => exact calm_modPatch (fun e => by cases e)

theorem calm_releaseOutcome (s : State) (n : SlotId) (h : (s.patch n).talker = none) : Calm [n] s (s.releaseOutcome n) := by
  unfold State.releaseOutcome
  split
  · exact calm_grant _ _ _
  · exact calm_grant _ _ _
  · exact calm_modPatch (fun _ => .inl (by split <;> exact h))

theorem calm_preempt (s : State) (n : SlotId) (src : Source) (t : PortId) : Calm [n] s (s.preempt n src t) :=
  (((calm_dropTalker s n).trans (calm_grant _ _ _)).trans (calm_modPatch_same ⟨rfl, rfl, rfl⟩)).trans (calm_offerBoth _ _)

theorem calm_listBid (s : State) (n : SlotId) (src : Source) : Calm ns s (s.listBid n src) := calm_modPatch_same ⟨rfl, rfl, rfl⟩

theorem calm_bidOnTalk (s : State) (n : SlotId) (src : Source) : Calm [n] s (s.bidOnTalk n src) := by
  unfold State.bidOnTalk
  split
  · split
    · exact calm_preempt _ _ _ _
    · exact calm_listBid _ _ _
  · exact calm_listBid _ _ _
  · split
    · exact calm_modPatch_same ⟨rfl, rfl, rfl⟩
    · exact calm_listBid _ _ _
  · exact calm_listBid _ _ _

theorem calm_takeBid (s : State) (n : SlotId) (src : Source) : Calm [n] s (s.takeBid n src) := by
  unfold State.takeBid
  split
  · exact calm_grant _ _ _
  · exact calm_grant _ _ _
  · exact calm_bidOnTalk _ _ _
  · exact .refl s
  · exact .refl s

theorem calm_withdraw (s : State) (n : SlotId) (src : Source) : Calm ns s (s.withdraw n src) := calm_modPatch_same ⟨rfl, rfl, rfl⟩

theorem calm_retire (s : State) (n : SlotId) (but : Option Console) : Calm [n] s (s.retire n but) where
  port p := by
    have left : Calm [n] s _ := ((calm_modPatch (n := n) (f := fun r => { r with bids := [], talker := none, partner := none, limit := none })
      (fun _ => .inl rfl)).trans (calm_foldl calm_unkeyIfRelaying (s.patch n).members _)).trans (calm_leaveFold (s.patch n).members _)
    unfold State.retire
    rw [State.offerRetired_port]
    exact left.port p
  patch m hm := by rw [State.retire_patch, if_neg (by simpa using hm)]; exact ⟨rfl, rfl, rfl⟩
  hang m hm := by
    rw [State.retire_patch] at hm ⊢
    split at hm
    · cases hm
    · rename_i e; rw [if_neg e]; exact .inr ⟨hm, rfl⟩

theorem calm_release (s : State) (n : SlotId) (but : Option Console) : Calm [n] s (s.release n but) := by
  unfold State.release
  simp only []
  split
  · exact (calm_dropTalker s n).trans (calm_retire _ _ _)
  · exact (calm_dropTalker s n).trans (calm_releaseOutcome _ _ (by rw [State.dropTalker_patch, if_pos rfl]))

theorem calm_vacatePartner (s : State) (n : SlotId) : Calm ns s (s.modPatch n PatchRec.vacatePartner) :=
  calm_modPatch_same (by unfold PatchRec.vacatePartner; split <;> exact ⟨rfl, rfl, rfl⟩)

theorem calm_keyUpRunsOut (s : State) (p : PortId) : Calm ns s (s.keyUpRunsOut p) := by
  unfold State.keyUpRunsOut
  split
  · rename_i e; exact calm_updPort (fun _ => ⟨by simp [PortRec.inRelaySet, e], rfl, rfl, id⟩)
  · exact calm_updPort (.of_rest rfl)
  · exact .refl s

theorem calm_transmitFault (s : State) (p : PortId) : Calm ns s (s.transmitFault p) := by
  unfold State.transmitFault
  exact (calm_updPort (.of_rest (by
    rw [← Bool.not_eq_true, PortRec.inRelaySet_iff]
    show ¬((if _ then _ else _) = _ ∨ (if _ then _ else _) = _)
    split <;> simp))).trans (calm_offerBoth _ _)

end CalmOperations

/-! ### Fit -/

/-- Port p is a member of a patch that is not in HANG with p for its talker. -/
def State.placed (s : State) (p : PortId) : Prop :=
  ∃ n, (s.port p).patch = some n ∧ ((s.patch n).state = .hang → (s.patch n).talker ≠ some (.port p))

/-- Port p is fit to be in the relay set of its patch (R97, R102). -/
def State.fitAt (s : State) (p : PortId) : Prop :=
  (s.port p).cfg.kind ≠ .listenOnly ∧ (s.port p).fault = false ∧
    ∃ n, (s.port p).patch = some n ∧ (s.patch n).mode = .live ∧ (s.patch n).talker ≠ some (.port p) ∧
      ((s.patch n).state = .talk ∨ (s.patch n).state = .hang ∨ (s.patch n).state = .closing)

/-- Memberships agree; and every port in KEYUP or RELAY is placed and is fit to be there, but for those of P and for the members of ns. -/
structure Fit (P : PortId → Prop) (ns : List SlotId) (s : State) : Prop where
  agree : s.membersAgree
  placed : ∀ p, (s.port p).inRelaySet = true → s.placed p
  fit : ∀ p, (s.port p).inRelaySet = true → P p ∨ (∃ n ∈ ns, (s.port p).patch = some n) ∨ s.fitAt p

/-- No port is left out. -/
def noPort : PortId → Prop := fun _ => False

theorem fit_iff {s : State} : Fit noPort [] s ↔ s.membersAgree ∧ s.relayFit := by
  constructor
  · exact fun h => ⟨h.agree, fun p hp => ((h.fit p hp).resolve_left id).resolve_left (by simp)⟩
  · rintro ⟨a, h⟩
    refine ⟨a, fun p hp => ?_, fun p hp => .inr (.inr (h p hp))⟩
    obtain ⟨_, _, n, hn, _, ht, _⟩ := h p hp
    exact ⟨n, hn, fun _ => ht⟩

theorem sound_of_agree {s : State} (a : s.membersAgree) : Sound False False noOne [] s := sound_iff.mpr ⟨a, nofun, nofun⟩

theorem agree_congr {s t : State} (hm : ∀ m, t.patch m = s.patch m) (hp : ∀ p, (t.port p).patch = (s.port p).patch) :
    t.membersAgree ↔ s.membersAgree := by
  unfold State.membersAgree
  simp only [hm, hp]

theorem Still.agree {s t : State} (h : Still [] s t) : t.membersAgree ↔ s.membersAgree :=
  agree_congr (fun m => h.patch m List.not_mem_nil) h.portPatch

theorem agree_modPatch {s : State} {n : SlotId} {f : PatchRec → PatchRec} (a : s.membersAgree)
    (hm : (f (s.patch n)).members = (s.patch n).members) (hu : (f (s.patch n)).state ≠ .unused) : (s.modPatch n f).membersAgree := by
  have members : ∀ m, ((s.modPatch n f).patch m).members = (s.patch m).members := fun m => by
    rw [State.modPatch_patch]; split
    · rename_i e; rw [e, hm]
    · rfl
  refine ⟨fun m p => by rw [members]; exact a.1 m p, fun m => by rw [members]; exact a.2.1 m, fun m h => ?_⟩
  rw [State.modPatch_patch] at h ⊢
  split at h
  · exact absurd h hu
  · rename_i e; rw [if_neg e]; exact a.2.2 m h

theorem State.applyKey_other {s : State} {p q : PortId} (d : KeyDecision) (h : q ≠ p) : (s.applyKey p d).port q = s.port q := by
  cases d with
  | key => unfold State.applyKey State.keyMember; rw [State.updPort_port, if_neg h]
  | unkey => unfold State.applyKey State.unkeyMember; rw [State.updPort_port, if_neg h]
  | leave => rfl

theorem State.applyKey_relaying {s : State} {p : PortId} {d : KeyDecision} (h : ((s.applyKey p d).port p).inRelaySet = true) :
    d = .key ∨ (d = .leave ∧ (s.port p).inRelaySet = true) := by
  cases d with
  | key => exact .inl rfl
  | unkey =>
    unfold State.applyKey State.unkeyMember at h
    rw [State.updPort_port, if_pos rfl, PortRec.inRelaySet_iff, PortRec.remask_state] at h
    rcases h with h | h <;> cases h
  | leave => exact .inr ⟨rfl, h⟩

/-- What the keying unit's fold leaves in the relay set: what it keyed, and what was there and not unkeyed. -/
theorem relaying_of_applyKeys (D : PortId → KeyDecision) (l : List PortId) (s : State) (q : PortId)
    (h : ((l.foldl (fun acc p => acc.applyKey p (D p)) s).port q).inRelaySet = true) :
    (q ∈ l ∧ D q = .key) ∨ ((q ∈ l → D q = .leave) ∧ (s.port q).inRelaySet = true) := by
  induction l generalizing s with
  | nil => exact .inr ⟨nofun, h⟩
  | cons p l ih =>
    rcases ih _ h with ⟨hl, hd⟩ | ⟨hl, hr⟩
    · exact .inl ⟨List.mem_cons_of_mem _ hl, hd⟩
    · by_cases e : q = p
      · subst e
        rcases State.applyKey_relaying hr with hd | ⟨hd, hs⟩
        · exact .inl ⟨List.mem_cons_self, hd⟩
        · exact .inr ⟨fun _ => hd, hs⟩
      · rw [State.applyKey_other _ e] at hr
        exact .inr ⟨fun hm => hl ((List.mem_cons.mp hm).resolve_left e), hr⟩

theorem State.relaying_of_evalPatch {s : State} {n : SlotId} {q : PortId} (h : ((s.evalPatch n).port q).inRelaySet = true) :
    (q ∈ (s.patch n).members ∧ s.keyDecision n q = .key) ∨
      ((q ∈ (s.patch n).members → s.keyDecision n q = .leave) ∧ (s.port q).inRelaySet = true) :=
  relaying_of_applyKeys (s.keyDecision n) _ s q h

/-! ### What the keying unit decides (R97, R98, R102) -/

theorem State.holdable_iff {s : State} {n : SlotId} {p : PortId} : s.holdable n p = true ↔
    (s.patch n).mode = .live ∧ (s.port p).cfg.kind ≠ .listenOnly ∧ (s.port p).isParked = false ∧ (s.port p).fault = false := by
  simp [State.holdable, and_assoc]

theorem State.eligible_fit {s : State} {n : SlotId} {p : PortId} (h : s.eligible n p = true) : s.holdable n p = true ∧
    ((s.patch n).state = .talk ∨ (s.patch n).state = .closing) ∧ (s.patch n).talker ≠ some (.port p) := by
  simp only [State.eligible, Bool.and_eq_true, Bool.or_eq_true, beq_iff_eq, bne_iff_ne] at h
  exact ⟨h.1.1.1, h.1.1.2, h.1.2⟩

theorem State.keyDecision_key {s : State} {n : SlotId} {p : PortId} (h : s.keyDecision n p = .key) : s.eligible n p = true := by
  unfold State.keyDecision at h
  split at h
  · split at h <;> cases h
  · split at h
    · assumption
    · cases h

theorem State.keyDecision_leave {s : State} {n : SlotId} {p : PortId} (h : s.keyDecision n p = .leave) (hr : (s.port p).inRelaySet = true) :
    s.staysKeyed n p = true := by
  unfold State.keyDecision at h
  rw [if_pos hr] at h
  split at h
  · assumption
  · cases h

theorem State.fitAt_of_eligible {s : State} {n : SlotId} {p : PortId} (hp : (s.port p).patch = some n) (h : s.eligible n p = true) :
    s.fitAt p := by
  obtain ⟨hold, state, talker⟩ := State.eligible_fit h
  obtain ⟨live, kind, _, fault⟩ := State.holdable_iff.mp hold
  exact ⟨kind, fault, n, hp, live, talker, state.imp_right .inr⟩

/-- A keyed member that stays keyed is fit, placed as it is (R98, R102). -/
theorem State.fitAt_of_staysKeyed {s : State} {n : SlotId} {p : PortId} (hp : (s.port p).patch = some n) (hplaced : s.placed p)
    (h : s.staysKeyed n p = true) : s.fitAt p := by
  unfold State.staysKeyed at h
  split at h
  · rename_i hang
    obtain ⟨live, kind, _, fault⟩ := State.holdable_iff.mp h
    obtain ⟨m, hm, talker⟩ := hplaced
    obtain rfl := Option.some.inj (hp.symm.trans hm)
    exact ⟨kind, fault, n, hp, live, talker hang, .inr (.inl hang)⟩
  · exact State.fitAt_of_eligible hp h

theorem State.placed_of_fitAt {s : State} {p : PortId} (h : s.fitAt p) : s.placed p := by
  obtain ⟨_, _, n, hn, _, ht, _⟩ := h
  exact ⟨n, hn, fun _ => ht⟩

/-- From s to t no patch changes, and no port its patch, kind or fault flag. -/
structure SameFitness (s t : State) : Prop where
  still : Still [] s t
  kind : ∀ p, (t.port p).cfg.kind = (s.port p).cfg.kind
  fault : ∀ p, (t.port p).fault = (s.port p).fault

theorem SameFitness.fitAt {s t : State} (h : SameFitness s t) {p : PortId} (f : s.fitAt p) : t.fitAt p := by
  obtain ⟨kind, fault, n, hn, rest⟩ := f
  refine ⟨by rw [h.kind]; exact kind, by rw [h.fault]; exact fault, n, by rw [h.still.portPatch]; exact hn, ?_⟩
  rw [h.still.patch n (by simp)]
  exact rest

theorem SameFitness.placed {s t : State} (h : SameFitness s t) {p : PortId} (f : s.placed p) : t.placed p := by
  obtain ⟨n, hn, rest⟩ := f
  refine ⟨n, by rw [h.still.portPatch]; exact hn, ?_⟩
  rw [h.still.patch n (by simp)]
  exact rest

theorem SameFitness.of_flow {s t : State} (k : Still [] s t) (h : Kept [] [] s t) : SameFitness s t :=
  ⟨k, fun p => by rw [PortRec.fixedPart_cfg (h.ports p)], fun p => PortRec.fixedPart_fault (h.ports p)⟩

theorem sameFitness_evalPatch (s : State) (n : SlotId) : SameFitness s (s.evalPatch n) := .of_flow (still_evalPatch s n) (flow_evalPatch s n).toKept
theorem sameFitness_evalPort (s : State) (p : PortId) : SameFitness s (s.evalPort p) := .of_flow (still_evalPort s p) (flow_evalPort s p).toKept

namespace Fit

variable {P : PortId → Prop} {ns : List SlotId} {s t u : State} {n : SlotId}

theorem sound (h : Fit P ns s) : Sound False False noOne [] s := sound_of_agree h.agree

theorem but (h : Fit P [] s) : Fit P ns s := ⟨h.agree, h.placed, fun p hp => (h.fit p hp).imp_right (.inr ∘ fun k => k.resolve_left (by simp))⟩

/-- Moves that key nobody leave everyone fit, but for the members of the patches they change. -/
theorem calm (h : Fit P ns s) (k : Calm ns s t) (a : t.membersAgree) : Fit P ns t where
  agree := a
  placed p hp := by
    obtain ⟨hs, hpatch, _, _⟩ := k.port p hp
    obtain ⟨n, hn, ht⟩ := h.placed p hs
    refine ⟨n, hpatch.trans hn, fun hang e => ?_⟩
    rcases k.hang n hang with e' | ⟨hang', e'⟩
    · rw [e'] at e; cases e
    · exact ht hang' (e'.symm.trans e)
  fit p hp := by
    obtain ⟨hs, hpatch, hkind, hfault⟩ := k.port p hp
    rcases h.fit p hs with e | ⟨n, hn, e⟩ | ⟨kind, fault, n, hn, live, talker, state⟩
    · exact .inl e
    · exact .inr (.inl ⟨n, hn, hpatch.trans e⟩)
    · by_cases e : n ∈ ns
      · exact .inr (.inl ⟨n, e, hpatch.trans hn⟩)
      · obtain ⟨k1, k2, k3⟩ := k.patch n e
        exact .inr (.inr ⟨by rw [hkind]; exact kind, hfault fault, n, hpatch.trans hn, k2.trans live, by rw [k3]; exact talker, by rw [k1]; exact state⟩)

/-- The evaluation of a patch makes each of its members fit (R98). -/
theorem evalPatch (h : Fit P [n] s) : Fit P [] (s.evalPatch n) := by
  have same := sameFitness_evalPatch s n
  have member : ∀ q, (s.port q).patch = some n → q ∈ (s.patch n).members := fun q hq => (h.agree.1 n q).mpr hq
  have fit : ∀ q, ((s.evalPatch n).port q).inRelaySet = true → s.placed q ∧ (P q ∨ s.fitAt q) := fun q hq => by
    rcases State.relaying_of_evalPatch hq with ⟨hm, hd⟩ | ⟨hd, hr⟩
    · have fit := State.fitAt_of_eligible ((h.agree.1 n q).mp hm) (State.keyDecision_key hd)
      exact ⟨State.placed_of_fitAt fit, .inr fit⟩
    · refine ⟨h.placed q hr, ?_⟩
      rcases h.fit q hr with e | ⟨m, hm, e⟩ | e
      · exact .inl e
      · obtain rfl := List.mem_singleton.mp hm
        exact .inr (State.fitAt_of_staysKeyed e (h.placed q hr) (State.keyDecision_leave (hd (member q e)) hr))
      · exact .inr e
  exact ⟨same.still.agree.mpr h.agree, fun q hq => same.placed (fit q hq).1,
    fun q hq => (fit q hq).2.imp_right (fun e => .inr (same.fitAt e))⟩

/-- An action on one patch that keys nobody, and the evaluation of the patch after it (R98). -/
theorem recompute (h : Fit P [] s) (k : Calm [n] s u) (a : u.membersAgree) : Fit P [] (u.evalPatch n) :=
  (h.but.calm k a).evalPatch

theorem stays (h : Fit P [] s) (k : Calm [] s t) (a : t.membersAgree) : Fit P [] t := h.calm k a

/-- The evaluation of a port makes it fit (R98). -/
theorem evalPort {p : PortId} (h : Fit (fun q => P q ∨ q = p) [] s) : Fit P [] (s.evalPort p) := by
  have same := sameFitness_evalPort s p
  have relaying : ∀ q, ((s.evalPort p).port q).inRelaySet = true → s.placed q ∧ (P q ∨ s.fitAt q) := fun q hq => by
    have stays : (s.port q).inRelaySet = true → q ≠ p → s.placed q ∧ (P q ∨ s.fitAt q) := fun hr e =>
      ⟨h.placed q hr, ((h.fit q hr).imp_left (fun x => x.resolve_right e)).imp_right (fun x => x.resolve_left (by simp))⟩
    unfold State.evalPort at hq
    split at hq
    · rename_i hparked
      have hr := ((calm_evalParked (ns := []) s p).port q hq).1
      exact stays hr (fun e => by rw [e, PortRec.rests_of_isParked hparked] at hr; cases hr)
    · split at hq
      · rename_i n hn
        by_cases e : q = p
        · subst e
          rcases State.applyKey_relaying hq with hd | ⟨hd, hr⟩
          · have fit := State.fitAt_of_eligible hn (State.keyDecision_key hd)
            exact ⟨State.placed_of_fitAt fit, .inr fit⟩
          · exact ⟨h.placed q hr, .inr (State.fitAt_of_staysKeyed hn (h.placed q hr) (State.keyDecision_leave hd hr))⟩
        · rw [State.applyKey_other _ e] at hq; exact stays hq e
      · rename_i hn
        refine stays hq (fun e => ?_)
        obtain ⟨n, hp, _⟩ := h.placed q hq
        rw [e, hn] at hp; cases hp
  exact ⟨same.still.agree.mpr h.agree, fun q hq => same.placed (relaying q hq).1,
    fun q hq => (relaying q hq).2.imp_right (fun e => .inr (same.fitAt e))⟩

theorem loosen {Q : PortId → Prop} (h : Fit P ns s) (hQ : ∀ q, P q → Q q) : Fit Q ns s :=
  ⟨h.agree, h.placed, fun q hq => (h.fit q hq).imp_left (hQ q)⟩

theorem evalAnyPort (h : Fit P [] s) (p : PortId) : Fit P [] (s.evalPort p) := Fit.evalPort (h.loosen (fun _ => .inl))

theorem evalParked (h : Fit P [] s) (p : PortId) : Fit P [] (s.evalParked p) :=
  h.stays (calm_evalParked s p) (h.sound.evalParked p).agree

/-! ### Events -/

theorem portBids (h : Fit P [] s) (p : PortId) : Fit P [] (s.portBids p) := by
  unfold State.portBids
  split
  · exact h.recompute (calm_takeBid _ _ _) ((flow_takeBid _ _ _).agree h.agree)
  · exact h

theorem portBidsIfQualified (h : Fit P [] s) (p : PortId) : Fit P [] (s.portBidsIfQualified p) := by
  unfold State.portBidsIfQualified
  split
  · exact h.portBids p
  · exact h

theorem consoleBids (h : Fit P [] s) (c : Console) (n : SlotId) : Fit P [] (s.consoleBids c n) := by
  unfold State.consoleBids
  split
  · exact h.recompute (calm_takeBid _ _ _) ((flow_takeBid _ _ _).agree h.agree)
  · exact h

theorem consoleLeaves (h : Fit P [] s) (c : Console) (n : SlotId) : Fit P [] (s.consoleLeaves c n) := by
  have agree := (flow_consoleLeaves h.agree c n).agree h.agree
  unfold State.consoleLeaves at agree ⊢
  refine h.recompute ?_ ((still_evalPatch _ n).agree.mp agree)
  split
  · exact calm_release _ _ _
  · split
    · exact calm_vacatePartner _ _
    · split
      · exact calm_withdraw _ _ _
      · exact .refl _

theorem portLosesPlace (h : Fit P [] s) (p : PortId) : Fit P [] (s.portLosesPlace p) := by
  unfold State.portLosesPlace
  split
  · exact h
  · split
    · rename_i ht
      exact h.recompute (calm_release _ _ _) ((flow_release_of_stands h.agree ht none).agree h.agree)
    · split
      · exact h.recompute (calm_withdraw _ _ _) (h.sound.withdrawAny _ _).agree
      · exact h

theorem handOn (h : Fit P [] s) (e : CarrierEvent) : Fit P [] (s.handOn e) := by
  rcases s.handOn_cases e with he | he <;> rw [he]
  · exact (h.portBids e.port).evalAnyPort e.port
  · exact (h.portLosesPlace e.port).evalAnyPort e.port

theorem hangRunsOut (h : Fit P [] s) (n : SlotId) : Fit P [] (s.hangRunsOut n) := by
  have agree := (flow_hangRunsOut s n).agree h.agree
  unfold State.hangRunsOut at agree ⊢
  split
  · rename_i hs
    rw [if_pos hs] at agree
    exact h.recompute (calm_modPatch (fun e => by cases e)) ((still_evalPatch _ n).agree.mp agree)
  · exact h

theorem timesOut (h : Fit P [] s) (n : SlotId) (p : PortId) (ht : (s.patch n).portTalker = some p) : Fit P [] (s.timesOut n p) := by
  have agree := (h.sound.timesOut n p ht).agree
  unfold State.timesOut at agree ⊢
  simp only [] at agree ⊢
  refine h.recompute ?_ ((still_evalPatch _ n).agree.mp agree)
  exact ((calm_updPort (PortRec.QuietMove.calm ⟨rfl, rfl, rfl, rfl, rfl, id⟩)).trans (calm_offerBoth _ _)).trans (calm_release _ _ _)

theorem checkEmergency (h : Fit P [] s) (n : SlotId) (p : PortId) : Fit P [] (s.checkEmergency n p) := by
  have agree := (h.sound.checkEmergency (n := n) (p := p) nofun).agree
  unfold State.checkEmergency at agree ⊢
  split
  · rename_i hs hp
    simp only [hs, hp] at agree
    split
    · rename_i hc
      rw [if_pos hc] at agree
      exact h.recompute (calm_preempt _ _ _ _) ((still_evalPatch _ n).agree.mp agree)
    · exact h
  · exact h

theorem priorityChanged (h : Fit P [] s) (p : PortId) (rise : Bool) : Fit P [] (s.priorityChanged p rise) := by
  unfold State.priorityChanged
  split
  · exact h
  · rename_i n hn
    split
    · rename_i hb
      have hu := used_of_stands h.agree (PatchRec.stands_iff.mpr (.inr (.inr (List.contains_iff_mem.mp hb))))
      have placed : Fit P [] (s.modPatch n (fun r => { r with bids := s.insertBid (.port p) (r.bids.erase (.port p)) })) :=
        h.stays (calm_modPatch_same ⟨rfl, rfl, rfl⟩) (agree_modPatch h.agree rfl hu)
      split
      · exact placed.checkEmergency n p
      · exact placed
    · exact h

end Fit

end Sys2Proof.Machine

/-! Fit, continued: requests, reservations, memberships and settings; and with them the statement that every step keeps a port in KEYUP or
RELAY fit to be there. -/

namespace Sys2Proof.Machine

namespace Fit

variable {P : PortId → Prop} {ns : List SlotId} {s t u : State} {n : SlotId}

/-! ### Consoles -/

theorem setConsole (h : Fit P [] s) (c : Console) (r : ConsoleRec) : Fit P [] (s.setConsole c r) :=
  h.stays (.of_ports (fun _ => .refl _) (fun _ => rfl)) h.agree

theorem requestRises (h : Fit P [] s) (c : Console) : Fit P [] (s.requestRises c) := by
  unfold State.requestRises
  split
  · exact h
  · exact h.consoleBids c _
  · exact h.evalParked _

theorem requestFalls (h : Fit P [] s) (c : Console) : Fit P [] (s.requestFalls c) := by
  unfold State.requestFalls
  split
  · exact h
  · exact h.consoleLeaves c _
  · exact h.evalParked _

theorem changeRequest (h : Fit P [] s) (c : Console) (f : ConsoleRec → ConsoleRec) : Fit P [] (s.changeRequest c f) := by
  have changed : Fit P [] (s.modConsole c f) := h.setConsole c _
  unfold State.changeRequest
  simp only []
  split
  · exact changed
  · split
    · exact changed.requestRises c
    · exact changed.requestFalls c

theorem changeTarget (h : Fit P [] s) (c : Console) (x : Target) : Fit P [] (s.changeTarget c x) := by
  have changed : Fit P [] (s.modConsole c (fun r => { r with target := x })) := h.setConsole c _
  unfold State.changeTarget
  simp only []
  split
  · exact changed
  · refine Fit.requestRises ?_ c
    split
    · exact changed
    · exact changed.consoleLeaves c _
    · exact changed.evalParked _

/-! ### Moves of one port -/

/-- A request that keys nobody and leaves the port's patch. -/
theorem updPort (h : Fit P [] s) {p : PortId} {f : PortRec → PortRec} (hf : (s.port p).CalmMove (f (s.port p)))
    (hp : (f (s.port p)).patch = (s.port p).patch) : Fit P [] (s.updPort p f) :=
  h.stays (calm_updPort hf) ((agree_congr (fun m => State.updPort_patch _ _ _ _) (fun q => by
    rw [State.updPort_port]; split
    · rename_i e; rw [PortRec.remask_patch, hp, e]
    · rfl)).mpr h.agree)

theorem quietPort (h : Fit P [] s) {p : PortId} {rn : PortRec × List CarrierNews} (hq : (s.port p).QuietMove rn.1) :
    Fit P [] (s.writePort p rn) := h.stays (calm_writePort hq.calm) (h.sound.quietPort hq).agree

theorem endReservation (h : Fit P [] s) (p : PortId) (b : Bool) : Fit P [] (s.endReservation p b) := by
  have freed : Fit P [] (s.updPort p
      (fun r => { r.restInto (if r.patch.isSome then .idle else .detached) with reservedBy := none })) := by
    refine h.updPort (.of_rest ?_) rfl
    rw [← Bool.not_eq_true, PortRec.inRelaySet_iff]
    show ¬((if _ then _ else _) = _ ∨ (if _ then _ else _) = _)
    split <;> simp
  unfold State.endReservation
  simp only []
  split
  · exact freed.evalAnyPort p
  · exact (freed.portBidsIfQualified p).evalAnyPort p

theorem unkeyParked (h : Fit P [] s) (p : PortId) : Fit P [] (s.unkeyParked p) := h.updPort (.of_rest rfl) rfl

theorem releaseReservation (h : Fit P [] s) (c : Console) (p : PortId) : Fit P [] (s.releaseReservation c p) := by
  have untargeted : Fit P [] (if (s.console c).target = .port p then s.changeTarget c .none else s) := by
    split
    · exact h.changeTarget c .none
    · exact h
  unfold State.releaseReservation
  simp only []
  refine Fit.endReservation ?_ p _
  revert untargeted
  generalize (if (s.console c).target = .port p then s.changeTarget c .none else s) = u
  intro untargeted
  split
  · exact untargeted.unkeyParked p
  · exact untargeted

theorem reserve (h : Fit P [] s) (c : Console) (p : PortId) : Fit P [] (s.reserve c p) := by
  have agree := (h.sound.reserve c p).agree
  have parked : ∀ {ns : List SlotId} (u : State), Calm ns u ((u.unkeyIfRelaying p).updPort p (fun r => r.parkFor c)) := fun u =>
    (calm_unkeyIfRelaying u p).trans (calm_updPort (.of_rest rfl))
  cases hp : (s.port p).patch with
  | none =>
    rw [State.reserve_unpatched hp] at agree ⊢
    exact (h.stays (parked s) ((still_evalParked _ p).agree.mp agree)).evalParked p
  | some n =>
    have out : Calm [n] s (((s.withdraw n (.port p)).unkeyIfRelaying p).updPort p (fun r => r.parkFor c)) :=
      (calm_withdraw s n (.port p)).trans (parked _)
    rw [State.reserve_member hp] at agree ⊢
    revert agree out
    generalize ((s.withdraw n (.port p)).unkeyIfRelaying p).updPort p (fun r => r.parkFor c) = u
    intro agree out
    have released : Calm [n] s (if (s.patch n).talker = some (.port p) then u.release n (some c) else u) := by
      split
      · exact out.trans (calm_release _ _ _)
      · exact out
    exact (h.recompute released ((still_evalPatch _ n).agree.mp ((still_evalParked _ p).agree.mp agree))).evalParked p

theorem shareOwned (h : Fit P [] s) (c : Console) : Fit P [] (s.shareOwned c) := by
  have same : ∀ m, ((s.shareOwned c).patch m).state = (s.patch m).state ∧ ((s.shareOwned c).patch m).mode = (s.patch m).mode ∧
      ((s.shareOwned c).patch m).talker = (s.patch m).talker := fun m => by
    have e : (s.shareOwned c).patch m =
        (if (s.patch m).inUse && (s.patch m).owner == some c then { s.patch m with shared := true } else s.patch m) := by
      simp [State.shareOwned, State.patch]
    rw [e]
    split <;> exact ⟨rfl, rfl, rfl⟩
  exact h.stays ⟨fun _ => .refl _, fun m _ => same m, fun m hm => .inr ⟨(same m).1.symm.trans hm, (same m).2.2⟩⟩ (h.sound.shareOwned c).agree

theorem linkLost (h : Fit P [] s) (c : Console) : Fit P [] (s.linkLost c) := by
  have fallen := (h.changeRequest c (fun r => { r with link := .lost, seize := false })).setConsole c
    { (s.changeRequest c (fun r => { r with link := .lost, seize := false })).console c with target := .none }
  have freed : Fit P [] ((s.reservedPorts c).foldl (fun a p =>
      (if (a.port p).parkedKeyed then a.unkeyParked p else a).endReservation p (s.port p).parkedKeyed)
      ((s.changeRequest c (fun r => { r with link := .lost, seize := false })).setConsole c
        { (s.changeRequest c (fun r => { r with link := .lost, seize := false })).console c with target := .none })) :=
    foldl_keeps (fun {t} p ht => by
      refine Fit.endReservation ?_ p _
      split
      · exact ht.unkeyParked p
      · exact ht) _ fallen
  have shared := freed.shareOwned c
  exact shared.stays (calm_offer _ _ _) ((still_offer _ _ _).agree.mpr shared.agree)

/-! ### Emergencies, faults and counts -/

theorem emergencySets (h : Fit P [] s) (p : PortId) : Fit P [] (s.emergencySets p) := by
  have raised : Fit P [] (s.updPort p (fun r => { r with emergency := true })) := h.updPort (fun k => ⟨k, rfl, rfl, id⟩) rfl
  exact (raised.stays (calm_offerBoth _ _) ((still_offerBoth _ _).agree.mpr raised.agree)).priorityChanged p true

theorem emergencyClears (h : Fit P [] s) (p : PortId) : Fit P [] (s.emergencyClears p) :=
  Fit.priorityChanged (h.updPort (f := fun r => { r with emergency := false }) (fun k => ⟨k, rfl, rfl, id⟩) rfl) p false

theorem clearConditions (h : Fit P [] s) (p : PortId) (sel : ConditionSelection) :
    Fit P [] ((s.updPort p (fun r => r.clearConditions sel)).conditionsClear p (s.port p)) := by
  have cleared : Fit P [] (s.updPort p (fun r => r.clearConditions sel)) :=
    h.updPort (fun k => ⟨k, rfl, rfl, fun hf => by show ((s.port p).fault && _) = false; rw [hf]; rfl⟩) rfl
  unfold State.conditionsClear
  simp only []
  have fallen : ∀ b : Bool, Fit P [] (if b then (s.updPort p (fun r => r.clearConditions sel)).priorityChanged p false
      else s.updPort p (fun r => r.clearConditions sel)) := fun b => by
    split
    · exact cleared.priorityChanged p false
    · exact cleared
  have expired : ∀ b : Bool, ∀ {v}, Fit P [] v → Fit P [] (if b then v.portBidsIfQualified p else v) := fun b v hv => by
    split
    · exact hv.portBidsIfQualified p
    · exact hv
  split
  · exact (expired _ (fallen _)).evalAnyPort p
  · exact expired _ (fallen _)

theorem count (h : Fit P [] s) : Fit P [] s.count := by
  have patch : ∀ m, (s.count.patch m).state = (s.patch m).state ∧ (s.count.patch m).mode = (s.patch m).mode ∧
      (s.count.patch m).talker = (s.patch m).talker := fun m => by rw [State.count_patch]; exact ⟨rfl, rfl, rfl⟩
  exact h.stays ⟨fun p => by rw [State.count_port]; exact fun k => ⟨k, rfl, rfl, id⟩, fun m _ => patch m,
    fun m hm => .inr ⟨(patch m).1.symm.trans hm, (patch m).2.2⟩⟩ h.sound.count.agree

theorem of_blank (h : s.Blank) : Fit P [] s where
  agree := (Sound.of_blank (F := False) (O := False) h).agree
  placed p hp := by rw [PortRec.inRelaySet_iff, h.detached p] at hp; rcases hp with hp | hp <;> cases hp
  fit p hp := by rw [PortRec.inRelaySet_iff, h.detached p] at hp; rcases hp with hp | hp <;> cases hp

theorem modPatch_same (h : Fit P [] s) {f : PatchRec → PatchRec} (hu : (s.patch n).state ≠ .unused)
    (hm : (f (s.patch n)).members = (s.patch n).members) (hf : (f (s.patch n)).state = (s.patch n).state ∧
      (f (s.patch n)).mode = (s.patch n).mode ∧ (f (s.patch n)).talker = (s.patch n).talker) : Fit P [] (s.modPatch n f) :=
  h.stays (calm_modPatch_same hf) (agree_modPatch h.agree hm (by rw [hf.1]; exact hu))

end Fit

theorem fit_events (P : PortId → Prop) : EventInvariant (Fit P []) where
  restartFirst h := h.stays (.of_ports (fun _ => .refl _) (fun _ => rfl)) h.agree
  audio h := h.stays (.of_ports (fun _ => .refl _) (fun _ => rfl)) h.agree
  assertReset {s} h := by
    rcases (assertReset_blank s).1 with e | e
    · rw [e]; exact h
    · exact .of_blank e
  powerUp {s} _ := .of_blank (powerUp_blank s).1
  releaseReset {s} h := by
    rcases (releaseReset_blank s).1 with e | e
    · rw [e]; exact h
    · exact .of_blank e
  restartTakesEffect {s} _ := .of_blank (restartTakesEffect_blank s).1
  link _ h := h.stays (.of_ports (fun _ => .refl _) (fun _ => rfl)) h.agree
  notice _ h := h.stays (.of_ports (fun _ => .refl _) (fun _ => rfl)) h.agree
  console _ h := h.setConsole _ _
  count h := h.count
  raised h := h.stays (calm_raised _ _) h.agree
  write hq h := h.quietPort hq
  handOn e h := h.handOn e
  bids p h := h.portBidsIfQualified p
  keyUpRunsOut p h := h.stays (calm_keyUpRunsOut _ p) ((still_keyUpRunsOut _ p).agree.mpr h.agree)
  transmitFault p h := h.stays (calm_transmitFault _ p) ((still_transmitFault _ p).agree.mpr h.agree)
  hangRunsOut n h := h.hangRunsOut n
  elapsed _ _ _ ht h := h.modPatch_same (h.sound.used_of_talker (PatchRec.portTalker_eq_some.mp ht)) rfl ⟨rfl, rfl, rfl⟩
  timesOut n t ht h := h.timesOut n t ht
  emergencySets p h := h.emergencySets p
  emergencyClears p h := h.emergencyClears p
  changeRequest c f _ h := h.changeRequest c f
  changeTarget c t h := h.changeTarget c t
  linkLost c h := h.linkLost c
  ownership _ _ _ hu h := h.modPatch_same hu rfl ⟨rfl, rfl, rfl⟩

namespace Fit

variable {P : PortId → Prop} {ns : List SlotId} {s t u : State} {n : SlotId}

/-! ### Memberships -/

/-- A patch without members leaves nobody out. -/
theorem close (h : Fit P [n] s) (hm : (s.patch n).members = []) : Fit P [] s :=
  ⟨h.agree, h.placed, fun p hp => (h.fit p hp).imp_right (fun k => .inr (k.resolve_left (fun ⟨m, hmn, e⟩ => by
    obtain rfl := List.mem_singleton.mp hmn
    have := (h.agree.1 m p).mpr e
    rw [hm] at this; cases this)))⟩

theorem retire (h : Fit P [] s) (n : SlotId) (but : Option Console) : Fit P [] (s.retire n but) :=
  (h.but.calm (calm_retire s n but) (h.sound.but.retire but).agree).close (by rw [State.retire_patch, if_pos rfl]; rfl)

theorem dissolve (h : Fit P [] s) (c : Console) (n : SlotId) (k : Nat) : Fit P [] (s.dissolve c n k) := by
  have agree := (h.sound.dissolve c n k).agree
  unfold State.dissolve at agree ⊢
  split
  · rename_i hk
    rw [if_pos hk] at agree
    exact h.recompute (calm_modPatch (fun e => by cases e)) ((still_evalPatch _ n).agree.mp agree)
  · exact h.retire n _

theorem join (h : Fit P [] s) {p : PortId} (hp : (s.port p).patch = none) (hu : (s.patch n).state ≠ .unused) : Fit P [] (s.join n p) := by
  have joined : Fit P [] ((s.modPatch n (fun r => { r with members := r.members ++ [p] })).updPort p (fun r =>
      if r.isParked then { r with patch := some n } else { r.restInto .idle with patch := some n })) := by
    refine h.stays (Calm.trans (calm_modPatch_same ⟨rfl, rfl, rfl⟩) (calm_updPort (.of_rest ?_))) (h.sound.joined hp hu).agree
    split
    · rename_i e; exact PortRec.rests_of_isParked e
    · rfl
  unfold State.join
  simp only []
  split
  · exact joined
  · exact (joined.portBidsIfQualified p).evalAnyPort p

theorem joinAll {ps : List PortId} (h : Fit P [] s) (hn : ps.Nodup) (hp : ∀ p ∈ ps, (s.port p).patch = none)
    (hu : (s.patch n).state ≠ .unused) : Fit P [] (s.joinAll n ps) := by
  induction ps generalizing s with
  | nil => exact h
  | cons p ps ih =>
    obtain ⟨hnot, hn⟩ := List.nodup_cons.mp hn
    rw [State.joinAll_cons]
    refine ih (h.join (hp p List.mem_cons_self) hu) hn (fun q hq => ?_) (State.join_used n p hu)
    exact State.join_portPatch_none n (fun e => hnot (e ▸ hq)) (hp q (List.mem_cons_of_mem _ hq))

theorem leaveAll (h : Fit P [] s) {ps : List PortId} (hp : ∀ p ∈ ps, (s.port p).patch = some n) (hu : (s.patch n).state ≠ .unused)
    (c : Console) : Fit P [] (s.leaveAll n ps c) := by
  have agree := (h.sound.leaveAll hp hu c).agree
  have out : Calm [n] s (s.takenOut n ps) := by
    unfold State.takenOut
    exact (((calm_foldl (f := fun a p => a.withdraw n (.port p)) (fun _ _ => calm_withdraw _ _ _) ps s).trans
      (calm_foldl calm_unkeyIfRelaying ps _)).trans (calm_modPatch_same ⟨rfl, rfl, rfl⟩)).trans (calm_leaveFold ps _)
  rw [State.leaveAll_eq] at agree ⊢
  refine h.recompute ?_ ((still_evalPatch _ n).agree.mp agree)
  split
  · exact out.trans (calm_release _ _ _)
  · exact out

theorem createdSlot (h : Fit P [] s) (hn : (s.patch n).state = .unused) (c : Console) (label : List Byte) :
    Fit P [] (s.setPatch n (PatchRec.created c label)) := by
  refine Fit.close (n := n) (h.but.calm (calm_modPatch (f := fun _ => PatchRec.created c label) nofun) (h.sound.createdSlot hn c label).agree) ?_
  rw [State.setPatch_patch, if_pos rfl]; rfl

/-! ### Merging (R57 to R60) -/

/-- The ports carried over keep their states, kinds and fault flags. -/
theorem carried_port (l : List PortId) (a : SlotId) (s : State) (q : PortId) :
    ((l.foldl (fun t p => t.updPort p (fun r => { r with patch := some a })) s).port q).state = (s.port q).state ∧
    ((l.foldl (fun t p => t.updPort p (fun r => { r with patch := some a })) s).port q).cfg = (s.port q).cfg ∧
    ((l.foldl (fun t p => t.updPort p (fun r => { r with patch := some a })) s).port q).fault = (s.port q).fault := by
  refine foldl_keeps (I := fun t => (t.port q).state = (s.port q).state ∧ (t.port q).cfg = (s.port q).cfg ∧ (t.port q).fault = (s.port q).fault)
    (fun {t} p h => ?_) l ⟨rfl, rfl, rfl⟩
  rw [State.updPort_port]
  split
  · rename_i e
    rw [e] at h ⊢
    rw [PortRec.remask_state, PortRec.remask_cfg, PortRec.remask_fault]; exact h
  · exact h

theorem mergedRecord_hang {s : State} {a b : SlotId} (h : (s.mergedRecord a b).state = .hang) : (s.mergedRecord a b).talker = none := by
  rw [State.mergedRecord_state] at h
  rw [State.mergedRecord_talker]
  unfold State.joinedRecord at h
  simp only [] at h
  split at h
  · cases h
  · rename_i e; exact Option.not_isSome_iff_eq_none.mp e

theorem merge (h : Fit P [] s) {a b : SlotId} (k : Mergeable s a b) (c : Console) : Fit P [] (s.merge c a b) := by
  have agree := (h.sound.merge k c).agree
  have port := carried_port (s.patch b).members a ((s.setPatch a (s.mergedRecord a b)).setPatch b PatchRec.unused)
  have portPatch := foldl_carried_portPatch (s.patch b).members a ((s.setPatch a (s.mergedRecord a b)).setPatch b PatchRec.unused)
  have patch := foldl_carried_patch (s.patch b).members a ((s.setPatch a (s.mergedRecord a b)).setPatch b PatchRec.unused)
  unfold State.merge at agree ⊢
  simp only [] at agree ⊢
  revert agree port portPatch patch
  generalize (s.patch b).members.foldl (fun t p => t.updPort p (fun r => { r with patch := some a }))
    ((s.setPatch a (s.mergedRecord a b)).setPatch b PatchRec.unused) = u
  intro agree port portPatch patch
  have named : ∀ v : State, Calm [] v (((v.modConsole .A (fun r => r.renamePatch b a)).modConsole .B (fun r => r.renamePatch b a)).offer
      (otherConsole c) ⟨.patchRetired, slotNumber b⟩) := fun v =>
    Calm.trans (t := (v.modConsole .A (fun r => r.renamePatch b a)).modConsole .B (fun r => r.renamePatch b a))
      (.of_ports (fun _ => .refl _) (fun _ => rfl)) (calm_offer _ _ _)
  have agreeU : u.membersAgree := by
    refine (still_evalPatch _ a).agree.mp ((agree_congr (fun m => ?_) (fun p => ?_)).mp agree)
    · rw [State.offer_patch]; rfl
    · rw [State.offer_port]; rfl
  have patchA : u.patch a = s.mergedRecord a b := by
    rw [patch, State.setPatch_patch, if_neg k.ne, State.setPatch_patch, if_pos rfl]
  have moved : ∀ p, (s.port p).inRelaySet = true → u.placed p ∧ (P p ∨ (u.port p).patch = some a ∨ u.fitAt p) := fun p hp => by
    have intoA : (u.port p).patch = some a → u.placed p ∧ (P p ∨ (u.port p).patch = some a ∨ u.fitAt p) := fun e =>
      ⟨⟨a, e, fun hang => by rw [patchA] at hang ⊢; rw [mergedRecord_hang hang]; exact nofun⟩, .inr (.inl e)⟩
    obtain ⟨m, hm, talker⟩ := h.placed p hp
    by_cases hb : p ∈ (s.patch b).members
    · exact intoA (by rw [portPatch, if_pos hb])
    · have same : (u.port p).patch = some m := by rw [portPatch, if_neg hb]; exact hm
      by_cases ea : m = a
      · exact intoA (ea ▸ same)
      · have eb : m ≠ b := fun e => hb ((h.agree.1 b p).mpr (e ▸ hm))
        have patchM : u.patch m = s.patch m := by rw [patch, State.setPatch_patch, if_neg eb, State.setPatch_patch, if_neg ea]
        refine ⟨⟨m, same, by rw [patchM]; exact talker⟩, ?_⟩
        rcases h.fit p hp with e | e | ⟨kind, fault, m', hm', rest⟩
        · exact .inl e
        · exact absurd e (by simp)
        · obtain rfl := Option.some.inj (hm'.symm.trans hm)
          obtain ⟨_, hcfg, hfault⟩ := port p
          refine .inr (.inr ⟨by rw [hcfg]; exact kind, hfault.trans fault, m', same, ?_⟩)
          rw [patchM]; exact rest
  have carried : Fit P [a] u := ⟨agreeU, fun p hp => (moved p ?_).1, fun p hp => ?_⟩
  · have evaluated := carried.evalPatch
    exact evaluated.stays (named _) agree
  all_goals
    have hs : (s.port p).inRelaySet = true := (PortRec.inRelaySet_congr (port p).1).symm.trans hp
  · exact hs
  · exact (moved p hs).2.imp_right (fun e => e.imp_left (fun e => ⟨a, by simp, e⟩))

/-! ### Settings -/

theorem storePatch (h : Fit P [] s) (n : SlotId) (sel : PatchSelection) (hu : (s.patch n).state ≠ .unused) :
    Fit P [] (((s.modPatch n (fun r => r.store sel)).modeChanges n (s.patch n).mode).styleChanges n (s.patch n).style) := by
  have stored := agree_modPatch (n := n) (f := fun r => r.store sel) h.agree rfl hu
  have moded : Fit P [] ((s.modPatch n (fun r => r.store sel)).modeChanges n (s.patch n).mode) := by
    unfold State.modeChanges
    split
    · rename_i e
      rw [State.modPatch_patch, if_pos rfl] at e
      exact h.modPatch_same hu rfl ⟨rfl, e, rfl⟩
    · exact h.recompute (calm_modPatch (fun e => .inr ⟨e, rfl⟩)) stored
  have used : (((s.modPatch n (fun r => r.store sel)).modeChanges n (s.patch n).mode).patch n).state ≠ .unused := by
    unfold State.modeChanges
    split
    · rw [State.modPatch_patch, if_pos rfl]; exact hu
    · rw [(still_evalPatch (ns := []) _ n).patch n (by simp), State.modPatch_patch, if_pos rfl]; exact hu
  revert moded used
  generalize (s.modPatch n (fun r => r.store sel)).modeChanges n (s.patch n).mode = u
  intro moded used
  unfold State.styleChanges
  split
  · have vacated := moded.modPatch_same (f := fun r => { r with partner := none }) used rfl ⟨rfl, rfl, rfl⟩
    simp only []
    split
    · exact vacated.recompute (calm_takeBid _ _ _) ((flow_takeBid _ _ _).agree vacated.agree)
    · exact vacated
  · exact moded

end Fit

/-! ### Settings of a port (R20, R21, R106) -/

theorem State.baseChanges_cfg (s : State) (p : PortId) (old : Nat) (q : PortId) : ((s.baseChanges p old).port q).cfg = (s.port q).cfg := by
  unfold State.baseChanges
  split
  · rfl
  · exact PortRec.fixedPart_cfg ((kept_priorityChanged (ns := []) (ps := []) s p false).ports q)

namespace Fit

variable {P : PortId → Prop} {s : State}

theorem baseChanges (h : Fit P [] s) (p : PortId) (old : Nat) : Fit P [] (s.baseChanges p old) := by
  unfold State.baseChanges
  split
  · exact h
  · exact h.priorityChanged p false

theorem settle (h : Fit P [] s) : Fit P [] s.settle := (fit_events P).settle h

theorem inputsChange (h : Fit P [] s) (p : PortId) (old : PortRec) : Fit P [] (s.inputsChange p old) := by
  have cor : Fit P [] (if (s.port p).cfg.corPolarity = old.cfg.corPolarity ∧ (s.port p).cfg.glitchFilter = old.cfg.glitchFilter then s
      else (s.writePort p ((s.port p).conditionCor old.correctedCor)).settle) := by
    split
    · exact h
    · exact (h.quietPort (PortRec.quiet_conditionCor _ _)).settle
  unfold State.inputsChange
  simp only []
  split
  · exact cor
  · exact (fit_events P).conditionEmg p _ cor

/-- Stored settings leave out the port, if its kind has changed. -/
theorem stored (h : Fit noPort [] s) (p : PortId) (sel : PortSelection) :
    Fit (fun q => q = p ∧ ((s.port p).cfg.store sel).kind ≠ (s.port p).cfg.kind) [] (s.updPort p (fun r => { r with cfg := r.cfg.store sel })) := by
  by_cases hk : ((s.port p).cfg.store sel).kind = (s.port p).cfg.kind
  · exact (h.updPort (fun k => ⟨k, rfl, hk, id⟩) rfl).loosen nofun
  · have same : ∀ q, ((s.updPort p (fun r => { r with cfg := r.cfg.store sel })).port q).state = (s.port q).state ∧
        ((s.updPort p (fun r => { r with cfg := r.cfg.store sel })).port q).patch = (s.port q).patch := fun q => by
      rw [State.updPort_port]; split
      · rename_i e; rw [PortRec.remask_state, PortRec.remask_patch, e]; exact ⟨rfl, rfl⟩
      · exact ⟨rfl, rfl⟩
    have relaying : ∀ q, ((s.updPort p (fun r => { r with cfg := r.cfg.store sel })).port q).inRelaySet = true → (s.port q).inRelaySet = true :=
      fun q hq => by rw [← PortRec.inRelaySet_congr (same q).1]; exact hq
    refine ⟨(agree_congr (fun m => State.updPort_patch _ _ _ _) (fun q => (same q).2)).mpr h.agree, fun q hq => ?_, fun q hq => ?_⟩
    · obtain ⟨n, hn, ht⟩ := h.placed q (relaying q hq)
      exact ⟨n, (same q).2.trans hn, by rw [State.updPort_patch]; exact ht⟩
    · by_cases e : q = p
      · exact .inl ⟨e, hk⟩
      · obtain ⟨kind, fault, n, hn, rest⟩ := ((h.fit q (relaying q hq)).resolve_left id).resolve_left (by simp)
        have port : (s.updPort p (fun r => { r with cfg := r.cfg.store sel })).port q = s.port q := by rw [State.updPort_port, if_neg e]
        exact .inr (.inr ⟨by rw [port]; exact kind, by rw [port]; exact fault, n, by rw [port]; exact hn, by rw [State.updPort_patch]; exact rest⟩)

/-- A change of kind, handed on, leaves nobody out (R106). -/
theorem kindChanges {p : PortId} {old : PortKind} (h : Fit (fun q => q = p ∧ (s.port p).cfg.kind ≠ old) [] s) :
    Fit noPort [] (s.kindChanges p old) := by
  unfold State.kindChanges
  split
  · rename_i hk; exact h.loosen (fun q hq => hq.2 hk)
  · have left : Fit (fun q => noPort q ∨ q = p) [] s := h.loosen (fun q hq => .inr hq.1)
    refine Fit.settle (Fit.evalPort ?_)
    split
    · exact left.settle
    · exact left

theorem storePort (h : Fit noPort [] s) (p : PortId) (sel : PortSelection) :
    Fit noPort [] ((s.updPort p (fun r => { r with cfg := r.cfg.store sel })).settingsChange p (s.port p)) := by
  have based := (h.stored p sel).baseChanges p (s.port p).cfg.basePriority
  have kind : (((s.updPort p (fun r => { r with cfg := r.cfg.store sel })).baseChanges p (s.port p).cfg.basePriority).port p).cfg.kind =
      ((s.port p).cfg.store sel).kind := by
    rw [State.baseChanges_cfg, State.updPort_port, if_pos rfl, PortRec.remask_cfg]
  unfold State.settingsChange
  refine (fit_events _).emgModeChanges p _ ((fit_events _).updPort (PortRec.quiet_senseChanges _ _) ?_ (Fit.inputsChange (Fit.kindChanges ?_) p _))
  · rw [PortRec.senseChanges_frame]
  · rw [kind]; exact based

end Fit

theorem fit_invariant : Invariant (Fit noPort []) where
  toEventInvariant := fit_events noPort
  storePort p sel _ h := h.storePort p sel
  clearConditions p sel h := h.clearConditions p sel
  reserve c p h := h.reserve c p
  releaseReservation c p h := h.releaseReservation c p
  create c _ label _ _ hc hn h := by
    obtain ⟨nodup, free⟩ := createChecks_pass hc
    exact (h.createdSlot (freeSlot_unused hn) c label).joinAll nodup free (by rw [State.setPatch_patch, if_pos rfl]; exact nofun)
  add _ _ _ hc h := by
    obtain ⟨nodup, free, used⟩ := addChecks_pass hc
    exact h.joinAll nodup free used
  remove c _ _ hc h := by
    obtain ⟨members, used⟩ := removeChecks_pass hc
    exact h.leaveAll members used c
  move c p n d hp hc h := by
    obtain ⟨usedDest, distinct⟩ := moveChecks_pass hc
    exact (h.leaveAll (ps := [p]) (by simpa using hp) (used_of_portPatch h.agree hp) c).join (State.leaveAll_portPatch c (by simp))
      (State.leaveAll_used [p] c distinct usedDest)
  merge _ _ _ hc h := h.merge (mergeable_of_checks hc) _
  storePatch _ n sel hc h := h.storePatch n sel (setPatchChecks_pass hc)
  dissolve c n k _ h := h.dissolve c n k

/-- Settles O59: Fit is membersAgree with relayFit, and every action of a step keeps it. -/
theorem relaySetsStayFit : Obligations.RelaySetsStayFit := by
  unfold Obligations.RelaySetsStayFit
  intro s t agree fit e
  exact (fit_iff.mp (fit_invariant.step (fun _ _ h => h.stays (.of_ports (fun _ => .refl _) (fun _ => rfl)) h.agree) (fun _ _ _ _ h => h.stays (.of_ports (fun _ => .refl _) (fun _ => rfl)) h.agree)
    (fit_iff.mpr ⟨agree, fit⟩) e)).2

end Sys2Proof.Machine

/-! The step and its queue, the part right after power-on, and the three kinds of reset: the records each reset leaves, and the statements
that settle them. -/

namespace Sys2Proof.Machine

/-! ### The step and its queue -/

/-- Settles O1: by the definition of a step. -/
theorem stepRunsFrontCommand : Obligations.StepRunsFrontCommand := by
  unfold Obligations.StepRunsFrontCommand
  intro s i rest h
  unfold step
  rw [h]

theorem exec_next (i : Instr) (s : State) : ∃ t, exec i s = .next t := by
  cases i <;> exact ⟨_, rfl⟩

/-- Settles O3: every arm answers a next state, and no action of the part reaches the queue of commands. -/
theorem everyRowCompletesAndLeavesTheQueue : Obligations.EveryRowCompletesAndLeavesTheQueue := by
  unfold Obligations.EveryRowCompletesAndLeavesTheQueue
  intro i s
  obtain ⟨t, ht⟩ := exec_next i s
  have kept : Invariant (fun u : State => u.pending = s.pending) := .of_within (fun _ _ k h => k.pending.trans h)
  exact ⟨t, ht, kept.exec (fun _ _ _ _ h => h) i rfl ht⟩

/-- An event of a running part is carried out (R177; log 20). -/
theorem State.whenRunning_of_running {s : State} (h : s.resetLine = false) (f : State → State) : s.whenRunning f = f s := by
  unfold State.whenRunning; rw [h]; rfl

/-- An event of a part held in reset is not (R177; log 20). -/
theorem State.whenRunning_of_held {s : State} (h : s.resetLine = true) (f : State → State) : s.whenRunning f = s := by
  unfold State.whenRunning; rw [h]; rfl

theorem State.pinEvent_of_running {s : State} (h : s.resetLine = false) (pin f : State → State) : s.pinEvent pin f = f s := by
  unfold State.pinEvent; rw [h]; rfl

theorem State.pinEvent_of_held {s : State} (h : s.resetLine = true) (pin f : State → State) : s.pinEvent pin f = pin s := by
  unfold State.pinEvent; rw [h]; rfl

theorem whenRunning_kept {s t : State} {f : State → State} (hf : Kept [] [] s (f s)) (e : Host.Outcome.next (s.whenRunning f) = (.next t : Host.Outcome State Fault Refusal)) :
    State.trafficOnly [] [] s t := by
  obtain rfl := Host.Outcome.next.inj e
  unfold State.whenRunning
  split
  · exact (Kept.refl s).frame
  · exact hf.frame

theorem kept_quietPort {s : State} {p : PortId} {rn : PortRec × List CarrierNews} (hf : rn.1.fixedPart = (s.port p).fixedPart)
    (hq : (s.port p).QuietMove rn.1) : Kept [] [] s (s.writePort p rn) :=
  kept_writePort hf (.inr (.inl hq.patch)) hq.maskedClear

theorem kept_guardRunsOut (s : State) (p : PortId) : Kept [] [] s (s.guardRunsOut p) := by
  unfold State.guardRunsOut
  split
  · rename_i h
    simp only [Bool.and_eq_true, Bool.not_eq_true'] at h
    exact kept_quietPort (PortRec.maskEnds_fixed _) (PortRec.quiet_maskEnds h.1)
  · exact .refl s

theorem kept_unguard (s : State) (p : PortId) : Kept [] [] s (s.setPort p { s.port p with guardLeft := 0 }) :=
  kept_setPort rfl (.inr (.inl rfl)) (PortRec.quiet_unguard _).maskedClear

/-- Settles O16: each expiry is an action of the traffic alone. -/
theorem timerExpiriesOnlyMoveTraffic : Obligations.TimerExpiriesOnlyMoveTraffic := by
  unfold Obligations.TimerExpiriesOnlyMoveTraffic
  intro s t p n
  refine ⟨whenRunning_kept ?_, whenRunning_kept ?_, whenRunning_kept ?_, whenRunning_kept ?_, whenRunning_kept ?_⟩
  · exact (kept_quietPort (PortRec.qualifyExpires_fixed _) (PortRec.quiet_qualifyExpires _)).trans (kept_settle _)
  · exact (kept_quietPort (PortRec.dropExpires_fixed _) (PortRec.quiet_dropExpires _)).trans (kept_settle _)
  · split
    · exact ((kept_unguard s p).trans (kept_guardRunsOut _ p)).trans (kept_settle _)
    · exact .refl s
  · exact ((flow_keyUpRunsOut s p).toKept.mono).trans (kept_settle _)
  · exact (kept_hangRunsOut s n).trans (kept_settle _)

/-! ### Right after power-on -/

theorem forall_console {P : Console → Prop} (a : P .A) (b : P .B) (c : Console) : P c := by cases c <;> assumption

theorem State.reset_port (p : PortId) : State.reset.port p = PortRec.reset := by simp [State.reset, State.port]
theorem State.reset_patch (n : SlotId) : State.reset.patch n = PatchRec.unused := by simp [State.reset, State.patch]
theorem State.reset_console (c : Console) : State.reset.console c = ConsoleRec.reset := by cases c <;> rfl
theorem State.reset_link (c : Console) : State.reset.link c = LinkUnit.reset := by cases c <;> rfl
theorem State.reset_notice (c : Console) : State.reset.notice c = NoticeUnit.reset := by cases c <;> rfl

/-- Settles O4, record by record. -/
theorem resetValues : Obligations.ResetValues := by
  unfold Obligations.ResetValues
  refine ⟨fun p => ?_, fun n => ?_, fun c => ?_, fun c => ?_, fun c => ?_, rfl, rfl⟩
  · rw [State.reset_port]; decide
  · rw [State.reset_patch]; decide
  · rw [State.reset_console]; decide
  · rw [State.reset_link]; decide
  · unfold State.noticeLine; rw [State.reset_notice]; decide

theorem reset_blank : State.reset.Blank where
  patches := State.reset_patch
  portPatch p := by rw [State.reset_port]; rfl
  detached p := by rw [State.reset_port]; rfl
  unmasked p := by rw [State.reset_port]; rfl

/-- Settles O60: a blank part keeps every invariant of memberships and floors, and its records are in range. -/
theorem invariantsHoldAtReset : Obligations.InvariantsHoldAtReset := by
  unfold Obligations.InvariantsHoldAtReset
  obtain ⟨agree, floors, ordered⟩ := sound_iff.mp (Sound.of_blank (F := True) (O := True) reset_blank)
  refine ⟨fun p => ?_, agree, floors trivial, ordered trivial trivial, fun c => ?_, ⟨fun p => ?_, fun n => ?_, fun c => ?_⟩,
    (fit_iff.mp (Fit.of_blank reset_blank)).2⟩
  · rw [State.reset_port]; decide
  · rw [State.reset_link, State.reset_notice]; decide
  · rw [State.reset_port]; decide
  · rw [State.reset_patch]; decide
  · rw [State.reset_console]; decide

/-! ### Taking up the inputs -/

/-- What the part holds once it has taken up its inputs: the ports as they stand after the reset, and the rest as the reset left it (R19). -/
structure TookUp (recs : PortId → PortRec) (cfg : PortId → PortSettings) (s t : State) : Prop where
  port : ∀ p, t.port p = (recs p).afterReset (cfg p)
  patches : t.patches = s.patches
  consoles : t.consoles = s.consoles
  rest : t.fixedPart = s.fixedPart
  raised : t.raised = []
  links : (∀ c, (s.notice c).entries ≠ []) → t.links = s.links
  masks : ∀ c, (t.notice c).mask = (s.notice c).mask
  entries : ∀ c, ∀ e ∈ (s.notice c).entries, e ∈ (t.notice c).entries
  notices : (∀ q, ((recs q).afterReset (cfg q)).emergency = false) → t.notices = s.notices

theorem State.tookUp {recs : PortId → PortRec} {cfg : PortId → PortSettings} {s : State}
    (h : ∀ p, s.port p = (recs p).atReset (cfg p)) (hr : s.raised = []) : TookUp recs cfg s s.takeUp := by
  obtain ⟨t, taken, e⟩ := State.takeUp_of_reset h hr
  rw [e]
  exact {
    port := fun p => (taken.ports p).trans (if_pos (mem_allPorts p))
    patches := taken.patches, consoles := taken.consoles
    rest := (congrArg (fun u : State => { u with raised := [] }) taken.rest :)
    raised := rfl, links := taken.links, masks := taken.masks, entries := taken.entries
    notices := fun hq => (taken.notices hq).1 }

namespace TookUp

variable {recs : PortId → PortRec} {cfg : PortId → PortSettings} {s t : State} (h : TookUp recs cfg s t)
include h

theorem patch (n : SlotId) : t.patch n = s.patch n := congrArg (fun v : Vector PatchRec 12 => v[n.val]) h.patches
theorem console (c : Console) : t.console c = s.console c := congrArg (fun x : Pair ConsoleRec => x.get c) h.consoles
theorem inputs : t.inputs = s.inputs := by have e := congrArg State.inputs h.rest; exact e
theorem outputs : t.outputs = s.outputs := by have e := congrArg State.outputs h.rest; exact e
theorem resetCause : t.resetCause = s.resetCause := by have e := congrArg State.resetCause h.rest; exact e
theorem resetLine : t.resetLine = s.resetLine := by have e := congrArg State.resetLine h.rest; exact e
theorem restartFirst : t.restartFirst = s.restartFirst := by have e := congrArg State.restartFirst h.rest; exact e
theorem pending : t.pending = s.pending := by have e := congrArg State.pending h.rest; exact e

end TookUp

/-- In LATCH mode, the mode of the default settings, no reset sets an emergency (R1, R19). -/
theorem PortRec.afterReset_emergency {r : PortRec} {cfg : PortSettings} (h : cfg.emgMode = .latch ∨ r.emgPin = .high) :
    (r.afterReset cfg).emergency = false := by
  rcases h with h | h <;> simp [PortRec.afterReset, PortRec.correctedEmg, h, Level.isLow]

/-! ### POWER_ON and the RESET line -/

/-- The power-on values with a cause, the RESET line released: the part takes up its work from them (R177). -/
def State.poweredOn (s : State) (cause : ResetCause) : State :=
  { s.powerOnValues with resetCause := cause, resetLine := false, coldStart := false }

theorem State.poweredOn_tookUp (s : State) (cause : ResetCause) :
    TookUp s.port (fun _ => PortSettings.default) (s.poweredOn cause) (s.poweredOn cause).takeUp :=
  State.tookUp (s := s.poweredOn cause) (State.powerOnValues_port s) rfl

theorem State.powerUp_running {s : State} (h : s.resetLine = false) : s.powerUp = (s.poweredOn .powerOn).takeUp := by
  have values : ({ s.powerOnValues with resetCause := .powerOn, coldStart := false } : State) = s.poweredOn .powerOn := by
    simp [State.poweredOn, State.powerOnValues, h]
  unfold State.powerUp
  rw [if_neg (by simp [h]), values]

theorem State.releaseReset_held {s : State} (h : s.resetLine = true) :
    s.releaseReset = (s.poweredOn (if s.coldStart then .powerOn else .resetLine)).takeUp := by
  unfold State.releaseReset
  rw [if_pos h, State.poweredOn]

/-- Every block at its power-on values, the inputs taken up (R1, R2, R19, R131, R177, R184). -/
theorem State.poweredOn_takeUp (s : State) (cause : ResetCause) :
    ((s.poweredOn cause).takeUp).resetLine = false ∧
      (∀ p, ((s.poweredOn cause).takeUp).port p = (s.port p).afterReset PortSettings.default) ∧
      (∀ n, ((s.poweredOn cause).takeUp).patch n = PatchRec.unused) ∧
      (∀ c, ((s.poweredOn cause).takeUp).console c = { ConsoleRec.reset with
        pttPin := (s.console c).pttPin, filteredPtt := Level.isLow (s.console c).pttPin }) ∧
      ((s.poweredOn cause).takeUp).links = State.reset.links ∧ ((s.poweredOn cause).takeUp).notices = State.reset.notices ∧
      ((s.poweredOn cause).takeUp).inputs = State.reset.inputs ∧ ((s.poweredOn cause).takeUp).outputs = State.reset.outputs ∧
      ((s.poweredOn cause).takeUp).resetCause = cause ∧ ((s.poweredOn cause).takeUp).restartFirst = none ∧
      ((s.poweredOn cause).takeUp).raised = [] ∧ ((s.poweredOn cause).takeUp).pending = s.pending := by
  have took := s.poweredOn_tookUp cause
  refine ⟨took.resetLine, took.port, fun n => (took.patch n).trans (State.powerOnValues_patch s n),
    fun c => (took.console c).trans (State.powerOnValues_console s c), took.links (fun c => ?_),
    took.notices (fun q => PortRec.afterReset_emergency (.inl rfl)), took.inputs, took.outputs, took.resetCause, took.restartFirst,
    took.raised, took.pending⟩
  cases c <;> exact List.cons_ne_nil _ _

/-- The part held in reset (R177). -/
theorem State.held_values (s : State) :
    (∀ p, s.held.port p = { PortRec.reset with
      corPin := (s.port p).corPin, emgPin := (s.port p).emgPin, txsPin := (s.port p).txsPin }) ∧
    (∀ n, s.held.patch n = PatchRec.unused) ∧
    (∀ c, s.held.console c = { ConsoleRec.reset with
      pttPin := (s.console c).pttPin, filteredPtt := Level.isLow (s.console c).pttPin }) ∧
    (∀ c, s.held.link c = { LinkUnit.reset with alertWaiting := false } ∧ s.held.notice c = { NoticeUnit.reset with entries := [] }) :=
  ⟨State.powerOnValues_port s, State.powerOnValues_patch s, State.powerOnValues_console s,
    fun c => ⟨State.held_link s c, State.held_notice s c⟩⟩

/-- Settles O5: both rows take up the inputs from the power-on values, and the release after a POWER_ON under RESET does so too. -/
theorem partTakesUpItsWork : Obligations.PartTakesUpItsWork := by
  unfold Obligations.PartTakesUpItsWork
  constructor
  · rintro s i (⟨rfl, h⟩ | ⟨rfl, h⟩)
    · exact ⟨_, congrArg Host.Outcome.next (State.powerUp_running h), by simpa using s.poweredOn_takeUp .powerOn⟩
    · exact ⟨_, congrArg Host.Outcome.next (State.releaseReset_held h), by
        simpa using s.poweredOn_takeUp (if s.coldStart then .powerOn else .resetLine)⟩
  · intro s h
    obtain ⟨port, patch, console, linkNotice⟩ := s.held_values
    have held : s.powerUp = { s.held with resetCause := .powerOn, coldStart := true } := by unfold State.powerUp; rw [h]; rfl
    refine ⟨_, congrArg Host.Outcome.next held, h, rfl, port, patch, console, linkNotice, rfl, rfl, rfl, rfl, ?_⟩
    have released := State.releaseReset_held (s := { s.held with resetCause := .powerOn, coldStart := true }) h
    obtain ⟨line, ports, _, _, links, notices, _, _, cause, _⟩ :=
      State.poweredOn_takeUp { s.held with resetCause := .powerOn, coldStart := true } .powerOn
    rw [if_pos rfl] at released
    refine ⟨_, congrArg Host.Outcome.next released, line, cause, fun p => (ports p).trans ?_, links, notices⟩
    exact (congrArg (fun r : PortRec => r.afterReset PortSettings.default) (port p)).trans rfl

/-- While the RESET line is asserted a good frame is not heard (R177; log 20). -/
theorem State.goodFrame_of_held {s : State} (h : s.resetLine = true) (c : Console) (act : State → State × Response) :
    s.goodFrame c act = s := if_pos h

theorem State.badFrameCloses_of_held {s : State} (h : s.resetLine = true) (c : Console) (f : FrameFault) : s.badFrameCloses c f = s :=
  if_pos h

/-- A row that neither resets, nor releases, nor sets a pin has no effect on a part held in reset (R177; log 20). -/
theorem exec_of_held {s : State} (h : s.resetLine = true) (i : Instr) (power : i ≠ .powerOn) (release : i ≠ .resetLineReleased)
    (cor : ∀ p l, i ≠ .corLineChange p l) (emg : ∀ p l, i ≠ .emgLineChange p l) (txs : ∀ p l, i ≠ .txsChange p l)
    (ptt : ∀ c l, i ≠ .consolePttLineChange c l) : exec i s = .next s := by
  cases i with
  | powerOn => exact absurd rfl power
  | resetLineReleased => exact absurd rfl release
  | corLineChange p l => exact absurd rfl (cor p l)
  | emgLineChange p l => exact absurd rfl (emg p l)
  | txsChange p l => exact absurd rfl (txs p l)
  | consolePttLineChange c l => exact absurd rfl (ptt c l)
  | resetLineAsserted => exact congrArg Host.Outcome.next (if_pos h)
  | badFrame c => exact congrArg Host.Outcome.next (State.badFrameCloses_of_held h c _)
  | glitchFilterExpiry | qualifyTimerExpiry | dropTimerExpiry | guardExpiry | lockoutExpiry | keyUpExpiry | startWindowExpiry
  | lossExpiry | hangExpiry | timeOut | pttFilterExpiry | silenceExpiry | alertByteSent | audioFrame | partialFrameDropped
  | frameTimeout | responseTransmissionStart | responseSent | characterReceived =>
    exact congrArg Host.Outcome.next (State.whenRunning_of_held h _)
  | unknownCommand c | queryUnit c | restart c | setLink c | readNotice c | setPort c | queryPort c | clearPortConditions c
  | reservePort c | releasePort c | createPatch c | addMembers c | removeMembers c | moveMember c | mergePatches c | setPatch c
  | dissolveNow c | dissolveWhenClear c | queryPatch c | listPatches c | setSharing c | takeOver c | setConsole c | setListen c
  | setTalkTarget c | seize c | unseize c =>
    exact congrArg Host.Outcome.next (State.goodFrame_of_held h c _)

/-- Settles O6: the held values, and an event of a held part. -/
theorem resetLineHoldsThePart : Obligations.ResetLineHoldsThePart := by
  unfold Obligations.ResetLineHoldsThePart
  constructor
  · intro s h
    obtain ⟨port, patch, console, linkNotice⟩ := s.held_values
    have held : s.assertReset = { s.held with resetLine := true, coldStart := false } := if_neg (by simp [h])
    refine ⟨_, congrArg Host.Outcome.next held, rfl, port, patch, console, fun c => (linkNotice c).1, fun c => ⟨(linkNotice c).2, ?_⟩,
      rfl, rfl, rfl, rfl⟩
    cases c <;> rfl
  · intro s h
    exact ⟨exec_of_held h, fun p l => congrArg Host.Outcome.next (State.pinEvent_of_held h _ _),
      fun p l => congrArg Host.Outcome.next (State.pinEvent_of_held h _ _),
      fun p l => congrArg Host.Outcome.next (State.pinEvent_of_held h _ _),
      fun c l => congrArg Host.Outcome.next (State.pinEvent_of_held h _ _)⟩

/-! ### RESTART -/

theorem State.startResponse_of_empty {s : State} {c : Console} (h : (s.link c).queue = []) : s.startResponse c = s := by
  unfold State.startResponse; rw [h]

theorem State.startResponse_of_sending {s : State} {c : Console} (h : (s.link c).sending = true) : s.startResponse c = s := by
  unfold State.startResponse
  split
  · rfl
  · rw [if_pos h]

/-- The head response goes out behind an alert that waits (R163, R170, R171, R183). -/
theorem State.startResponse_of_waiting {s : State} {c : Console} {r : Response} {rest : List Response}
    (hq : (s.link c).queue = r :: rest) (hs : (s.link c).sending = false) :
    s.startResponse c = s.setLink c { s.link c with
      sending := true, overrun := false, alertWaiting := false
      txLine := ((if (s.link c).alertWaiting then [Config.alertByte] else []) ++ frameChars (s.responsePayload c r)).map
        LineChar.sent } := by
  unfold State.startResponse
  rw [hq]
  exact if_neg (by simp [hs])

/-- A response that leaves changes the record of its own link only, and there takes out the head (R169). -/
theorem State.finishResponse_eq (s : State) (c : Console) :
    ∃ u : LinkUnit, s.finishResponse c = s.setLink c u ∧ u.queue = (s.link c).queue.tail ∧
      u.restartPending = (s.link c).restartPending := by
  unfold State.finishResponse
  cases hq : (s.link c).queue with
  | nil => rw [State.startResponse_of_empty hq]; exact ⟨_, rfl, congrArg List.tail hq, rfl⟩
  | cons r rest =>
    cases hs : (s.link c).sending with
    | true => rw [State.startResponse_of_sending hs]; exact ⟨_, rfl, congrArg List.tail hq, rfl⟩
    | false =>
      rw [State.startResponse_of_waiting hq hs]
      unfold State.modLink
      rw [State.setLink_link_same, State.setLink_setLink]
      exact ⟨_, rfl, congrArg List.tail hq, rfl⟩

/-- What a reset that is due waits for, by console (R178). -/
theorem State.restartDue_iff (s : State) (c : Console) :
    s.restartDue = true ↔ ((s.link c).restartPending = true ∨ (s.link (otherConsole c)).restartPending = true) ∧
      ((s.link c).restartPending = true → (s.link c).queue = []) ∧
      ((s.link (otherConsole c)).restartPending = true → (s.link (otherConsole c)).queue = []) := by
  unfold State.restartDue
  cases c <;> cases ha : (s.link .A).restartPending <;> cases hb : (s.link .B).restartPending <;>
    simp [otherConsole, ha, hb, and_comm]

theorem otherConsole_ne (c : Console) : otherConsole c ≠ c := by cases c <;> decide

/-- With its last response gone, a link whose RESTART is pending waits for nothing more (R178). -/
theorem State.restartDue_finishResponse {s : State} {c : Console} {r : Response} (hq : (s.link c).queue = [r])
    (hp : (s.link c).restartPending = true)
    (ho : (s.link (otherConsole c)).restartPending = false ∨ (s.link (otherConsole c)).queue = []) :
    (s.finishResponse c).restartDue = true := by
  obtain ⟨u, e, uq, up⟩ := s.finishResponse_eq c
  rw [e, State.restartDue_iff _ c, State.setLink_link_same, State.setLink_link, if_neg (otherConsole_ne c), uq, up, hq]
  refine ⟨.inl hp, fun _ => rfl, fun o => ho.resolve_left ?_⟩
  rw [o]; exact Bool.noConfusion

/-- Settles O7: the reset of a RESTART, taken up by the settings of each port. -/
theorem restartTakesEffect : Obligations.RestartTakesEffect := by
  unfold Obligations.RestartTakesEffect
  intro s c d r hrun hq hp ho hd
  obtain ⟨u, finish, -, -⟩ := s.finishResponse_eq c
  have due := State.restartDue_finishResponse hq hp ho
  rw [finish] at due
  have leaves : s.responseLeaves c = (s.setLink c u).restartTakesEffect := by
    unfold State.responseLeaves
    rw [hq, finish, if_neg (by simp), if_pos due]
  have took : TookUp s.port (fun p => (s.port p).cfg)
      { (s.setLink c u).restartValues with resetCause := restartCause ((s.setLink c u).restartFirst.getD .A) }
      (s.setLink c u).restartTakesEffect :=
    State.tookUp (s := { (s.setLink c u).restartValues with
      resetCause := restartCause ((s.setLink c u).restartFirst.getD .A) }) (State.restartValues_port (s.setLink c u)) rfl
  have notice := State.restartValues_notice (s.setLink c u)
  refine ⟨_, congrArg Host.Outcome.next ((State.whenRunning_of_running hrun _).trans leaves), took.port,
    fun n => (took.patch n).trans (State.restartValues_patch (s.setLink c u) n),
    fun e => (took.console e).trans (State.restartValues_console (s.setLink c u) e), took.links (fun e => ?_), fun e => ⟨?_, ?_⟩,
    fun quiet e => ?_, took.outputs, ?_, took.restartFirst, took.raised, took.pending⟩
  · exact (congrArg NoticeUnit.entries (notice e)).trans_ne (List.cons_ne_nil _ _)
  · exact (took.masks e).trans ((congrArg NoticeUnit.mask (notice e)).trans rfl)
  · exact took.entries e _ (by exact (congrArg NoticeUnit.entries (notice e)).symm ▸ List.mem_singleton_self _)
  · exact (congrArg (fun x : Pair NoticeUnit => x.get e) (took.notices fun q => PortRec.afterReset_emergency (quiet q))).trans (notice e)
  · rw [took.resetCause]
    show restartCause (s.restartFirst.getD .A) = _
    rw [hd]; cases d <;> rfl

end Sys2Proof.Machine

/-! What the two halves of a command link do: frames that close, characters inside and outside a frame, responses and alerts sent, and the
statements that settle them. -/

namespace Sys2Proof.Machine

/-! ### A command's row, and a frame that closes -/

/-- The row of a command is the closing of a good frame that carries it (R168). -/
theorem exec_request {i : Instr} {c : Console} {r : Request} (h : i.request? = some (c, r)) (s : State) :
    exec i s = .next (s.goodFrame c (runRequest c r)) := by
  cases i <;> cases h <;> rfl

/-- A frame that closes where 4 responses wait sets OVERRUN and does nothing else (R169). -/
theorem State.answer_of_full {s : State} {c : Console} (h : 4 ≤ (s.link c).queue.length) (act : State → State × Response) :
    s.answer c act = s.modLink c (fun u => { u with overrun := true }) := if_pos h

/-- One that closes while a RESTART is pending does nothing (R178; log 12). -/
theorem State.answer_of_pending {s : State} {c : Console} (hq : (s.link c).queue.length < 4) (hp : (s.link c).restartPending = true)
    (act : State → State × Response) : s.answer c act = s := by
  have room : ¬ Config.queueCapacity ≤ (s.link c).queue.length := Nat.not_le.mpr hq
  unfold State.answer
  rw [if_neg room, if_pos hp]

theorem State.closeFrame_link (s : State) (c : Console) : (s.closeFrame c).link c = { s.link c with rx := Receiver.outside } :=
  State.setLink_link_same _ _ _

theorem State.heard_link (s : State) (c : Console) : (s.heard c).link c = { s.link c with rx := Receiver.outside } :=
  State.closeFrame_link s c

theorem State.goodFrame_of_running {s : State} (h : s.resetLine = false) (c : Console) (act : State → State × Response) :
    s.goodFrame c act = (s.heard c).answer c act := if_neg (by simp [h])

theorem State.badFrameCloses_of_running {s : State} (h : s.resetLine = false) (c : Console) (f : FrameFault) :
    s.badFrameCloses c f = (s.closeFrame c).answer c (fun t => (t, badFrameResponse f)) := if_neg (by simp [h])

theorem State.goodFrame_of_full {s : State} {c : Console} (h : s.resetLine = false) (hq : 4 ≤ (s.link c).queue.length)
    (act : State → State × Response) : s.goodFrame c act = (s.heard c).modLink c (fun u => { u with overrun := true }) := by
  rw [State.goodFrame_of_running h, State.answer_of_full (by rw [State.heard_link]; exact hq)]

theorem State.goodFrame_of_pending {s : State} {c : Console} (h : s.resetLine = false) (hq : (s.link c).queue.length < 4)
    (hp : (s.link c).restartPending = true) (act : State → State × Response) : s.goodFrame c act = s.heard c := by
  rw [State.goodFrame_of_running h, State.answer_of_pending (by rw [State.heard_link]; exact hq) (by rw [State.heard_link]; exact hp)]

theorem State.badFrameCloses_of_full {s : State} {c : Console} (h : s.resetLine = false) (hq : 4 ≤ (s.link c).queue.length)
    (f : FrameFault) : s.badFrameCloses c f = s.setLink c { s.link c with rx := Receiver.outside, overrun := true } := by
  rw [State.badFrameCloses_of_running h, State.answer_of_full (by rw [State.closeFrame_link]; exact hq)]
  unfold State.modLink
  rw [State.closeFrame_link]
  exact State.setLink_setLink _ _ _ _

/-- A bad frame on a link that is ready is answered with its fault, and heard by nobody (R166). -/
theorem State.badFrameCloses_of_ready {s : State} {c : Console} (h : s.readyFor c) (f : FrameFault) :
    s.badFrameCloses c f = (s.closeFrame c).replied c (badFrameResponse f) := by
  obtain ⟨line, queue, pending⟩ := h
  rw [State.badFrameCloses_of_running line,
    State.answer_of_room (by rw [State.closeFrame_link]; exact queue) (by rw [State.closeFrame_link]; exact pending)]

theorem State.frameTimesOut_of_open {s : State} {c : Console} (h : (s.link c).rx.isOpen = true) :
    s.frameTimesOut c = s.badFrameCloses c (s.link c).rx.timeoutFault := if_pos h

theorem Receiver.timeoutFault_of_fault {rx : Receiver} {f : FrameFault} (h : rx.fault = some f) : rx.timeoutFault = f := by
  unfold Receiver.timeoutFault; rw [h]; rfl

theorem Receiver.timeoutFault_of_none {rx : Receiver} (h : rx.fault = none) : rx.timeoutFault = ⟨.timeout, rx.count + 1⟩ := by
  unfold Receiver.timeoutFault; rw [h]; rfl

/-- Settles O24, frame by frame. -/
theorem framesThatCarryNoCommand : Obligations.FramesThatCarryNoCommand := by
  unfold Obligations.FramesThatCarryNoCommand
  intro s c h closed
  have running := State.whenRunning_of_running h
  refine ⟨congrArg Host.Outcome.next (running _), fun shut => ?_, fun ready => ⟨fun reason k => ?_, fun opened none => ?_,
    fun f opened some => ?_, fun code => congrArg Host.Outcome.next (State.goodFrame_of_ready ready rfl)⟩⟩
  · exact congrArg Host.Outcome.next ((running _).trans (if_neg (by simp [shut])))
  · exact congrArg Host.Outcome.next (State.badFrameCloses_of_ready ready _)
  · have times := (State.frameTimesOut_of_open opened).trans (State.badFrameCloses_of_ready ready _)
    rw [Receiver.timeoutFault_of_none none] at times
    exact congrArg Host.Outcome.next ((running _).trans times)
  · have times := (State.frameTimesOut_of_open opened).trans (State.badFrameCloses_of_ready ready _)
    rw [Receiver.timeoutFault_of_fault some] at times
    exact congrArg Host.Outcome.next ((running _).trans times)

/-! ### A closing byte -/

theorem foldl_add_toNat (l : List Byte) (a : Byte) : (l.foldl (· + ·) a).toNat = (a.toNat + (l.map BitVec.toNat).sum) % 256 := by
  induction l generalizing a with
  | nil => simp [Nat.mod_eq_of_lt a.isLt]
  | cons b l ih => simp [ih, Nat.add_assoc]

/-- The sum of R164 by the numbers the bytes stand for. -/
theorem byteSum_eq_zero_iff (l : List Byte) : byteSum l = 0 ↔ (l.map BitVec.toNat).sum % 256 = 0 := by
  have sum := foldl_add_toNat l 0
  unfold byteSum
  constructor
  · intro h; rw [h] at sum; simpa using sum.symm
  · intro h; exact BitVec.eq_of_toNat_eq (by rw [sum]; simpa using h)

theorem Receiver.closingFault_of_fault {rx : Receiver} {f : FrameFault} (h : rx.fault = some f) : rx.closingFault = some f := by
  unfold Receiver.closingFault; rw [h]

theorem Receiver.closingFault_of_short {rx : Receiver} (h : rx.fault = none) (hl : rx.stored.length < 2) :
    rx.closingFault = some ⟨.length, rx.count + 1⟩ := by
  unfold Receiver.closingFault; rw [h]; exact if_pos hl

theorem Receiver.closingFault_of_check {rx : Receiver} (h : rx.fault = none) (hl : 2 ≤ rx.stored.length)
    (hs : (rx.stored.map BitVec.toNat).sum % 256 ≠ 0) : rx.closingFault = some ⟨.check, 0⟩ := by
  unfold Receiver.closingFault; rw [h]
  exact (if_neg (Nat.not_lt.mpr hl)).trans (if_pos (mt (byteSum_eq_zero_iff _).mp hs))

theorem Receiver.closingFault_of_good {rx : Receiver} (h : rx.fault = none) (hl : 2 ≤ rx.stored.length)
    (hs : (rx.stored.map BitVec.toNat).sum % 256 = 0) : rx.closingFault = none := by
  unfold Receiver.closingFault; rw [h]
  exact (if_neg (Nat.not_lt.mpr hl)).trans (if_neg (not_not_intro ((byteSum_eq_zero_iff _).mpr hs)))

theorem Receiver.closingFault_of_bad {rx : Receiver}
    (h : rx.fault.isSome = true ∨ rx.stored.length < 2 ∨ (rx.stored.map BitVec.toNat).sum % 256 ≠ 0) :
    ∃ f, rx.closingFault = some f := by
  cases hf : rx.fault with
  | some f => exact ⟨f, Receiver.closingFault_of_fault hf⟩
  | none =>
    rw [hf] at h
    by_cases hl : rx.stored.length < 2
    · exact ⟨_, Receiver.closingFault_of_short hf hl⟩
    · exact ⟨_, Receiver.closingFault_of_check hf (Nat.not_lt.mp hl) ((h.resolve_left (by simp)).resolve_left hl)⟩

theorem State.frameCloses_of_fault {s : State} {c : Console} {f : FrameFault} (h : (s.link c).rx.closingFault = some f) :
    s.frameCloses c = s.badFrameCloses c f := by
  unfold State.frameCloses; rw [h]

theorem State.frameCloses_of_good {s : State} {c : Console} (h : (s.link c).rx.closingFault = none) :
    s.frameCloses c = s.goodFrame c (runParsed c (parsePayload (s.link c).rx.stored.dropLast)) := by
  unfold State.frameCloses; rw [h]

/-! ### A character on the line (R163 to R166) -/

theorem execCharacter_running {s : State} (h : s.resetLine = false) (c : Console) (ch : LineChar) :
    exec (.characterReceived c ch) s = .next (s.hearCharacter c ch) := congrArg Host.Outcome.next (State.whenRunning_of_running h _)

theorem State.hearCharacter_opens {s : State} {c : Console} {ch : LineChar} (hd : ch.data = 0xF3#8) (he : ch.error = false) :
    s.hearCharacter c ch = s.openFrame c := if_pos ⟨hd, he⟩

theorem State.hearCharacter_outside {s : State} {c : Console} {ch : LineChar} (ho : (s.link c).rx.isOpen = false)
    (h : ch.data ≠ 0xF3#8 ∨ ch.error = true) : s.hearCharacter c ch = s := by
  have notOpening : ¬ (ch.data = Config.openByte ∧ ch.error = false) := fun hh => h.elim (absurd hh.1) (fun e => by simp [hh.2] at e)
  unfold State.hearCharacter
  rw [if_neg notOpening, if_neg (by simp [ho])]

theorem State.hearCharacter_closes {s : State} {c : Console} {ch : LineChar} (ho : (s.link c).rx.isOpen = true)
    (hd : ch.data = 0xF4#8) (he : ch.error = false) : s.hearCharacter c ch = s.frameCloses c := by
  unfold State.hearCharacter
  rw [if_neg (fun h => absurd (hd.symm.trans h.1) (by decide)), if_pos ho, if_pos ⟨hd, he⟩]

theorem State.hearCharacter_inside {s : State} {c : Console} {ch : LineChar} (ho : (s.link c).rx.isOpen = true)
    (h : ch.error = true ∨ ch.data ≠ 0xF3#8 ∧ ch.data ≠ 0xF4#8) :
    s.hearCharacter c ch = s.setLink c { s.link c with rx := (s.link c).rx.take ch } := by
  unfold State.hearCharacter
  rw [if_neg (fun hh => h.elim (fun e => by simp [hh.2] at e) (fun n => n.1 hh.1)), if_pos ho,
    if_neg (fun hh => h.elim (fun e => by simp [hh.2] at e) (fun n => n.2 hh.1))]
  rfl

/-- Settles O25: every way a frame closes ends in the same refusal of a full queue. -/
theorem fullQueueOverruns : Obligations.FullQueueOverruns := by
  unfold Obligations.FullQueueOverruns
  intro s c h hq rx goodLost badLost
  have good : ∀ act, s.goodFrame c act = goodLost := State.goodFrame_of_full h hq
  have bad : ∀ f, s.badFrameCloses c f = badLost := State.badFrameCloses_of_full h hq
  refine ⟨fun i r hi => (exec_request hi s).trans (congrArg Host.Outcome.next (good _)), fun code => congrArg Host.Outcome.next (good _),
    fun reason k => congrArg Host.Outcome.next (bad _), fun opened => ?_, fun ch he hd opened => ?_⟩
  · exact congrArg Host.Outcome.next ((State.whenRunning_of_running h _).trans ((State.frameTimesOut_of_open opened).trans (bad _)))
  · rw [execCharacter_running h, State.hearCharacter_closes opened hd he]
    refine ⟨fun faulty => ?_, fun sound long sum => ?_⟩
    · obtain ⟨f, hf⟩ := Receiver.closingFault_of_bad faulty
      rw [State.frameCloses_of_fault hf, bad]
    · rw [State.frameCloses_of_good (Receiver.closingFault_of_good sound long sum), good]

/-! ### Responses and alerts (R170, R171, R183) -/

theorem State.sendAlert_of_waiting {s : State} {c : Console} (ha : (s.link c).alertWaiting = true) (hs : (s.link c).sending = false)
    (hr : (s.link c).restartPending = false ∨ (s.link c).queue ≠ []) :
    s.sendAlert c = s.setLink c { s.link c with alertWaiting := false, txLine := [LineChar.sent Config.alertByte] } := by
  unfold State.sendAlert
  exact if_pos (by rcases hr with hr | hr <;> simp [ha, hs, hr])

theorem State.sendAlert_of_none {s : State} {c : Console}
    (h : (s.link c).alertWaiting = false ∨ (s.link c).sending = true ∨ (s.link c).restartPending = true ∧ (s.link c).queue = []) :
    s.sendAlert c = s := by
  unfold State.sendAlert
  exact if_neg (by rcases h with h | h | ⟨hr, hq⟩ <;> simp [*])

theorem State.finishResponse_of_sending {s : State} {c : Console} (h : (s.link c).sending = true) :
    s.finishResponse c = s.setLink c { s.link c with queue := (s.link c).queue.tail, sending := false } := by
  unfold State.finishResponse
  rw [State.startResponse_of_sending h]; rfl

/-- A reset is not due while no RESTART is pending, or while one of the two links still has responses to send (R178). -/
theorem State.restartDue_false {s : State} {c : Console}
    (h : (∀ d, (s.link d).restartPending = false) ∨ (s.link c).restartPending = true ∧ (s.link c).queue ≠ [] ∨
      (s.link (otherConsole c)).restartPending = true ∧ (s.link (otherConsole c)).queue ≠ []) : s.restartDue = false := by
  rw [Bool.eq_false_iff, ne_eq, State.restartDue_iff s c]
  rintro ⟨pending, own, other⟩
  rcases h with none | ⟨p, q⟩ | ⟨p, q⟩
  · simp [none] at pending
  · exact q (own p)
  · exact q (other p)

/-- The flags byte of R171. -/
theorem State.flagsByte_eq (s : State) (c : Console) :
    s.flagsByte c = (if (s.link c).overrun = true then 1 else 0) + (if (s.notice c).entries = [] then 0 else 2) := by
  unfold State.flagsByte
  cases (s.notice c).entries <;> simp [markBits]

/-- Settles O26. -/
theorem responsesAndAlertsAreSent : Obligations.ResponsesAndAlertsAreSent := by
  unfold Obligations.ResponsesAndAlertsAreSent
  intro s c h u
  have running := State.whenRunning_of_running h
  refine ⟨fun r rest hq hs => ?_, fun idle => ?_, fun r rest hq hs waits => ?_, fun hq => ?_, fun ha hs hr => ?_, fun none => ?_⟩
  · refine congrArg Host.Outcome.next ((running _).trans ((State.startResponse_of_waiting hq hs).trans ?_))
    unfold State.responsePayload
    rw [State.flagsByte_eq]; rfl
  · exact congrArg Host.Outcome.next ((running _).trans (idle.elim State.startResponse_of_empty State.startResponse_of_sending))
  · have sent : s.finishResponse c = s.setLink c { u with queue := rest, sending := false } := by
      rw [State.finishResponse_of_sending hs, hq]; rfl
    have notDue : (s.setLink c { u with queue := rest, sending := false }).restartDue = false := by
      refine State.restartDue_false (c := c) ?_
      rw [State.setLink_link_same, State.setLink_link, if_neg (otherConsole_ne c)]
      refine waits.imp_left fun none d => ?_
      rw [State.setLink_link]; split
      · exact none c
      · exact none d
    refine congrArg Host.Outcome.next ((running _).trans ?_)
    unfold State.responseLeaves
    rw [sent, if_neg (by simp [show (s.link c).queue = r :: rest from hq]), if_neg (by simp [notDue])]
  · exact congrArg Host.Outcome.next ((running _).trans (if_pos (by simpa using hq)))
  · exact congrArg Host.Outcome.next ((running _).trans (State.sendAlert_of_waiting ha hs hr))
  · exact congrArg Host.Outcome.next ((running _).trans (State.sendAlert_of_none none))

end Sys2Proof.Machine

/-! The commands on the part, a link and a console's own record, and the images they answer with. -/

namespace Sys2Proof.Machine

/-! ### A command on a link that is ready -/

/-- A command's row on a link that is ready: its outcome from the state that heard the frame, and its response (R168). -/
theorem exec_of_ready {s t : State} {c : Console} {i : Instr} {q : Request} {r : Response} (hi : i.request? = some (c, q))
    (hs : s.readyFor c) (h : runRequest c q (s.heard c) = (t, r)) : exec i s = .next (t.replied c r) :=
  (exec_request hi s).trans (congrArg Host.Outcome.next (State.goodFrame_of_ready hs h))

@[simp] theorem State.heard_port (s : State) (c : Console) (p : PortId) : (s.heard c).port p = s.port p := rfl
@[simp] theorem State.heard_notice (s : State) (c d : Console) : (s.heard c).notice d = s.notice d := rfl

theorem State.heard_console (s : State) (c : Console) :
    (s.heard c).console c = { s.console c with link := .up, silence := (s.console c).supervision * 1000 } :=
  State.setConsole_console_same _ _ _

/-! ### Port numbers -/

theorem portOf?_portNumber (p : PortId) : portOf? (portNumber p) = some p := by
  have hp : 1 ≤ portNumber p ∧ portNumber p ≤ 16 := ⟨Nat.succ_pos _, p.isLt⟩
  unfold portOf?
  rw [dif_pos hp]
  rfl

theorem portOf?_outOfRange {k : Nat} (h : k = 0 ∨ 16 < k) : portOf? k = none := by
  unfold portOf?
  rw [dif_neg (by omega)]

@[simp] theorem State.onPort_portNumber (s : State) (p : PortId) (r : Response) (act : PortId → State × Response) :
    s.onPort (portNumber p) r act = act p := by
  unfold State.onPort; rw [portOf?_portNumber]

theorem State.onPort_outOfRange {k : Nat} (h : k = 0 ∨ 16 < k) (s : State) (r : Response) (act : PortId → State × Response) :
    s.onPort k r act = (s, r) := by
  unfold State.onPort; rw [portOf?_outOfRange h]

/-! ### Queries -/

theorem State.unitImage_heard (s : State) (c : Console) : (s.heard c).unitImage =
    [0x49#8, 0x57#8, 0x32#8, 0x34#8, 0x31#8, 0x36#8, 1#8, byteOf s.resetCause.code, byteOf s.patchesInUse.length,
      byteOf ((if ((s.heard c).console .A).link = .lost then 1 else 0) + (if ((s.heard c).console .B).link = .lost then 2 else 0))] := by
  have states : (s.heard c).linkStatesByte =
      (if ((s.heard c).console .A).link = .lost then 1 else 0) + (if ((s.heard c).console .B).link = .lost then 2 else 0) := by
    unfold State.linkStatesByte
    cases ((s.heard c).console .A).link <;> cases ((s.heard c).console .B).link <;> rfl
  unfold State.unitImage
  rw [states]
  rfl

theorem sourceCode_eq (o : Option Source) : sourceCode o = match o with | none => 0 | some src => sourceNumber src := by
  cases o <;> rfl

theorem ownerCode_eq (o : Option Console) : ownerCode o = match o with | none => 0 | some .A => 17 | some .B => 18 := by
  rcases o with _ | _ | _ <;> rfl

theorem slotCode_eq (o : Option SlotId) : slotCode o = match o with | none => 0 | some n => n.val + 1 := by
  cases o <;> rfl

theorem PatchRec.ownershipByte_eq (r : PatchRec) : r.ownershipByte =
    (match r.owner with | none => 0 | some .A => 17 | some .B => 18) + (if r.shared then 128 else 0) := by
  unfold PatchRec.ownershipByte
  rw [ownerCode_eq]
  cases r.shared <;> rfl

theorem State.summaryEntry_eq (s : State) (n : SlotId) : s.summaryEntry n =
    [byteOf (slotNumber n), byteOf (s.patch n).state.code,
      byteOf ((match (s.patch n).owner with | none => 0 | some .A => 17 | some .B => 18) + (if (s.patch n).shared then 128 else 0)),
      byteOf (s.patch n).members.length, byteOf (match (s.patch n).talker with | none => 0 | some src => sourceNumber src)] := by
  unfold State.summaryEntry
  rw [PatchRec.ownershipByte_eq, sourceCode_eq]
  rfl

theorem doQueryPatch_slotNumber (s : State) (n : SlotId) : doQueryPatch (slotNumber n) s =
    if (s.patch n).state = .unused then (s, refuse .noSuchPatch) else (s, ok (s.patchImage n)) := by
  unfold doQueryPatch
  simp only [State.onPatch_slotNumber, State.checked_cons, State.checked_nil, PatchRec.not_inUse_iff]

/-- Settles O28: each query answers from the state that heard its frame. -/
theorem queriesChangeNothing : Obligations.QueriesChangeNothing := by
  unfold Obligations.QueriesChangeNothing
  intro s c hs h
  refine ⟨exec_of_ready rfl hs (congrArg (fun l => (h, ok l)) (s.unitImage_heard c)), fun p => exec_of_ready rfl hs (State.onPort_portNumber h p _ _),
    fun k hk => exec_of_ready rfl hs (State.onPort_outOfRange hk h _ _), fun n used => exec_of_ready rfl hs ?_,
    fun n unused => exec_of_ready rfl hs ?_, fun k hk => exec_of_ready rfl hs (State.onPatch_outOfRange hk h _ _), exec_of_ready rfl hs ?_⟩
  · exact (doQueryPatch_slotNumber h n).trans (if_neg used)
  · exact (doQueryPatch_slotNumber h n).trans (if_pos unused)
  · have entries : h.summaryEntry = s.summaryEntry := rfl
    show (h, ok h.summary) = _
    unfold State.summary
    rw [entries, funext s.summaryEntry_eq]
    rfl

/-! ### RESTART and SET LINK -/

/-- Settles O30. -/
theorem restartIsPending : Obligations.RestartIsPending := by
  unfold Obligations.RestartIsPending
  intro s c hs
  refine ⟨fun may => ?_, fun hc up => ?_, fun i r t run queue pending hi => ?_⟩
  · have allowed : ¬ (c = .B ∧ ((s.heard c).console .A).link = .up) := by
      rintro ⟨rfl, up⟩
      have lost : (s.console .A).link = .lost := may.resolve_left (by decide)
      rw [State.heard_console_of_ne s (by decide), lost] at up
      cases up
    have restarted : ({ (s.heard c).modLink c (fun u => { u with restartPending := true }) with
        restartFirst := some ((s.heard c).restartFirst.getD c) } : State).replied c (ok []) =
        { (s.heard c).modLink c (fun u => { u with restartPending := true, queue := u.queue ++ [⟨.ok, []⟩] }) with
          restartFirst := some (s.restartFirst.getD c) } := by cases c <;> rfl
    exact (exec_of_ready (i := .restart c) (q := .restart) rfl hs (if_neg allowed)).trans (congrArg Host.Outcome.next restarted)
  · subst hc
    exact exec_of_ready rfl hs (if_pos ⟨rfl, (congrArg ConsoleRec.link (State.heard_console_of_ne s (by decide))).trans up⟩)
  · exact (exec_request hi t).trans (congrArg Host.Outcome.next (State.goodFrame_of_pending run queue pending _))

theorem ConsoleRec.superviseFor_eq (r : ConsoleRec) (v : Option Nat) : r.superviseFor v = { r with
    supervision := match v with | some k => min k 60 | none => r.supervision
    silence := match v with | some k => min k 60 * 1000 | none => r.silence } := by cases v <;> rfl

theorem NoticeUnit.maskWith_eq (u : NoticeUnit) (m : Option Byte) : u.maskWith m = { u with
    mask := match m with | some b => b ||| 0x80#8 | none => u.mask
    entries := match m with
      | some b => u.entries.filter (fun e => (b ||| 0x80#8).getLsbD (e.kind.code - 1))
      | none => u.entries } := by cases m <;> rfl

theorem clampedBy_iff (k : Nat) (v : Option Nat) : clampedBy k v = true ↔ ∃ x, v = some x ∧ k < x := by
  cases v <;> simp [clampedBy]

theorem okOrClamped_eq {clamped : Bool} {P : Prop} [Decidable P] (h : clamped = true ↔ P) (data : List Byte) :
    okOrClamped clamped data = ⟨if P then .clamped else .ok, data⟩ :=
  congrArg (fun st => (⟨st, data⟩ : Response)) (if_congr h rfl rfl)

/-- Settles O31. -/
theorem setLinkStores : Obligations.SetLinkStores := by
  unfold Obligations.SetLinkStores
  intro s c v m hs h time mask
  have supervision : (h.console c).supervision = (s.console c).supervision := by rw [s.heard_console c]
  refine exec_of_ready rfl hs ?_
  show doSetLink c v m h = _
  unfold doSetLink State.modConsole State.modNotice
  dsimp only
  rw [ConsoleRec.superviseFor_eq, State.setConsole_notice, NoticeUnit.maskWith_eq, supervision,
    okOrClamped_eq (clampedBy_iff maxSupervision v), State.setNotice_notice_same, State.setNotice_console, State.setConsole_console_same]
  rfl

/-! ### READ NOTICE -/

theorem Notice.before_iff (a b : Notice) :
    a.before b = true ↔ a.kind.code < b.kind.code ∨ a.kind.code = b.kind.code ∧ a.subject < b.subject := by
  simp [Notice.before]

/-- Entry a is read before b or in its place: its kind is higher, or the same with a subject not above (R182). -/
def Notice.first (a b : Notice) : Prop := a.kind.code < b.kind.code ∨ a.kind.code = b.kind.code ∧ a.subject ≤ b.subject

theorem Notice.first_trans {a b c : Notice} (h : a.first b) (k : b.first c) : a.first c := by
  unfold Notice.first at *; omega

theorem Notice.first_of_before {a b : Notice} (h : a.before b = true) : a.first b := by
  rw [Notice.before_iff] at h; unfold Notice.first; omega

theorem Notice.first_of_not_before {a b : Notice} (h : ¬ a.before b = true) : b.first a := by
  rw [Notice.before_iff] at h; unfold Notice.first; omega

theorem highestNotice_ne_none {l : List Notice} (h : l ≠ []) : ∃ e, highestNotice l = some e := by
  cases l with
  | nil => exact absurd rfl h
  | cons a l => unfold highestNotice; split <;> exact ⟨_, rfl⟩

/-- The entry taken is first among all (R182). -/
theorem highestNotice_first {l : List Notice} {h : Notice} (e : highestNotice l = some h) : ∀ x ∈ l, h.first x := by
  induction l generalizing h with
  | nil => cases e
  | cons a l ih =>
    have self (b : Notice) : b.first b := .inr ⟨rfl, le_rfl⟩
    unfold highestNotice at e
    cases hl : highestNotice l with
    | none =>
      rw [hl] at e
      obtain rfl : l = [] := by_contra fun hne => by obtain ⟨x, hx⟩ := highestNotice_ne_none hne; simp [hx] at hl
      cases e
      exact List.forall_mem_singleton.mpr (self a)
    | some b =>
      rw [hl] at e
      obtain rfl := Option.some.inj e
      refine List.forall_mem_cons.mpr ?_
      split
      · rename_i hb; exact ⟨Notice.first_of_before hb, ih hl⟩
      · rename_i hb; exact ⟨self a, fun x hx => Notice.first_trans (Notice.first_of_not_before hb) (ih hl x hx)⟩

theorem doReadNotice_of {s : State} {c : Console} {o : Option Notice} {u : NoticeUnit} (h : highestNotice (s.notice c).entries = o)
    (hu : (s.notice c).readOne = u) : doReadNotice c s =
      (s.setNotice c u, ok (noticeBytes o ++ [byteOf (if (s.notice c).overflow = true then 1 else 0), byteOf u.entries.length])) := by
  unfold doReadNotice State.modNotice
  dsimp only
  rw [State.setNotice_notice_same, h, hu, List.append_assoc]
  cases (s.notice c).overflow <;> rfl

/-- Settles O32. -/
theorem readNoticeTakesTheHighest : Obligations.ReadNoticeTakesTheHighest := by
  unfold Obligations.ReadNoticeTakesTheHighest
  intro s c hs u flag
  refine ⟨fun none => ?_, fun some => ?_⟩
  · have highest : highestNotice u.entries = .none := by rw [none]; rfl
    have read : u.readOne = { u with overflow := false } := by unfold NoticeUnit.readOne; rw [highest]
    rw [exec_of_ready (i := .readNotice c) (q := .readNotice) rfl hs (doReadNotice_of (s := s.heard c) highest read)]
    rw [none]; rfl
  · obtain ⟨e, highest⟩ := highestNotice_ne_none some
    have read : u.readOne = { u with entries := u.entries.erase e, overflow := false } := by unfold NoticeUnit.readOne; rw [highest]
    refine ⟨e, highestNotice_mem highest, highestNotice_first highest, ?_⟩
    rw [exec_of_ready (i := .readNotice c) (q := .readNotice) rfl hs (doReadNotice_of (s := s.heard c) highest read), List.length_erase_of_mem (highestNotice_mem highest)]
    rfl

end Sys2Proof.Machine

/-! The images of R174 to R176 byte by byte, and what an audio frame puts in the output slots. -/

namespace Sys2Proof.Machine

/-! ### Bytes of the images -/

theorem PortRec.linesByte_eq (r : PortRec) :
    r.linesByte = (if r.filteredCor then 1 else 0) + (if r.filteredEmg then 2 else 0) + (if r.txsPin = .low then 4 else 0) := by
  unfold PortRec.linesByte PortRec.txsActive
  cases r.filteredCor <;> cases r.filteredEmg <;> cases r.txsPin <;> rfl

theorem PatchRec.modeStyleByte_eq (r : PatchRec) :
    r.modeStyleByte = (if r.mode = .rehearse then 1 else 0) + (if r.style = .mix then 2 else 0) := by
  unfold PatchRec.modeStyleByte
  cases r.mode <;> cases r.style <;> rfl

theorem State.portImage_eq (s : State) (p : PortId) : let r := s.port p
    s.portImage p = [byteOf (p.val + 1), byteOf r.cfg.kind.code, byteOf r.cfg.corPolarity.code,
      byteOf (if r.cfg.glitchFilter then 1 else 0), byteOf (r.cfg.qualifyTime / 256), byteOf r.cfg.qualifyTime,
      byteOf (r.cfg.dropTime / 256), byteOf r.cfg.dropTime, byteOf (r.cfg.keyUpDelay / 256), byteOf r.cfg.keyUpDelay,
      byteOf (r.cfg.turnaround / 256), byteOf r.cfg.turnaround, byteOf r.cfg.basePriority,
      byteOf (if r.cfg.transmitSense then 1 else 0), byteOf r.cfg.emgMode.code, byteOf (r.cfg.receiveTrim / 256),
      byteOf r.cfg.receiveTrim, byteOf (r.cfg.transmitTrim / 256), byteOf r.cfg.transmitTrim,
      byteOf (match r.patch with | none => 0 | some n => n.val + 1), byteOf r.state.code, byteOf r.carrier.code,
      byteOf (if r.emergency then 1 else 0), byteOf (if r.fault then 1 else 0), byteOf (r.guardLeft / 256), byteOf r.guardLeft,
      byteOf (r.lockoutLeft / 65536), byteOf (r.lockoutLeft / 256), byteOf r.lockoutLeft,
      byteOf (match r.reservedBy with | none => 0 | some .A => 17 | some .B => 18),
      byteOf (if r.emergency then 8 else r.cfg.basePriority),
      byteOf ((if r.filteredCor then 1 else 0) + (if r.filteredEmg then 2 else 0) + (if r.txsPin = .low then 4 else 0))] := by
  unfold State.portImage
  simp only [slotCode_eq, ownerCode_eq, PortRec.linesByte_eq, putByte, putWord, putThree, PortSettings.block, flagCode, PortRec.priority, Config.emergencyPriority, portNumber,
    List.cons_append, List.nil_append] <;> rfl

/-- The data of SET PORT are the image's first nineteen bytes (R173, R174). -/
theorem State.settingsImage_eq (s : State) (p : PortId) : s.settingsImage p = (s.portImage p).take 19 := by
  have split : ∃ rest, s.portImage p = s.settingsImage p ++ rest := by
    unfold State.portImage State.settingsImage
    exact ⟨_, by simp only [List.append_assoc]; rfl⟩
  obtain ⟨rest, e⟩ := split
  have length : (s.settingsImage p).length = 19 := rfl
  rw [e, ← length, List.take_left]

theorem flatMap_putByte {α : Type} (f : α → Nat) (l : List α) : l.flatMap (fun x => putByte (f x)) = l.map (fun x => byteOf (f x)) :=
  (List.map_eq_flatMap (f := fun x => byteOf (f x)) (l := l)).symm

theorem State.patchImage_eq (s : State) (n : SlotId) : let r := s.patch n
    s.patchImage n = [byteOf (n.val + 1), byteOf r.state.code,
      byteOf ((match r.owner with | none => 0 | some .A => 17 | some .B => 18) + (if r.shared then 128 else 0)),
      byteOf ((if r.mode = .rehearse then 1 else 0) + (if r.style = .mix then 2 else 0)), byteOf r.threshold,
      byteOf (r.level / 256), byteOf r.level, byteOf (r.hangTime / 256), byteOf r.hangTime,
      byteOf (r.timeOutLimit / 256), byteOf r.timeOutLimit, byteOf r.lockoutTime, byteOf r.label.length] ++ r.label ++
      [byteOf r.members.length] ++ r.members.map (fun p => byteOf (p.val + 1)) ++
      [byteOf (match r.talker with | none => 0 | some src => sourceNumber src),
        byteOf (match r.partner with | none => 0 | some .A => 17 | some .B => 18), byteOf r.bids.length] ++
      r.bids.map (fun src => byteOf (sourceNumber src)) ++
      [byteOf (r.hangLeft / 256), byteOf r.hangLeft, byteOf (r.elapsed / 1000 / 256), byteOf (r.elapsed / 1000)] := by
  unfold State.patchImage
  simp only [flatMap_putByte, PatchRec.ownershipByte_eq, PatchRec.modeStyleByte_eq, sourceCode_eq, ownerCode_eq]
  simp only [putByte, putWord, putLabelBytes, portNumber, slotNumber, List.append_assoc, List.cons_append, List.nil_append]
    <;> rfl

theorem State.conditionsImage_eq (s : State) (p : PortId) : let r := s.port p
    s.conditionsImage p = [byteOf (if r.emergency then 1 else 0), byteOf (if r.fault then 1 else 0),
      byteOf (r.lockoutLeft / 65536), byteOf (r.lockoutLeft / 256), byteOf r.lockoutLeft] := rfl

theorem State.reservationImage_eq (s : State) (p : PortId) : let r := s.port p
    s.reservationImage p = [byteOf (p.val + 1), byteOf r.state.code,
      byteOf (match r.reservedBy with | none => 0 | some .A => 17 | some .B => 18),
      byteOf (match r.patch with | none => 0 | some n => n.val + 1)] := by
  unfold State.reservationImage
  rw [slotCode_eq, ownerCode_eq]
  rfl

theorem PatchRec.settingsBlock_eq (r : PatchRec) :
    r.settingsBlock = [byteOf r.label.length] ++ r.label ++
      [byteOf ((if r.mode = .rehearse then 1 else 0) + (if r.style = .mix then 2 else 0)), byteOf r.threshold,
        byteOf (r.level / 256), byteOf r.level, byteOf (r.hangTime / 256), byteOf r.hangTime,
        byteOf (r.timeOutLimit / 256), byteOf r.timeOutLimit, byteOf r.lockoutTime] := by
  unfold PatchRec.settingsBlock
  rw [PatchRec.modeStyleByte_eq]
  simp [putByte, putWord, putLabelBytes]

/-! ### A console's image and standing -/

theorem ConsoleRec.request_iff (r : ConsoleRec) : r.request = true ↔ r.link = .up ∧ r.filteredPtt = true ∨ r.seize = true := by
  simp [ConsoleRec.request]

/-- A word with one bit for each of k records is the sum of the bits that are set. -/
theorem markBits_finRange (k : Nat) (f : Fin k → Bool) :
    markBits ((List.finRange k).map f) = (((List.finRange k).filter f).map (fun i => 2 ^ i.val)).sum := by
  induction k with
  | zero => rfl
  | succ k ih =>
    have rest : ((((List.finRange k).map Fin.succ).filter f).map (fun i => 2 ^ i.val)).sum =
        2 * (((List.finRange k).filter (f ∘ Fin.succ)).map (fun i => 2 ^ i.val)).sum := by
      rw [List.filter_map, List.map_map, ← List.sum_map_mul_left]
      exact congrArg List.sum (List.map_congr_left fun i _ => by simp [Nat.pow_succ, Nat.mul_comm])
    rw [List.finRange_succ, List.map_cons, List.map_map, markBits, ih, List.filter_cons]
    cases f 0 <;> simp [rest]

theorem State.reservedWord_eq (s : State) (c : Console) :
    s.reservedWord c = ((allPorts.filter (fun p => (s.port p).reservedBy == some c)).map (fun p => 2 ^ p.val)).sum := by
  unfold State.reservedWord
  rw [allPorts_eq_finRange]
  exact markBits_finRange 16 _

theorem Target.kindCode_eq (t : Target) : t.kindCode = match t with | .none => 0 | .patch _ => 1 | .port _ => 2 := by cases t <;> rfl
theorem Target.number_eq (t : Target) : t.number = match t with | .none => 0 | .patch n => n.val + 1 | .port p => p.val + 1 := by
  cases t <;> rfl

theorem ConsoleRec.requestByte_eq (r : ConsoleRec) : r.requestByte =
    (if r.filteredPtt then 1 else 0) + (if r.seize then 2 else 0) + (if r.link = .up ∧ r.filteredPtt = true ∨ r.seize = true then 4 else 0) := by
  unfold ConsoleRec.requestByte ConsoleRec.request
  cases r.filteredPtt <;> cases r.seize <;> cases r.link <;> rfl

theorem State.consoleImage_eq (s : State) (c : Console) : let r := s.console c
    let reserved := ((allPorts.filter (fun p => (s.port p).reservedBy == some c)).map (fun p => 2 ^ p.val)).sum
    s.consoleImage c = [byteOf r.link.code, byteOf r.supervision, byteOf (r.silence / 256), byteOf r.silence] ++ s.standingBlock c ++
      [byteOf (r.micTrim / 256), byteOf r.micTrim, byteOf (r.sidetone / 256), byteOf r.sidetone, byteOf (reserved / 256),
        byteOf reserved, byteOf r.listen.length] ++
      r.listen.flatMap (fun e => [byteOf (e.patch.val + 1), byteOf (e.level / 256), byteOf e.level]) := by
  unfold State.consoleImage ConsoleRec.listenImage
  rw [State.reservedWord_eq]
  simp only [putByte, putWord, List.append_assoc, List.cons_append, List.nil_append]
  rfl

theorem State.standingBlock_eq (s : State) (c : Console) : let r := s.console c
    s.standingBlock c = [
      byteOf ((if r.filteredPtt then 1 else 0) + (if r.seize then 2 else 0) +
        (if r.link = .up ∧ r.filteredPtt = true ∨ r.seize = true then 4 else 0)),
      byteOf (match r.target with | .none => 0 | .patch _ => 1 | .port _ => 2),
      byteOf (match r.target with | .none => 0 | .patch n => n.val + 1 | .port p => p.val + 1), byteOf (s.standing c).code] := by
  unfold State.standingBlock
  rw [ConsoleRec.requestByte_eq, Target.kindCode_eq, Target.number_eq]
  rfl

theorem State.standing_of_idle {s : State} {c : Console} (h : (s.console c).request = false ∨ (s.console c).target = .none) :
    s.standing c = .idle := by
  unfold State.standing
  rcases h with h | h <;> simp [h]

theorem State.standing_of_patch {s : State} {c : Console} {n : SlotId} (h : (s.console c).request = true)
    (ht : (s.console c).target = .patch n) : s.standing c = (s.patch n).standingOf c := by
  unfold State.standing; rw [h, ht]; rfl

theorem State.standing_of_port {s : State} {c : Console} {p : PortId} (h : (s.console c).request = true)
    (ht : (s.console c).target = .port p) : s.standing c =
      if (s.port p).parkedKeyed then .portKeyed
      else if (s.port p).cfg.kind = .listenOnly ∨ (s.port p).fault then .portWaiting else .unstated := by
  unfold State.standing; rw [h, ht]; rfl

/-- Settles O29, image by image. -/
theorem imagesHoldTheRecords : Obligations.ImagesHoldTheRecords := by
  unfold Obligations.ImagesHoldTheRecords
  refine ⟨by decide, fun s => ⟨s.portImage_eq, s.patchImage_eq, fun p => ⟨s.settingsImage_eq p, s.conditionsImage_eq p, s.reservationImage_eq p⟩,
    fun n => (s.patch n).settingsBlock_eq, fun c => ?_⟩⟩
  intro r active reserved standing
  have block := s.standingBlock_eq c
  have last : standing = some (byteOf (s.standing c).code) := congrArg (·[3]?) block
  refine ⟨s.consoleImage_eq c, congrArg List.length block, congrArg (List.take 3) block, fun idle => ?_, fun n act ht => ?_,
    fun p act ht => ?_⟩
  · rw [last, State.standing_of_idle (idle.imp_left fun h => Bool.eq_false_iff.mpr (mt (ConsoleRec.request_iff _).mp h))]; rfl
  · rw [last, State.standing_of_patch ((ConsoleRec.request_iff _).mpr act) ht]
    unfold PatchRec.standingOf
    refine ⟨fun talks => ?_, fun no partner => ?_, fun no noPartner => ⟨fun listed => ?_, fun closing unlisted => ?_⟩⟩
    · rw [if_pos talks]; rfl
    · rw [if_neg no, if_pos partner]; rfl
    · rw [if_neg no, if_neg noPartner, if_pos (List.contains_iff_mem.mpr listed)]; rfl
    · rw [if_neg no, if_neg noPartner, if_neg (mt List.contains_iff_mem.mp unlisted), if_pos closing]; rfl
  · rw [last, State.standing_of_port ((ConsoleRec.request_iff _).mpr act) ht]
    refine ⟨fun keyed => ?_, fun parked waits => ?_⟩
    · rw [if_pos (by rcases keyed with e | e <;> simp [PortRec.parkedKeyed, e])]; rfl
    · rw [if_neg (by simp [PortRec.parkedKeyed, parked]), if_pos waits]; rfl

/-! ### AUDIO_FRAME -/

theorem State.sourceTrim_eq (s : State) (src : Source) :
    s.sourceTrim src = match src with | .port p => (s.port p).cfg.receiveTrim | .console c => (s.console c).micTrim := by
  cases src <;> rfl

theorem State.portTerms_of_silent {s : State} {d : PortId} (h : (s.port d).state ≠ .relay) (h' : (s.port d).state ≠ .parkedRelay) :
    s.portTerms d = [] := by
  unfold State.portTerms
  cases e : (s.port d).state <;> simp_all

theorem State.portTerms_of_relay {s : State} {d : PortId} {n : SlotId} (h : (s.port d).state = .relay) (hp : (s.port d).patch = some n) :
    s.portTerms d = (s.patch n).sources.map (fun src => term (s.sample src) (s.relayGain n d src)) := by
  unfold State.portTerms State.relayTerms
  rw [h, hp]

theorem State.portTerms_of_parkedRelay {s : State} {d : PortId} {c : Console} (h : (s.port d).state = .parkedRelay)
    (hc : (s.port d).reservedBy = some c) : s.portTerms d =
      [term (s.sample (.console c)) (compose (s.console c).micTrim (s.port d).cfg.transmitTrim)] := by
  unfold State.portTerms State.parkedTerms
  rw [h, hc]

theorem mem_allSlots (n : SlotId) : n ∈ allSlots := by revert n; decide

/-- A patch carries a console as its talker or its mix partner (R157). -/
theorem PatchRec.mem_sources_console (r : PatchRec) (c : Console) :
    .console c ∈ r.sources ↔ r.talker = some (.console c) ∨ r.partner = some c := by
  simp [PatchRec.sources]

theorem State.onAir_iff (s : State) (c : Console) : s.onAir c = true ↔
    (∃ n : SlotId, (s.patch n).talker = some (.console c) ∨ (s.patch n).partner = some c) ∨
      (∃ p : PortId, (s.console c).target = .port p ∧ (s.port p).state = .parkedRelay) := by
  have talks : allSlots.any (fun n => (s.patch n).sources.contains (.console c)) = true ↔
      ∃ n : SlotId, (s.patch n).talker = some (.console c) ∨ (s.patch n).partner = some c := by
    simp [List.any_eq_true, mem_allSlots, PatchRec.mem_sources_console]
  unfold State.onAir
  rw [Bool.or_eq_true, talks]
  cases (s.console c).target <;> simp

/-- Settles O23: each slot by the case of its record. -/
theorem audioFrameMixes : Obligations.AudioFrameMixes := by
  unfold Obligations.AudioFrameMixes
  intro s x h
  refine ⟨_, exec_audioFrame h x, rfl, fun d off off' => ?_, fun d n relay patch => ?_, fun d c relay reserved => ?_, fun c => ?_⟩
  · exact (State.frame_port s x d).trans (congrArg slotSample (State.portTerms_of_silent (s := { s with inputs := x }) off off'))
  · refine (State.frame_port s x d).trans (congrArg slotSample
      ((State.portTerms_of_relay (s := { s with inputs := x }) relay patch).trans ?_))
    exact List.map_congr_left fun src _ => by cases src <;> rfl
  · exact (State.frame_port s x d).trans
      (congrArg slotSample (State.portTerms_of_parkedRelay (s := { s with inputs := x }) relay reserved))
  · rw [State.frame_console]
    have listened : ∀ e, ({ s with inputs := x } : State).listenTerms c e = _ := fun e => by
      unfold State.listenTerms
      exact List.map_congr_left fun src _ => by rw [State.sourceTrim_eq]
    unfold State.consoleTerms State.sidetoneTerms
    rw [funext listened, if_congr (State.onAir_iff _ c) rfl rfl]
    rfl

end Sys2Proof.Machine

/-! Payloads read and written (R168, R173): each reader takes back what its writer put, so the payload of a well-formed command reads as
that command. -/

namespace Sys2Proof

/-! ### Numbers in bytes -/

theorem byteOf_toNat {n : Nat} (h : isByte n = true) : (byteOf n).toNat = n := by
  simp only [isByte, decide_eq_true_eq] at h
  simp [byteOf, Nat.mod_eq_of_lt h]

theorem takeByte_byteOf {n : Nat} (h : isByte n = true) (bs : List Byte) : takeByte (byteOf n :: bs) = some (n, bs) :=
  congrArg (fun k => some (k, bs)) (byteOf_toNat h)

theorem takeByte_putByte {n : Nat} (h : isByte n = true) (bs : List Byte) : takeByte (putByte n ++ bs) = some (n, bs) :=
  takeByte_byteOf h bs

theorem takeWord_putWord {n : Nat} (h : isWord n = true) (bs : List Byte) : takeWord (putWord n ++ bs) = some (n, bs) := by
  simp only [isWord, decide_eq_true_eq] at h
  have high : (byteOf (n / 256)).toNat = n / 256 := byteOf_toNat (by simp [isByte]; omega)
  have low : (byteOf n).toNat = n % 256 := by simp [byteOf]
  simp only [putWord, List.cons_append, List.nil_append, takeWord, high, low]
  congr 2
  omega

theorem takeMarked_putMarked {take : List Byte → Option (Nat × List Byte)} {put : Nat → List Byte} {fits : Nat → Bool}
    (hp : ∀ n bs, fits n = true → take (put n ++ bs) = some (n, bs)) {o : Option Nat} (h : o.all fits = true) (bs : List Byte) :
    takeMarked o.isSome take (putMarked put o ++ bs) = some (o, bs) := by
  cases o with
  | none => rfl
  | some n => simp [takeMarked, putMarked, hp n bs h]

theorem takeMarked_byte {o : Option Nat} (h : optByte o = true) (bs : List Byte) :
    takeMarked o.isSome takeByte (putMarked putByte o ++ bs) = some (o, bs) :=
  takeMarked_putMarked (fun _ bs h => takeByte_putByte h bs) h bs

theorem takeMarked_word {o : Option Nat} (h : optWord o = true) (bs : List Byte) :
    takeMarked o.isSome takeWord (putMarked putWord o ++ bs) = some (o, bs) :=
  takeMarked_putMarked (fun _ bs h => takeWord_putWord h bs) h bs

theorem takeCounted_putCounted {l : List Byte} (h : l.length < 256) (bs : List Byte) :
    takeCounted (putCounted l ++ bs) = some (l, bs) := by
  unfold takeCounted putCounted
  rw [List.cons_append, takeByte_byteOf (by simpa [isByte] using h)]
  simp [takeMany]

theorem takeLabel_putLabel {o : Option (List Byte)} (h : ∀ l, o = some l → l.length < 256) (bs : List Byte) :
    takeLabel o.isSome (putLabel o ++ bs) = some (o, bs) := by
  cases o with
  | none => rfl
  | some l => simp [takeLabel, putLabel, takeCounted_putCounted (h l rfl) bs]

theorem takeEntries_putEntries {es : List ListenArg} (h : es.all (fun e => isByte e.patch && isWord e.level) = true) :
    takeEntries es.length (es.flatMap putEntry) = some (es, []) := by
  induction es with
  | nil => rfl
  | cons e es ih =>
    simp only [List.all_cons, Bool.and_eq_true] at h
    obtain ⟨⟨patch, level⟩, rest⟩ := h
    simp only [List.flatMap_cons, List.length_cons, takeEntries, putEntry, List.append_assoc, takeByte_putByte patch,
      takeWord_putWord level, ih rest, Option.bind_some, Option.map_some]

theorem map_toNat_byteOf {ps : List Nat} (h : ps.all isByte = true) : (ps.map byteOf).map BitVec.toNat = ps := by
  rw [List.map_map]
  exact (List.map_congr_left fun n hn => byteOf_toNat (List.all_eq_true.mp h n hn)).trans (List.map_id ps)

/-! ### Selections -/

theorem markBits_lt (l : List Bool) : markBits l < 2 ^ l.length := by
  induction l with
  | nil => decide
  | cons b l ih => rw [markBits, List.length_cons, Nat.pow_succ]; split <;> omega

theorem markBits_testBit (l : List Bool) (i : Nat) : (markBits l).testBit i = l.getD i false := by
  induction l generalizing i with
  | nil => simp [markBits]
  | cons b l ih =>
    cases i with
    | zero => cases b <;> simp [markBits, Nat.testBit_zero, Nat.add_mod]
    | succ i => rw [Nat.testBit_succ, List.getD_cons_succ, ← ih i]; congr 1; rw [markBits]; split <;> omega

section
variable {β : Type} {m : Bool} {o : Option Nat} (f : Option Nat × List Byte → Option β)

/-- A marked item read back, and the reading that goes on behind it. -/
theorem bind_takeMarked_byte (hm : m = o.isSome) (h : optByte o = true) (bs : List Byte) :
    (takeMarked m takeByte (putMarked putByte o ++ bs) >>= f) = f (o, bs) := by rw [hm, takeMarked_byte h]; rfl

theorem bind_takeMarked_word (hm : m = o.isSome) (h : optWord o = true) (bs : List Byte) :
    (takeMarked m takeWord (putMarked putWord o ++ bs) >>= f) = f (o, bs) := by rw [hm, takeMarked_word h]; rfl

theorem bind_takeByte {n : Nat} (f : Nat × List Byte → Option β) (h : isByte n = true) (bs : List Byte) :
    (takeByte (byteOf n :: bs) >>= f) = f (n, bs) := by rw [takeByte_byteOf h]; rfl

theorem bind_takeWord {n : Nat} (f : Nat × List Byte → Option β) (h : isWord n = true) (bs : List Byte) :
    (takeWord (putWord n ++ bs) >>= f) = f (n, bs) := by rw [takeWord_putWord h]; rfl

theorem bind_takeCounted {l : List Byte} (f : List Byte × List Byte → Option β) (h : l.length < 256) (bs : List Byte) :
    (takeCounted (putCounted l ++ bs) >>= f) = f (l, bs) := by rw [takeCounted_putCounted h]; rfl

end

theorem takePortSelection_values {sel : PortSelection} (h : sel.fits = true) (bs : List Byte) :
    takePortSelection (markBits sel.marks) (sel.values ++ bs) = some (sel, bs) := by
  simp only [PortSelection.fits, Bool.and_eq_true] at h
  obtain ⟨⟨⟨⟨⟨⟨⟨⟨⟨⟨⟨kind, polarity⟩, filter⟩, qualify⟩, drop⟩, keyUp⟩, turnaround⟩, priority⟩, sense⟩, mode⟩, receive⟩, transmit⟩ := h
  have mark := markBits_testBit sel.marks
  unfold takePortSelection PortSelection.values
  simp only [List.append_assoc]
  refine (bind_takeMarked_byte _ (mark 0) kind _).trans ?_
  refine (bind_takeMarked_byte _ (mark 1) polarity _).trans ?_
  refine (bind_takeMarked_byte _ (mark 2) filter _).trans ?_
  refine (bind_takeMarked_word _ (mark 3) qualify _).trans ?_
  refine (bind_takeMarked_word _ (mark 4) drop _).trans ?_
  refine (bind_takeMarked_word _ (mark 5) keyUp _).trans ?_
  refine (bind_takeMarked_word _ (mark 6) turnaround _).trans ?_
  refine (bind_takeMarked_byte _ (mark 7) priority _).trans ?_
  refine (bind_takeMarked_byte _ (mark 8) sense _).trans ?_
  refine (bind_takeMarked_byte _ (mark 9) mode _).trans ?_
  refine (bind_takeMarked_word _ (mark 10) receive _).trans ?_
  exact bind_takeMarked_word _ (mark 11) transmit _

theorem takePatchSelection_values {sel : PatchSelection} (h : sel.fits = true) (hl : ∀ l, sel.label = some l → l.length < 256)
    (bs : List Byte) : takePatchSelection (markBits sel.marks) (sel.values ++ bs) = some (sel, bs) := by
  simp only [PatchSelection.fits, Bool.and_eq_true] at h
  obtain ⟨⟨⟨⟨⟨⟨mode, style⟩, threshold⟩, level⟩, hang⟩, timeOut⟩, lockout⟩ := h
  have mark := markBits_testBit sel.marks
  have label : ∀ bs, takeLabel ((markBits sel.marks).testBit 0) (putLabel sel.label ++ bs) = some (sel.label, bs) := by
    rw [show (markBits sel.marks).testBit 0 = sel.label.isSome from mark 0]; exact takeLabel_putLabel hl
  unfold takePatchSelection PatchSelection.values
  simp only [List.append_assoc]
  rw [label]
  refine (bind_takeMarked_byte _ (mark 1) mode _).trans ?_
  refine (bind_takeMarked_byte _ (mark 2) style _).trans ?_
  refine (bind_takeMarked_byte _ (mark 3) threshold _).trans ?_
  refine (bind_takeMarked_word _ (mark 4) level _).trans ?_
  refine (bind_takeMarked_word _ (mark 5) hang _).trans ?_
  refine (bind_takeMarked_word _ (mark 6) timeOut _).trans ?_
  exact bind_takeMarked_byte _ (mark 7) lockout _

theorem PortSelection.marks_word (sel : PortSelection) : isWord (markBits sel.marks) = true := by
  have lt : markBits sel.marks < 2 ^ 12 := markBits_lt sel.marks
  simp only [isWord, decide_eq_true_eq]; omega

theorem PatchSelection.marks_byte (sel : PatchSelection) : isByte (markBits sel.marks) = true :=
  have lt : markBits sel.marks < 2 ^ 8 := markBits_lt sel.marks
  decide_eq_true lt

theorem isByte_markBits {l : List Bool} (h : l.length ≤ 8) : isByte (markBits l) = true :=
  decide_eq_true ((markBits_lt l).trans_le (Nat.pow_le_pow_right (by decide) h))

/-! ### Commands -/

theorem parsePayload_of_args {code : Byte} {args : List Byte} {r : Request} (hc : commandCodes.contains code.toNat = true)
    (h : parseArgs code.toNat args = some r) : parsePayload (code :: args) = .request r := by
  refine (if_pos hc).trans ?_
  rw [h]

end Sys2Proof

namespace Sys2Proof.Machine

/-- Settles O53: by command, each argument read back by its own rule. -/
theorem parseOfEncodeIsTheCommand : Obligations.ParseOfEncodeIsTheCommand := by
  unfold Obligations.ParseOfEncodeIsTheCommand
  intro r h
  unfold Request.wellFormed at h
  rw [Bool.and_eq_true, decide_eq_true_eq] at h
  obtain ⟨fits, size⟩ := h
  cases r with
  | queryUnit | restart | readNotice | listPatches | seize | unseize => rfl
  | queryPort p | reservePort p | releasePort p | queryPatch n | takeOver n =>
    exact parsePayload_of_args (by decide) (bind_takeByte _ fits [])
  | clearPortConditions p sel =>
    refine parsePayload_of_args (by decide) ((bind_takeByte _ fits _).trans ?_)
    refine (bind_takeByte _ (isByte_markBits (by simp)) []).trans ?_
    simp only [markBits_testBit]; rfl
  | moveMember a b | mergePatches a b | dissolve a b | setSharing a b | setTalkTarget a b =>
    obtain ⟨first, second⟩ := Bool.and_eq_true_iff.mp fits
    exact parsePayload_of_args (by decide) ((bind_takeByte _ first _).trans (bind_takeByte _ second []))
  | setLink t m =>
    refine parsePayload_of_args (by decide) ((bind_takeByte _ (isByte_markBits (by simp)) _).trans ?_)
    refine (bind_takeMarked_byte _ (markBits_testBit _ 0) fits _).trans ?_
    rw [markBits_testBit]
    cases m with
    | none => rfl
    | some b => simp [takeMarked, takeByte, finish]
  | setConsole m t =>
    obtain ⟨mic, sidetone⟩ := Bool.and_eq_true_iff.mp fits
    refine parsePayload_of_args (by decide) ((bind_takeByte _ (isByte_markBits (by simp)) _).trans ?_)
    refine (bind_takeMarked_word _ (markBits_testBit _ 0) mic _).trans ?_
    rw [← List.append_nil (putMarked putWord t)]
    exact bind_takeMarked_word _ (markBits_testBit _ 1) sidetone _
  | setPort p sel =>
    obtain ⟨port, selection⟩ := Bool.and_eq_true_iff.mp fits
    refine parsePayload_of_args (by decide) ((bind_takeByte _ port _).trans ?_)
    refine (bind_takeWord _ sel.marks_word sel.values).trans ?_
    have values := takePortSelection_values selection []
    rw [List.append_nil] at values
    exact (congrArg (· >>= _) values).trans rfl
  | setPatch n sel =>
    obtain ⟨patch, selection⟩ := Bool.and_eq_true_iff.mp fits
    have label (l : List Byte) (hl : sel.label = some l) : l.length < 256 := by
      simp only [Request.size, PatchSelection.size, PatchSelection.labelSize, hl, Config.maxPayload] at size; omega
    refine parsePayload_of_args (by decide) ((bind_takeByte _ patch _).trans ((bind_takeByte _ sel.marks_byte sel.values).trans ?_))
    have values := takePatchSelection_values selection label []
    rw [List.append_nil] at values
    exact (congrArg (· >>= _) values).trans rfl
  | createPatch n l ps =>
    obtain ⟨slot, ports⟩ := Bool.and_eq_true_iff.mp fits
    simp only [Request.size, Config.maxPayload] at size
    refine parsePayload_of_args (by decide) ((bind_takeByte _ slot _).trans ?_)
    refine (bind_takeCounted _ (l := l) (by omega) (putCounted (ps.map byteOf))).trans ?_
    rw [← List.append_nil (putCounted (ps.map byteOf))]
    refine (bind_takeCounted _ (l := ps.map byteOf) (by simp; omega) []).trans ?_
    exact congrArg (fun k => some (Request.createPatch n l k)) (map_toNat_byteOf ports)
  | addMembers n ps | removeMembers n ps =>
    obtain ⟨slot, ports⟩ := Bool.and_eq_true_iff.mp fits
    simp only [Request.size, Config.maxPayload] at size
    refine parsePayload_of_args (by decide) ((bind_takeByte _ slot _).trans ?_)
    rw [← List.append_nil (putCounted (ps.map byteOf))]
    refine (bind_takeCounted _ (l := ps.map byteOf) (by simp; omega) []).trans ?_
    simp only [map_toNat_byteOf ports]
    rfl
  | setListen es =>
    simp only [Request.size, Config.maxPayload] at size
    refine parsePayload_of_args (by decide) ((bind_takeByte _ (by simp [isByte]; omega) _).trans ?_)
    exact (congrArg (· >>= _) (takeEntries_putEntries fits)).trans rfl

end Sys2Proof.Machine

/-! The receiving half of a link, character by character, and a whole frame on the line. -/

namespace Sys2Proof.Machine

/-! ### One character inside a frame (R165, R166) -/

theorem Receiver.counted_of_room {rx : Receiver} (h : rx.full = false) :
    rx.counted = { rx with count := rx.count + 1, timeLeft := 100 } := by
  unfold Receiver.counted; rw [h]; rfl

theorem Receiver.counted_of_full {rx : Receiver} (h : rx.full = true) : rx.counted = { rx with timeLeft := 100 } := by
  unfold Receiver.counted; rw [h]; rfl

theorem Receiver.note_eq (rx : Receiver) (f : FrameFault) : rx.note f = { rx with fault := some (rx.fault.getD f) } := by
  unfold Receiver.note
  split
  · rename_i h; rw [h]; obtain ⟨⟩ := rx; cases h; rfl
  · rename_i h; rw [h]; rfl

theorem Receiver.store_of_room {rx : Receiver} (h : rx.stored.length < 65) (b : Byte) :
    rx.store b = { rx with stored := rx.stored ++ [b], escaped := false } := if_pos h

theorem Receiver.store_of_full {rx : Receiver} (h : 65 ≤ rx.stored.length) (b : Byte) :
    rx.store b = { rx with fault := some (rx.fault.getD ⟨.length, rx.count⟩), full := true, escaped := false } :=
  (if_neg (Nat.not_lt.mpr h)).trans (by rw [Receiver.note_eq])

theorem Receiver.take_error {rx : Receiver} {ch : LineChar} (h : ch.error = true) :
    rx.take ch = { rx.counted with fault := some (rx.counted.fault.getD ⟨.character, rx.counted.count⟩), escaped := false } :=
  (if_pos h).trans (by rw [Receiver.note_eq])

theorem Receiver.take_escaped {rx : Receiver} {ch : LineChar} (h : ch.error = false) (he : rx.escaped = true) :
    rx.take ch = rx.counted.store (ch.data ^^^ 0x20#8) :=
  (if_neg (by simp [h])).trans (if_pos he)

theorem Receiver.take_escape {rx : Receiver} {ch : LineChar} (h : ch.error = false) (he : rx.escaped = false) (hd : ch.data = 0xF5#8) :
    rx.take ch = { rx.counted with escaped := true } :=
  (if_neg (by simp [h])).trans ((if_neg (by simp [he])).trans (if_pos hd))

theorem Receiver.take_alert {rx : Receiver} {ch : LineChar} (h : ch.error = false) (he : rx.escaped = false) (hd : ch.data = 0xF6#8) :
    rx.take ch = if Config.alertByteCounts then rx.counted else { rx.counted with count := rx.count } :=
  (if_neg (by simp [h])).trans ((if_neg (by simp [he])).trans
    ((if_neg (by rw [hd]; decide)).trans (if_pos hd)))

theorem isReserved_iff (b : Byte) : isReserved b = true ↔ b = 0xF3#8 ∨ b = 0xF4#8 ∨ b = 0xF5#8 ∨ b = 0xF6#8 := by
  simp [isReserved, Config.openByte, Config.closeByte, Config.escapeByte, Config.alertByte, or_assoc]

theorem Receiver.take_plain {rx : Receiver} {ch : LineChar} (h : ch.error = false) (he : rx.escaped = false)
    (hd : ch.data ≠ 0xF5#8) (ha : ch.data ≠ 0xF6#8) : rx.take ch = rx.counted.store ch.data :=
  (if_neg (by simp [h])).trans ((if_neg (by simp [he])).trans ((if_neg hd).trans (if_neg ha)))

/-! ### A link with another receiver -/

/-- The part with another receiving half on the link of console c. -/
def State.withReceiver (s : State) (c : Console) (rx : Receiver) : State := s.setLink c { s.link c with rx := rx }

theorem State.withReceiver_link (s : State) (c : Console) (rx : Receiver) :
    (s.withReceiver c rx).link c = { s.link c with rx := rx } := State.setLink_link_same _ _ _

theorem State.withReceiver_withReceiver (s : State) (c : Console) (a b : Receiver) :
    (s.withReceiver c a).withReceiver c b = s.withReceiver c b := by
  unfold State.withReceiver
  rw [State.setLink_link_same, State.setLink_setLink]

/-- A frame that closes leaves nothing of the receiver it was in (R165). -/
theorem State.goodFrame_withReceiver (s : State) (c : Console) (rx : Receiver) (act : State → State × Response)
    (h : s.resetLine = false) : (s.withReceiver c rx).goodFrame c act = s.goodFrame c act := by
  have closed : (s.withReceiver c rx).closeFrame c = s.closeFrame c := State.withReceiver_withReceiver s c rx Receiver.outside
  rw [State.goodFrame_of_running h, State.goodFrame_of_running (s := s.withReceiver c rx) h]
  unfold State.heard
  rw [closed]

theorem State.badFrameCloses_withReceiver (s : State) (c : Console) (rx : Receiver) (f : FrameFault)
    (h : s.resetLine = false) : (s.withReceiver c rx).badFrameCloses c f = s.badFrameCloses c f := by
  have closed : (s.withReceiver c rx).closeFrame c = s.closeFrame c := State.withReceiver_withReceiver s c rx Receiver.outside
  rw [State.badFrameCloses_of_running h, State.badFrameCloses_of_running (s := s.withReceiver c rx) h, closed]

/-- An escape that stands open as a frame closes is abandoned (R165). -/
theorem State.frameCloses_unescaped (s : State) (c : Console) (h : s.resetLine = false) :
    (s.withReceiver c { (s.link c).rx with escaped := false }).frameCloses c = s.frameCloses c := by
  have fault : ((s.withReceiver c { (s.link c).rx with escaped := false }).link c).rx.closingFault = (s.link c).rx.closingFault := by
    rw [State.withReceiver_link]; rfl
  cases hf : (s.link c).rx.closingFault with
  | some f =>
    rw [State.frameCloses_of_fault hf, State.frameCloses_of_fault (fault.trans hf), State.badFrameCloses_withReceiver s c _ f h]
  | none =>
    rw [State.frameCloses_of_good hf, State.frameCloses_of_good (fault.trans hf), State.goodFrame_withReceiver s c _ _ h,
      State.withReceiver_link]

/-! ### A frame, character by character (R164) -/

theorem State.after_cons {s t : State} {i : Instr} (h : exec i s = .next t) (is : List Instr) : s.after (i :: is) = t.after is := by
  rw [State.after.eq_2, h]

/-- The characters of a list of bytes, each sent with even parity and its stop bit, on the link of console c (R163). -/
def arrivals (c : Console) (bs : List Byte) : List Instr := bs.map (fun b => .characterReceived c (LineChar.sent b))

/-- A receiver inside a frame that no fault stands in, between two unescaped bytes. -/
structure Receiver.Receiving (rx : Receiver) (stored : List Byte) : Prop where
  isOpen : rx.isOpen = true
  full : rx.full = false
  escaped : rx.escaped = false
  fault : rx.fault = none
  stored : rx.stored = stored

/-- One sent character that neither opens nor closes a frame goes to the receiver. -/
theorem State.after_inside {s : State} {c : Console} {rx : Receiver} {b : Byte} (h : s.resetLine = false) (ho : rx.isOpen = true)
    (hb : b ≠ 0xF3#8 ∧ b ≠ 0xF4#8) (rest : List Byte) :
    (s.withReceiver c rx).after (arrivals c (b :: rest)) =
      (s.withReceiver c (rx.take (LineChar.sent b))).after (arrivals c rest) := by
  have link := s.withReceiver_link c rx
  have inside := State.hearCharacter_inside (s := s.withReceiver c rx) (c := c) (ch := LineChar.sent b) (by rw [link]; exact ho) (.inr hb)
  refine State.after_cons ((execCharacter_running (s := s.withReceiver c rx) h c _).trans
    (congrArg Host.Outcome.next (inside.trans ?_))) _
  rw [link]
  unfold State.withReceiver
  rw [State.setLink_setLink]

/-- The characters of one unescaped byte store it (R164, R165). -/
theorem State.after_escapeOne {s : State} {c : Console} {rx : Receiver} {l : List Byte} (h : s.resetLine = false)
    (hr : rx.Receiving l) (hl : l.length < 65) (b : Byte) (rest : List Byte) :
    ∃ rx' : Receiver, rx'.Receiving (l ++ [b]) ∧
      (s.withReceiver c rx).after (arrivals c (escapeOne b ++ rest)) = (s.withReceiver c rx').after (arrivals c rest) := by
  obtain ⟨isOpen, full, escaped, fault, stored⟩ := hr
  unfold escapeOne
  by_cases reserved : isReserved b = true
  · have second : b ^^^ 0x20#8 ≠ 0xF3#8 ∧ b ^^^ 0x20#8 ≠ 0xF4#8 := by
      rcases (isReserved_iff b).mp reserved with e | e | e | e <;> rw [e] <;> decide
    have back : b ^^^ 0x20#8 ^^^ 0x20#8 = b := by rw [BitVec.xor_assoc, BitVec.xor_self, BitVec.xor_zero]
    obtain ⟨marked, first, markedOpen, markedFull, markedEscaped, markedFault, markedStored⟩ : ∃ rx₁ : Receiver,
        rx.take (LineChar.sent Config.escapeByte) = rx₁ ∧ rx₁.isOpen = true ∧ rx₁.full = false ∧ rx₁.escaped = true ∧
          rx₁.fault = none ∧ rx₁.stored = l :=
      ⟨_, Receiver.take_escape (sent_error _) escaped rfl, by
        rw [Receiver.counted_of_room full]; exact ⟨isOpen, full, rfl, fault, stored⟩⟩
    rw [if_pos reserved]
    refine ⟨_, ?_, (State.after_inside h isOpen (by decide) _).trans (State.after_inside h (by rw [first]; exact markedOpen) second rest)⟩
    rw [first, Receiver.take_escaped (sent_error _) markedEscaped, Receiver.counted_of_room markedFull, sent_data, back,
      Receiver.store_of_room (by rw [markedStored]; exact hl)]
    exact ⟨markedOpen, markedFull, rfl, markedFault, by rw [markedStored]⟩
  · rw [if_neg reserved]
    simp only [isReserved_iff, not_or] at reserved
    obtain ⟨notOpening, notClosing, notEscape, notAlert⟩ := reserved
    refine ⟨_, ?_, State.after_inside h isOpen ⟨notOpening, notClosing⟩ rest⟩
    rw [Receiver.take_plain (sent_error _) escaped notEscape notAlert, Receiver.counted_of_room full,
      Receiver.store_of_room (by rw [stored]; exact hl)]
    exact ⟨isOpen, full, rfl, fault, by rw [stored]; rfl⟩

/-- The characters of a list of unescaped bytes store them all while there is room (R164 to R166). -/
theorem State.after_escaped {s : State} {c : Console} (h : s.resetLine = false) (bs : List Byte) {rx : Receiver} {l : List Byte}
    (hr : rx.Receiving l) (hl : l.length + bs.length ≤ 65) (rest : List Byte) :
    ∃ rx' : Receiver, rx'.Receiving (l ++ bs) ∧
      (s.withReceiver c rx).after (arrivals c (bs.flatMap escapeOne ++ rest)) = (s.withReceiver c rx').after (arrivals c rest) := by
  induction bs generalizing rx l with
  | nil => exact ⟨rx, by rwa [List.append_nil], rfl⟩
  | cons b bs ih =>
    rw [List.length_cons] at hl
    obtain ⟨rx₁, hr₁, e₁⟩ := State.after_escapeOne (c := c) h hr (by omega) b (bs.flatMap escapeOne ++ rest)
    obtain ⟨rx₂, hr₂, e₂⟩ := ih hr₁ (by rw [List.length_append, List.length_singleton]; omega)
    refine ⟨rx₂, by rwa [List.append_assoc, List.singleton_append] at hr₂, ?_⟩
    rw [List.flatMap_cons, List.append_assoc]
    exact e₁.trans e₂

theorem byteSum_checked (payload : List Byte) : byteSum (payload ++ [checkByte payload]) = 0 := by
  unfold byteSum checkByte
  rw [List.foldl_append]
  exact BitVec.add_right_neg _

/-- A whole frame on the line is its payload, carried out (R164 to R168). -/
theorem State.after_frameChars {s : State} {c : Console} {payload : List Byte} (h : s.resetLine = false) (pos : 1 ≤ payload.length)
    (fits : payload.length ≤ 64) : s.after (arrivals c (frameChars payload)) =
      some (s.goodFrame c (runParsed c (parsePayload payload))) := by
  have opened : Receiver.opened.Receiving [] := ⟨rfl, rfl, rfl, rfl, rfl⟩
  have length : (payload ++ [checkByte payload]).length = payload.length + 1 := by simp
  obtain ⟨rx, ⟨isOpen, full, escaped, fault, stored⟩, e⟩ := State.after_escaped (c := c) h (payload ++ [checkByte payload]) opened
    (by rw [length, List.length_nil]; omega) [0xF4#8]
  rw [List.nil_append] at stored
  have link := s.withReceiver_link c rx
  have good : rx.closingFault = none := Receiver.closingFault_of_good fault (by rw [stored, length]; omega)
    ((byteSum_eq_zero_iff _).mp (by rw [stored]; exact byteSum_checked payload))
  have closes : exec (.characterReceived c (LineChar.sent 0xF4#8)) (s.withReceiver c rx) =
      .next (s.goodFrame c (runParsed c (parsePayload payload))) := by
    have heard : (s.withReceiver c rx).hearCharacter c (LineChar.sent 0xF4#8) = (s.withReceiver c rx).frameCloses c :=
      State.hearCharacter_closes (by rw [link]; exact isOpen) rfl (sent_error _)
    rw [execCharacter_running (s := s.withReceiver c rx) h, heard,
      State.frameCloses_of_good (by rw [link]; exact good), State.goodFrame_withReceiver s c rx _ h, link]
    show Host.Outcome.next (s.goodFrame c (runParsed c (parsePayload rx.stored.dropLast))) = _
    rw [stored, List.dropLast_concat]
  have opens : exec (.characterReceived c (LineChar.sent 0xF3#8)) s = .next (s.withReceiver c Receiver.opened) :=
    (execCharacter_running h c _).trans (congrArg Host.Outcome.next (State.hearCharacter_opens rfl (sent_error _)))
  exact (State.after_cons opens _).trans (e.trans (State.after_cons closes []))

/-- Settles O54: the frame's payload reads as the command (O53), and the closing byte carries it out. -/
theorem frameOnTheLineIsTheCommand : Obligations.FrameOnTheLineIsTheCommand := by
  unfold Obligations.FrameOnTheLineIsTheCommand
  intro i c r s t hi wf h run
  have wfr : r.wellFormed = true := by cases i <;> cases hi <;> exact wf
  have size : r.size ≤ 64 := by
    rw [Request.wellFormed, Bool.and_eq_true, decide_eq_true_eq] at wfr; exact wfr.2
  have frame := State.after_frameChars (c := c) h (by rw [encodeRequest_length]; exact r.size_pos)
    (by rw [encodeRequest_length]; exact size)
  rw [parseOfEncodeIsTheCommand r wfr] at frame
  refine frame.trans (congrArg some ?_)
  exact Host.Outcome.next.inj ((exec_request hi s).symm.trans run)

end Sys2Proof.Machine

/-! The keying unit's evaluation of a patch where it raises no carrier event, record by record, and what a bid on a patch in which nobody
talks and the release of one that talks alone come to. -/

namespace Sys2Proof.Machine

/-! ### Writes that raise nothing -/

/-- A request after which the carrier machine has nothing to report is a plain write of what the machine leaves (R11, R12). -/
theorem State.updPort_silent {s : State} {p : PortId} {f : PortRec → PortRec}
    (h : (PortRec.remask (s.port p) (f (s.port p))).2 = []) :
    s.updPort p f = s.setPort p (PortRec.remask (s.port p) (f (s.port p))).1 := by
  rcases s.updPort_cases p f with e | ⟨e, _⟩
  · rw [e, ← State.writePort_quiet, ← h]
  · simp only [State.maskedAgain, Bool.and_eq_true, Bool.not_eq_true'] at e
    obtain ⟨⟨⟨old, new⟩, qualified⟩, -⟩ := e
    simp [PortRec.remask, old, new, PortRec.maskBegins, qualified] at h

/-- A machine at rest: CLEAR, no carrier timer running. -/
def PortRec.atRest (r : PortRec) : Prop := r.carrier = .clear ∧ r.qualifyLeft = 0 ∧ r.dropLeft = 0

/-- Masking a machine at rest changes nothing of it (R11). -/
theorem PortRec.remask_of_rest {old new : PortRec} (h : new.atRest) (hm : new.masked = true) : PortRec.remask old new = (new, []) := by
  obtain ⟨carrier, qualify, drop⟩ := h
  cases ho : old.masked with
  | true => exact PortRec.remask_same (hm.trans ho.symm)
  | false =>
    have begins : new.maskBegins = (new, []) := by obtain ⟨⟩ := new; simp_all [PortRec.maskBegins, PortRec.qualified]
    unfold PortRec.remask
    rw [ho, hm]; exact begins

/-- Masking an unqualified machine leaves it CLEAR and raises nothing (R11). -/
theorem PortRec.remask_of_unqualified {old new : PortRec} (hq : new.qualified = false) (hm : new.masked = true)
    (ho : old.masked = false) : PortRec.remask old new = ({ new with carrier := .clear, qualifyLeft := 0, dropLeft := 0 }, []) := by
  simp [PortRec.remask, ho, hm, PortRec.maskBegins, hq]

/-! ### The keying unit's decisions -/

/-- What a decision of the keying unit makes of a member's record, and the carrier events of it (R98 to R101). -/
def PortRec.decided (r : PortRec) : KeyDecision → PortRec × List CarrierNews
  | .key => PortRec.remask r (r.keyInto .keyUp .relay)
  | .unkey => PortRec.remask r (r.unkeyInto .idle)
  | .leave => (r, [])

theorem State.applyKey_silent {s : State} {p : PortId} {d : KeyDecision} (h : ((s.port p).decided d).2 = []) :
    s.applyKey p d = s.setPort p ((s.port p).decided d).1 := by
  cases d with
  | key => exact State.updPort_silent (f := fun r => r.keyInto .keyUp .relay) h
  | unkey => exact State.updPort_silent (f := fun r => r.unkeyInto .idle) h
  | leave => exact (State.setPort_self s p).symm

/-- Nothing but the ports' records differs between s and t, and those of t are given by g. -/
structure OnlyPorts (s t : State) (g : PortId → PortRec) : Prop where
  port : ∀ q, t.port q = g q
  rest : t = { s with ports := t.ports }

namespace OnlyPorts

variable {s t : State} {g : PortId → PortRec} (h : OnlyPorts s t g)
include h

theorem patch (n : SlotId) : t.patch n = s.patch n := by rw [h.rest]; rfl
theorem patches : t.patches = s.patches := by rw [h.rest]
theorem console (c : Console) : t.console c = s.console c := by rw [h.rest]; rfl
theorem consoles : t.consoles = s.consoles := by rw [h.rest]
theorem link (c : Console) : t.link c = s.link c := by rw [h.rest]; rfl
theorem links : t.links = s.links := by rw [h.rest]
theorem notice (c : Console) : t.notice c = s.notice c := by rw [h.rest]; rfl
theorem notices : t.notices = s.notices := by rw [h.rest]
theorem raised : t.raised = s.raised := by rw [h.rest]
theorem fixedPart : t.fixedPart = s.fixedPart := by rw [h.rest]; rfl

/-- Two states with the same records are the same. -/
theorem eq_of_port {u : State} {k : PortId → PortRec} (hu : OnlyPorts s u k) (e : ∀ q, g q = k q) : t = u := by
  have ports : t.ports = u.ports := Vector.ext fun i hi => by
    have := (h.port ⟨i, hi⟩).trans ((e ⟨i, hi⟩).trans (hu.port ⟨i, hi⟩).symm)
    exact this
  rw [h.rest, hu.rest, ports]

end OnlyPorts

theorem OnlyPorts.refl (s : State) : OnlyPorts s s s.port := ⟨fun _ => rfl, rfl⟩

theorem OnlyPorts.setPort (s : State) (p : PortId) (r : PortRec) :
    OnlyPorts s (s.setPort p r) (fun q => if q = p then r else s.port q) := ⟨fun q => State.setPort_port s p q r, rfl⟩

theorem PortRec.startSupervision_off {r : PortRec} (h : r.cfg.transmitSense = false) (w : Nat) :
    r.startSupervision w = { r with startWindow := 0, startCheck := .pending, lossLeft := 0 } := if_pos (by simp [h])

theorem PortRec.startSupervision_active {r : PortRec} (h : r.cfg.transmitSense = true) (ht : r.txsActive = true) (w : Nat) :
    r.startSupervision w = { r with startWindow := 0, startCheck := .passed, lossLeft := 0 } :=
  (if_neg (by simp [h])).trans (if_pos ht)

theorem PortRec.startSupervision_inactive {r : PortRec} (h : r.cfg.transmitSense = true) (ht : r.txsActive = false) (w : Nat) :
    r.startSupervision w = { r with startWindow := w, startCheck := .pending, lossLeft := 0 } :=
  (if_neg (by simp [h])).trans (if_neg (by simp [ht]))

/-- A record keyed, by what the supervision of TXS begins with (R99, R107, R112). -/
theorem PortRec.keyInto_off {r : PortRec} (h : r.cfg.transmitSense = false) (up on : PortState) : r.keyInto up on =
    { r with
      state := if r.cfg.keyUpDelay = 0 then on else up, keyUpLeft := r.cfg.keyUpDelay
      startWindow := 0, startCheck := .pending, lossLeft := 0 } :=
  PortRec.startSupervision_off (r := { r with state := if r.cfg.keyUpDelay = 0 then on else up, keyUpLeft := r.cfg.keyUpDelay }) h _

theorem PortRec.keyInto_active {r : PortRec} (h : r.cfg.transmitSense = true) (ht : r.txsActive = true) (up on : PortState) :
    r.keyInto up on = { r with
      state := if r.cfg.keyUpDelay = 0 then on else up, keyUpLeft := r.cfg.keyUpDelay
      startWindow := 0, startCheck := .passed, lossLeft := 0 } :=
  PortRec.startSupervision_active (r := { r with state := if r.cfg.keyUpDelay = 0 then on else up, keyUpLeft := r.cfg.keyUpDelay }) h ht _

theorem PortRec.keyInto_inactive {r : PortRec} (h : r.cfg.transmitSense = true) (ht : r.txsActive = false) (up on : PortState) :
    r.keyInto up on = { r with
      state := if r.cfg.keyUpDelay = 0 then on else up, keyUpLeft := r.cfg.keyUpDelay
      startWindow := r.cfg.keyUpDelay + 250, startCheck := .pending, lossLeft := 0 } :=
  PortRec.startSupervision_inactive (r := { r with state := if r.cfg.keyUpDelay = 0 then on else up, keyUpLeft := r.cfg.keyUpDelay }) h ht _

/-- Keying a keyed record again changes nothing of it (R99, R107). -/
theorem PortRec.keyInto_again (r : PortRec) (up on : PortState) (c : CarrierState) (q d : Nat) :
    ({ r.keyInto up on with carrier := c, qualifyLeft := q, dropLeft := d } : PortRec).keyInto up on =
      { r.keyInto up on with carrier := c, qualifyLeft := q, dropLeft := d } := by
  cases hs : r.cfg.transmitSense with
  | false => rw [PortRec.keyInto_off hs]; exact PortRec.keyInto_off (by exact hs) _ _
  | true =>
    cases ht : r.txsActive with
    | false => rw [PortRec.keyInto_inactive hs ht]; exact PortRec.keyInto_inactive (by exact hs) (by exact ht) _ _
    | true => rw [PortRec.keyInto_active hs ht]; exact PortRec.keyInto_active (by exact hs) (by exact ht) _ _

/-- What a decision made of a record, the same decision leaves: evaluating a member twice is evaluating it once (R98). -/
theorem PortRec.decided_again (r : PortRec) (d : KeyDecision) : (r.decided d).1.decided d = ((r.decided d).1, []) := by
  cases d with
  | key =>
    have same : (r.decided .key).1.keyInto .keyUp .relay = (r.decided .key).1 := by
      unfold PortRec.decided
      rw [PortRec.remask_frame]
      exact PortRec.keyInto_again _ _ _ _ _ _
    show PortRec.remask _ ((r.decided .key).1.keyInto .keyUp .relay) = _
    rw [same]; exact PortRec.remask_same rfl
  | unkey =>
    have same : (r.decided .unkey).1.unkeyInto .idle = (r.decided .unkey).1 := by
      unfold PortRec.decided
      rw [PortRec.remask_frame]; rfl
    show PortRec.remask _ ((r.decided .unkey).1.unkeyInto .idle) = _
    rw [same]; exact PortRec.remask_same rfl
  | leave => rfl

/-- Decisions that raise nothing, applied one after the other (R98). -/
theorem onlyPorts_applyKeys (D : PortId → KeyDecision) (l : List PortId) (s : State)
    (h : ∀ q ∈ l, ((s.port q).decided (D q)).2 = []) :
    OnlyPorts s (l.foldl (fun acc p => acc.applyKey p (D p)) s) (fun q => if q ∈ l then ((s.port q).decided (D q)).1 else s.port q) := by
  induction l generalizing s with
  | nil => exact ⟨fun q => by simp, rfl⟩
  | cons p l ih =>
    rw [List.foldl_cons, State.applyKey_silent (h p List.mem_cons_self)]
    have first (q : PortId) : (s.setPort p ((s.port p).decided (D p)).1).port q = if q = p then ((s.port p).decided (D p)).1 else s.port q :=
      State.setPort_port s p q _
    have tail := ih (s.setPort p ((s.port p).decided (D p)).1) fun q hq => by
      rw [first]; split
      · rename_i e; rw [e, PortRec.decided_again]
      · exact h q (List.mem_cons_of_mem _ hq)
    refine ⟨fun q => (tail.port q).trans ?_, tail.rest⟩
    rw [first]
    by_cases e : q = p
    · subst e; rw [if_pos rfl, PortRec.decided_again, ite_self, if_pos List.mem_cons_self]
    · simp only [List.mem_cons, e, false_or, if_false]

/-- An evaluation that raises nothing, record by record (R98). -/
theorem State.evalPatch_silent {s : State} {n : SlotId}
    (h : ∀ q ∈ (s.patch n).members, ((s.port q).decided (s.keyDecision n q)).2 = []) :
    OnlyPorts s (s.evalPatch n) (fun q =>
      if q ∈ (s.patch n).members then ((s.port q).decided (s.keyDecision n q)).1 else s.port q) :=
  onlyPorts_applyKeys _ _ s h

/-- An evaluation that leaves every member as it is. -/
theorem State.evalPatch_of_leave {s : State} {n : SlotId} (h : ∀ q ∈ (s.patch n).members, s.keyDecision n q = .leave) :
    s.evalPatch n = s := by
  unfold State.evalPatch
  generalize (s.patch n).members = l at h
  have keeps (l : List PortId) (hl : ∀ q ∈ l, s.keyDecision n q = .leave) :
      l.foldl (fun acc p => acc.applyKey p (s.keyDecision n p)) s = s := by
    induction l with
    | nil => rfl
    | cons p l ih =>
      rw [List.foldl_cons, hl p List.mem_cons_self]
      exact ih fun q hq => hl q (List.mem_cons_of_mem _ hq)
  exact keeps l h

theorem State.keyDecision_of_in {s : State} {n : SlotId} {p : PortId} (h : (s.port p).inRelaySet = true) :
    s.keyDecision n p = if s.staysKeyed n p then .leave else .unkey := if_pos h

theorem State.keyDecision_of_out {s : State} {n : SlotId} {p : PortId} (h : (s.port p).inRelaySet = false) :
    s.keyDecision n p = if s.eligible n p then .key else .leave := if_neg (by simp [h])

theorem State.eligible_iff {s : State} {n : SlotId} {p : PortId} : s.eligible n p = true ↔
    s.holdable n p = true ∧ ((s.patch n).state = .talk ∨ (s.patch n).state = .closing) ∧ (s.patch n).talker ≠ some (.port p) ∧
      ((s.port p).cfg.kind = .half → .port p ∉ (s.patch n).bids ∧ (s.port p).qualified = false) := by
  simp only [State.eligible, Bool.and_eq_true, Bool.or_eq_true, beq_iff_eq, bne_iff_ne, Bool.not_eq_true', and_assoc]
  refine and_congr_right fun _ => and_congr_right fun _ => and_congr_right fun _ => ?_
  rw [← imp_iff_not_or, ← Bool.not_eq_true, List.contains_iff_mem]

/-- In a patch neither in TALK nor in CLOSING nobody is eligible (R97). -/
theorem State.eligible_of_silent {s : State} {n : SlotId} (h : (s.patch n).state ≠ .talk) (h' : (s.patch n).state ≠ .closing)
    (p : PortId) : s.eligible n p = false :=
  Bool.eq_false_iff.mpr fun e => (State.eligible_iff.mp e).2.1.elim h h'

theorem State.eligible_of_talker {s : State} {n : SlotId} {p : PortId} (h : (s.patch n).talker = some (.port p)) :
    s.eligible n p = false := Bool.eq_false_iff.mpr fun e => (State.eligible_iff.mp e).2.2.1 h

theorem PortRec.keyInto_qualified (r : PortRec) (up on : PortState) : (r.keyInto up on).qualified = r.qualified := by
  unfold PortRec.qualified; rw [PortRec.keyInto_carrier]

theorem PortRec.keyInto_keyUpLeft (r : PortRec) (up on : PortState) : (r.keyInto up on).keyUpLeft = r.cfg.keyUpDelay := by
  unfold PortRec.keyInto; rw [PortRec.startSupervision_frame]

theorem PortRec.keyInto_guardLeft (r : PortRec) (up on : PortState) : (r.keyInto up on).guardLeft = r.guardLeft := by
  unfold PortRec.keyInto; rw [PortRec.startSupervision_frame]

theorem PortRec.keyMember_state (r : PortRec) :
    (r.keyInto .keyUp .relay).state = .keyUp ∨ (r.keyInto .keyUp .relay).state = .relay := by
  rw [PortRec.keyInto_state]; split <;> simp

/-- A keyed member's machine is masked by its kind, or by a guard (R10). -/
theorem PortRec.keyMember_masked (r : PortRec) :
    (r.keyInto .keyUp .relay).masked = (r.cfg.kind == .half || decide (0 < r.guardLeft)) := by
  unfold PortRec.masked
  rw [PortRec.keyInto_cfg, PortRec.keyInto_guardLeft]
  rcases r.keyMember_state with e | e <;> simp [PortRec.ptt, PortRec.parkedKeyed, e]

/-- One that is not keyed is masked by its guard alone (R10). -/
theorem PortRec.masked_of_unkeyed {r : PortRec} (h : r.ptt = false) : r.masked = decide (0 < r.guardLeft) := by
  unfold PortRec.masked
  have parked : r.parkedKeyed = false := by unfold PortRec.ptt at h; unfold PortRec.parkedKeyed; split at h <;> simp_all
  rw [h, parked]; simp

/-- Keying a member that is FULL, or whose carrier is not qualified, raises nothing (R11, R97). -/
theorem PortRec.decided_key_silent {r : PortRec} (h : r.cfg.kind = .half → r.qualified = false) (hp : r.ptt = false) :
    (r.decided .key).2 = [] := by
  have old := PortRec.masked_of_unkeyed hp
  have new := r.keyMember_masked
  unfold PortRec.decided
  cases hk : r.masked with
  | true => rw [PortRec.remask_same (by rw [new, ← old, hk, Bool.or_true])]
  | false =>
    rw [hk] at old
    rw [← old, Bool.or_false] at new
    by_cases half : r.cfg.kind = .half
    · rw [PortRec.remask_of_unqualified (by rw [PortRec.keyInto_qualified, h half]) (by rw [new, half]; rfl) hk]
    · rw [PortRec.remask_same (by rw [new, hk]; simpa using half)]

theorem PortRec.decided_key_state (r : PortRec) : (r.decided .key).1.state = if r.cfg.keyUpDelay = 0 then .relay else .keyUp := by
  unfold PortRec.decided
  rw [PortRec.remask_state, PortRec.keyInto_state]

theorem PortRec.decided_key_keyUpLeft (r : PortRec) : (r.decided .key).1.keyUpLeft = r.cfg.keyUpDelay := by
  unfold PortRec.decided
  rw [PortRec.remask_keyUpLeft, PortRec.keyInto_keyUpLeft]

/-- Unkeying a machine at rest with a turnaround time above 0 masks it and raises nothing (R11, R101). -/
theorem PortRec.decided_unkey {r : PortRec} (h : r.atRest) (ht : 0 < r.cfg.turnaround) :
    r.decided .unkey = ({ r.unsupervised with state := .idle, guardLeft := r.cfg.turnaround }, []) :=
  PortRec.remask_of_rest (new := r.unkeyInto .idle) h (by simp [PortRec.masked, PortRec.unkeyInto, PortRec.stopSupervision, ht])

theorem PortRec.ptt_of_rests {r : PortRec} (h : r.inRelaySet = false) (hp : r.isParked = false) : r.ptt = false := by
  unfold PortRec.inRelaySet at h; unfold PortRec.isParked at hp; unfold PortRec.ptt
  cases e : r.state <;> simp_all

/-! ### A bid on a patch in which nobody talks (R75 to R78) -/

/-- In patch n nobody talks, and every keyed member but the bidder src may stay keyed in the next talk (R97, R102). -/
structure State.Awaits (s : State) (n : SlotId) (src : Source) : Prop where
  state : (s.patch n).state = .quiet ∨ (s.patch n).state = .hang
  talker : (s.patch n).talker = none
  partner : (s.patch n).partner = none
  bids : (s.patch n).bids = []
  keyed : ∀ q ∈ (s.patch n).members, src ≠ .port q → (s.port q).inRelaySet = true → s.mayRelay n q

theorem State.awaits_of_nobodyTalks {s : State} {n : SlotId} (h : s.nobodyTalks n) (src : Source) : s.Awaits n src := by
  obtain ⟨state, talker, partner, bids, -, keyed⟩ := h
  exact ⟨state, talker, partner, bids, fun q hq _ hr => (keyed q hq hr).2⟩

/-- What stands between s and t in a bid by src: the patches, the other ports and the consoles. -/
structure SameButBidder (s t : State) (src : Source) : Prop where
  patch : ∀ m, t.patch m = s.patch m
  port : ∀ q, src ≠ .port q → t.port q = s.port q
  console : ∀ c, t.console c = s.console c
  notice : ∀ c, t.notice c = s.notice c

theorem State.mayRelay_congr {s t : State} {n : SlotId} {q : PortId} (hn : t.patch n = s.patch n) (hq : t.port q = s.port q) :
    t.mayRelay n q ↔ s.mayRelay n q := by
  unfold State.mayRelay; rw [hn, hq]

theorem SameButBidder.awaits {s t : State} {n : SlotId} {src : Source} (h : SameButBidder s t src) (k : s.Awaits n src) :
    t.Awaits n src where
  state := by rw [h.patch]; exact k.state
  talker := by rw [h.patch]; exact k.talker
  partner := by rw [h.patch]; exact k.partner
  bids := by rw [h.patch]; exact k.bids
  keyed q hq hs hr := by
    rw [h.patch] at hq
    rw [h.port q hs] at hr
    exact (State.mayRelay_congr (h.patch n) (h.port q hs)).mpr (k.keyed q hq hs hr)

theorem SameButBidder.grantedTo {s t u : State} {n : SlotId} {src : Source} (h : SameButBidder s t src) (k : t.grantedTo u n src) :
    s.grantedTo u n src := by
  obtain ⟨patch, others, keyed, left, consoles, notices⟩ := k
  refine ⟨by rw [patch, h.patch], fun m hm => (others m hm).trans (h.patch m), fun q hs hq may out => ?_, fun q hs not => ?_,
    fun c => (consoles c).trans (h.console c), fun c => by rw [notices c, h.notice]⟩
  · have := keyed q hs (by rw [h.patch]; exact hq) ((State.mayRelay_congr (h.patch n) (h.port q hs)).mpr may)
      (by rw [h.port q hs]; exact out)
    rw [h.port q hs] at this
    exact this
  · refine (left q hs fun ⟨hq, may, out⟩ => not ⟨by rw [h.patch] at hq; exact hq, ?_, ?_⟩).trans (h.port q hs)
    · exact (State.mayRelay_congr (h.patch n) (h.port q hs)).mp may
    · rw [h.port q hs] at out; exact out

theorem PortRec.restInto_eq (r : PortRec) (st : PortState) : r.restInto st = { r.unsupervised with state := st } := rfl

/-- An unmasked port that rests stays unmasked (R10). -/
theorem PortRec.restInto_masked {r : PortRec} {st : PortState} (h : r.masked = false)
    (hst : st ≠ .keyUp ∧ st ≠ .relay ∧ st ≠ .parkedKeyUp ∧ st ≠ .parkedRelay) : (r.restInto st).masked = false := by
  simp only [PortRec.masked, Bool.or_eq_false_iff] at h
  obtain ⟨⟨-, -⟩, guard⟩ := h
  obtain ⟨h1, h2, h3, h4⟩ := hst
  have ptt : (r.restInto st).ptt = false := by unfold PortRec.ptt PortRec.restInto; cases st <;> simp_all
  rw [PortRec.masked_of_unkeyed ptt]; exact guard

/-- A grant, record by record, to a bidder that is not masked (R77, R78). -/
theorem State.grant_parts {s : State} {n : SlotId} {src : Source} (hsrc : ∀ p, src = .port p → (s.port p).masked = false) :
    (∀ m, (s.grant n src).patch m = if m = n then (s.patch n).granted src else s.patch m) ∧
    (∀ q, (s.grant n src).port q = if src = .port q then (s.port q).restInto .talker else s.port q) ∧
    (∀ c, (s.grant n src).console c = s.console c) ∧
    (∀ c, (s.grant n src).notice c = (s.notice c).offer ⟨.floorChange, slotNumber n⟩) ∧ (s.grant n src).raised = s.raised := by
  refine ⟨fun m => State.grant_patch_eq s n m src, ?_⟩
  unfold State.grant
  cases src with
  | console c => exact ⟨fun q => by simp, fun c => by simp, fun c => by simp [State.modPatch], by simp⟩
  | port p =>
    have rest (u : State) (hu : u.port p = s.port p) :
        u.updPort p (fun r => r.restInto .talker) = u.setPort p ((s.port p).restInto .talker) := by
      rw [← hu]
      exact State.updPort_of_masked (by rw [hu, PortRec.restInto_masked (hsrc p rfl) (by decide)]; exact (hsrc p rfl).symm)
    simp only [rest _ (State.modPatch_port _ _ _ _)]
    refine ⟨fun q => ?_, fun c => by simp, fun c => by simp [State.modPatch], by simp⟩
    rw [State.offerBoth_port, State.setPort_port]
    by_cases e : q = p
    · subst e; simp
    · rw [if_neg e, if_neg (by simpa using Ne.symm e)]; rfl

/-- A bid on a patch in which nobody talks is granted, and the members that may relay are keyed (R75, R77, R78, R98, R99). -/
theorem State.grant_awaits {s : State} {n : SlotId} {src : Source} (h : s.Awaits n src)
    (hsrc : ∀ p, src = .port p → (s.port p).masked = false) :
    s.grantedTo ((s.takeBid n src).evalPatch n) n src ∧ ((s.takeBid n src).evalPatch n).raised = s.raised ∧
      (∀ p, src = .port p → ((s.takeBid n src).evalPatch n).port p = { (s.port p).unsupervised with state := .talker }) := by
  have bid : s.takeBid n src = s.grant n src := by
    unfold State.takeBid; rcases h.state with e | e <;> rw [e]
  obtain ⟨patch, port, console, notice, raised⟩ := State.grant_parts (n := n) hsrc
  rw [bid]
  generalize s.grant n src = g at patch port console notice raised
  have here : g.patch n = (s.patch n).granted src := (patch n).trans (if_pos rfl)
  have eligible (q : PortId) (hs : src ≠ .port q) : g.eligible n q = true ↔ s.mayRelay n q := by
    rw [State.eligible_iff, State.holdable_iff, here, port q, if_neg hs]
    simp [PatchRec.granted, h.bids, hs, State.mayRelay, and_assoc]
  have talker (q : PortId) (hs : src = .port q) : g.keyDecision n q = .leave := by
    rw [State.keyDecision_of_out (by rw [port, if_pos hs]; rfl), State.eligible_of_talker (by rw [here, hs]; rfl)]; rfl
  have keyed (q : PortId) (hq : q ∈ (s.patch n).members) (hs : src ≠ .port q) (hr : (s.port q).inRelaySet = true) :
      g.keyDecision n q = .leave := by
    have stays : g.staysKeyed n q = true := by
      unfold State.staysKeyed; rw [here, if_neg (by simp [PatchRec.granted])]
      exact (eligible q hs).mpr (h.keyed q hq hs hr)
    rw [State.keyDecision_of_in (by rw [port, if_neg hs]; exact hr), if_pos stays]
  have out (q : PortId) (hs : src ≠ .port q) (hr : (s.port q).inRelaySet = false) :
      g.keyDecision n q = if g.eligible n q then .key else .leave :=
    State.keyDecision_of_out (by rw [port, if_neg hs]; exact hr)
  have members : (g.patch n).members = (s.patch n).members := by rw [here]; rfl
  have silent : ∀ q ∈ (g.patch n).members, ((g.port q).decided (g.keyDecision n q)).2 = [] := fun q hq => by
    rw [members] at hq
    by_cases hs : src = .port q
    · rw [talker q hs]; rfl
    cases hr : (s.port q).inRelaySet with
    | true => rw [keyed q hq hs hr]; rfl
    | false =>
      rw [out q hs hr]
      split
      · rename_i he
        obtain ⟨-, -, parked, -, carrier⟩ := (eligible q hs).mp he
        rw [port, if_neg hs]
        exact PortRec.decided_key_silent carrier (PortRec.ptt_of_rests hr parked)
      · rfl
  have eval := State.evalPatch_silent silent
  refine ⟨⟨?_, fun m hm => ?_, fun q hs hq may hr => ?_, fun q hs not => ?_, fun c => (eval.console c).trans (console c),
    fun c => (eval.notice c).trans (notice c)⟩, eval.raised.trans raised, fun p hs => ?_⟩
  · rw [eval.patch, here]
    cases src <;> simp [PatchRec.granted, h.partner, h.bids, isConsole]
  · rw [eval.patch, patch, if_neg hm]
  · rw [eval.port, if_pos (by rw [members]; exact hq), out q hs hr, if_pos ((eligible q hs).mpr may), port, if_neg hs]
    exact ⟨PortRec.decided_key_state _, PortRec.decided_key_keyUpLeft _⟩
  · rw [eval.port, members]
    split
    · rename_i hq
      cases hr : (s.port q).inRelaySet with
      | true => rw [keyed q hq hs hr, port, if_neg hs]; rfl
      | false => rw [out q hs hr, if_neg (fun e => not ⟨hq, (eligible q hs).mp e, hr⟩), port, if_neg hs]; rfl
    · rw [port, if_neg hs]
  · rw [eval.port, talker p hs, port, if_pos hs]
    exact ite_self _

end Sys2Proof.Machine

/-! The timers of ports and patches where their outcome can be told record by record: a carrier that qualifies or is lost, a lockout and a
hang that run out, a time-out. -/

namespace Sys2Proof.Machine

/-! ### Handing on one event -/

theorem settleN_of_none {s : State} (h : s.raised = []) (k : Nat) : settleN k s = s := by
  cases k with
  | zero => rfl
  | succ k => unfold settleN; rw [h]

/-- One event, handed on without another (R9). -/
theorem State.settle_one {s t : State} {e : CarrierEvent} (h : s.raised = [e]) (ht : ({ s with raised := [] } : State).handOn e = t)
    (hr : t.raised = []) : s.settle = t := by
  unfold State.settle Config.carrierEventBound settleN
  rw [h]
  show settleN _ (({ s with raised := [] } : State).handOn e) = t
  rw [ht, settleN_of_none hr]

/-- A write whose one event is handed on without another. -/
theorem State.settle_writePort_one {s t : State} {p : PortId} {r : PortRec} {k : CarrierNews} (h : s.raised = [])
    (ht : (s.setPort p r).handOn ⟨k, p⟩ = t) (hr : t.raised = []) : (s.writePort p (r, [k])).settle = t := by
  have clean : ({ s.writePort p (r, [k]) with raised := [] } : State) = s.setPort p r := by
    unfold State.writePort State.raise; rw [← h]; rfl
  exact State.settle_one (e := ⟨k, p⟩) (by simp [State.writePort, State.raise, h]) (by rw [clean, ht]) hr

theorem State.settle_writePort_none {s : State} {p : PortId} {r : PortRec} (h : s.raised = []) : (s.writePort p (r, [])).settle = s.setPort p r := by
  rw [State.writePort_quiet, State.settle_of_none (by simpa using h)]

/-! ### A settled port -/

theorem State.keyDecision_congr {s t : State} {n : SlotId} {p : PortId} (hn : t.patch n = s.patch n) (hp : t.port p = s.port p) :
    t.keyDecision n p = s.keyDecision n p := by
  unfold State.keyDecision State.staysKeyed State.eligible State.holdable
  rw [hn, hp]

theorem State.evalPort_member {s : State} {p : PortId} {n : SlotId} (hk : (s.port p).isParked = false) (hp : (s.port p).patch = some n) :
    s.evalPort p = s.applyKey p (s.keyDecision n p) := by
  unfold State.evalPort
  rw [if_neg (by simp [hk]), hp]

theorem State.evalPort_of_leave {s : State} {p : PortId} {n : SlotId} (hk : (s.port p).isParked = false)
    (hp : (s.port p).patch = some n) (h : s.keyDecision n p = .leave) : s.evalPort p = s := by
  rw [State.evalPort_member hk hp, h]; rfl

/-- A port that talks is left alone by the keying unit (R97). -/
theorem State.evalPort_talker {s : State} {p : PortId} {n : SlotId} (hs : (s.port p).state = .talker) (hp : (s.port p).patch = some n)
    (ht : (s.patch n).talker = some (.port p)) : s.evalPort p = s := by
  refine State.evalPort_of_leave (n := n) (by simp [PortRec.isParked, hs]) hp ?_
  rw [State.keyDecision_of_out (by simp [PortRec.inRelaySet, hs]), State.eligible_of_talker ht]; rfl

/-! ### A port's bid on a patch in which nobody talks (R71, R72) -/

theorem PatchRec.takesBids_of_silent {r : PatchRec} (h : r.state = .quiet ∨ r.state = .hang) : r.takesBids = true := by
  rcases h with h | h <;> simp [PatchRec.takesBids, h]

theorem State.Awaits.stands {s : State} {n : SlotId} {src : Source} (h : s.Awaits n src) (x : Source) : (s.patch n).stands x = false := by
  rw [PatchRec.stands_eq_false, h.talker, h.partner, h.bids]; simp

theorem State.portBids_awaits {s : State} {n : SlotId} {p : PortId} (h : s.Awaits n (.port p)) (hp : (s.port p).patch = some n)
    (hk : (s.port p).isParked = false) (hl : (s.port p).lockoutLeft = 0) :
    s.portBids p = (s.takeBid n (.port p)).evalPatch n := by
  have bids : s.bidsOn? p = some n :=
    State.bidsOn?_eq_some.mpr ⟨hp, hk, hl, h.stands _, PatchRec.takesBids_of_silent h.state⟩
  unfold State.portBids; rw [bids]

/-- A member's bid on a patch in which nobody talks: the grant, and the bidder TALKER (R75, R77, R78). -/
theorem State.portBids_granted {s : State} {n : SlotId} {p : PortId} (h : s.Awaits n (.port p)) (hp : (s.port p).patch = some n)
    (hk : (s.port p).isParked = false) (hl : (s.port p).lockoutLeft = 0) (hm : (s.port p).masked = false) :
    s.grantedTo (s.portBids p) n (.port p) ∧ (s.portBids p).raised = s.raised ∧
      (s.portBids p).port p = { (s.port p).unsupervised with state := .talker } ∧ (s.portBids p).evalPort p = s.portBids p := by
  obtain ⟨granted, raised, bidder⟩ := State.grant_awaits h (fun q e => by cases e; exact hm)
  rw [State.portBids_awaits h hp hk hl]
  have talker := bidder p rfl
  refine ⟨granted, raised, talker, State.evalPort_talker (n := n) (by rw [talker]) (by rw [talker]; exact hp) ?_⟩
  rw [granted.1]

theorem PortRec.unparked_of {r : PortRec} (h : r.state = .idle ∨ r.inRelaySet = true) : r.isParked = false := by
  rcases h with h | h
  · simp [PortRec.isParked, h]
  · rcases PortRec.inRelaySet_iff.mp h with h | h <;> simp [PortRec.isParked, h]

theorem SameButBidder.setPort (s : State) (p : PortId) (r : PortRec) : SameButBidder s (s.setPort p r) (.port p) where
  patch _ := rfl
  port q hq := by rw [State.setPort_port, if_neg (fun e => hq (by rw [e]))]
  console _ := rfl
  notice _ := rfl

theorem PortRec.qualifyExpires_of {r : PortRec} (h : r.carrier = .qualifying) :
    r.qualifyExpires = ({ r with carrier := .present, qualifyLeft := 0 }, [.qualified]) := if_pos h

theorem PortRec.dropExpires_of {r : PortRec} (h : r.carrier = .dropping) :
    r.dropExpires = ({ r with carrier := .clear, dropLeft := 0 }, [.lost]) := if_pos h

theorem exec_running {s t : State} {i : Instr} {f : State → State} (h : s.resetLine = false)
    (hi : exec i s = .next (s.whenRunning f)) (ht : f s = t) : exec i s = .next t := by
  rw [hi, State.whenRunning_of_running h, ht]

/-- Settles O11: the qualified carrier is handed on to the arbiter, which grants it. -/
theorem qualifiedCarrierTakesAQuietPatch : Obligations.QualifiedCarrierTakesAQuietPatch := by
  unfold Obligations.QualifiedCarrierTakesAQuietPatch
  intro s p run none r
  refine ⟨fun other => ?_, fun qualifying free unparked => ?_, fun n qualifying unmasked hs hp hl nobody => ?_⟩
  · refine exec_running run rfl ?_
    show (s.writePort p r.qualifyExpires).settle = s
    rw [show r.qualifyExpires = (r, []) from if_neg other, State.settle_writePort_none none, State.setPort_self]
  · refine exec_running run rfl ?_
    show (s.writePort p r.qualifyExpires).settle = _
    rw [PortRec.qualifyExpires_of qualifying]
    exact State.settle_writePort_unpatched none (.inr ⟨_, rfl⟩) free unparked
  · let present : PortRec := { r with carrier := .present, qualifyLeft := 0 }
    have same := SameButBidder.setPort s p present
    have port : (s.setPort p present).port p = present := State.setPort_port_same _ _ _
    obtain ⟨granted, raised, bidder, settled⟩ := State.portBids_granted (p := p)
      (same.awaits (State.awaits_of_nobodyTalks nobody (.port p))) (by rw [port]; exact hp)
      (by rw [port]; exact PortRec.unparked_of hs) (by rw [port]; exact hl) (by rw [port]; exact unmasked)
    have final : exec (.qualifyTimerExpiry p) s = .next ((s.setPort p present).portBids p) := by
      refine exec_running run rfl ?_
      show (s.writePort p r.qualifyExpires).settle = _
      rw [PortRec.qualifyExpires_of qualifying]
      exact State.settle_writePort_one none settled (raised.trans none)
    refine ⟨_, final, ?_, same.grantedTo granted, (timerExpiriesOnlyMoveTraffic s _ p n).1 final⟩
    rw [bidder, port]; rfl

/-- A guard that ends masking takes an asserted filtered COR; one that does not, or finds none, leaves the machine (R12, R14). -/
theorem State.guardRunsOut_of {s : State} {p : PortId} (h : (s.port p).masked = true ∨ (s.port p).filteredCor = false) :
    s.guardRunsOut p = s := by
  unfold State.guardRunsOut
  split
  · rename_i hg
    simp only [Bool.and_eq_true, Bool.not_eq_true'] at hg
    have quiet : (s.port p).filteredCor = false := h.resolve_left (by simp [hg.1])
    have stays : (s.port p).maskEnds = (s.port p, []) := if_neg (by simp [quiet])
    rw [stays, State.writePort_quiet, State.setPort_self]
  · rfl

/-- Settles O13. -/
theorem guardAndLockoutRunOut : Obligations.GuardAndLockoutRunOut := by
  unfold Obligations.GuardAndLockoutRunOut
  intro s p run none r unguarded unlocked
  have guarded (t : State) : (0 < r.guardLeft → ((s.setPort p unguarded).guardRunsOut p).settle = t →
      exec (.guardExpiry p) s = .next t) := fun hg ht => exec_running run rfl ((if_pos hg).trans ht)
  have locked (t : State) : (0 < r.lockoutLeft → ((s.setPort p unlocked).portBidsIfQualified p).settle = t →
      exec (.lockoutExpiry p) s = .next t) := fun hl ht => exec_running run rfl ((if_pos hl).trans ht)
  refine ⟨fun hg hm => guarded _ hg ?_, fun hg unmasked cor clear time => guarded _ hg ?_, fun hl unqualified => locked _ hl ?_,
    fun n hl qualified unmasked hs hp nobody => ?_, fun hg => exec_running run rfl (if_neg (Nat.not_lt.mpr (Nat.le_of_eq hg))),
    fun hl => exec_running run rfl (if_neg (Nat.not_lt.mpr (Nat.le_of_eq hl)))⟩
  · rw [State.guardRunsOut_of (by rw [State.setPort_port_same]; exact hm), State.settle_of_none (by simpa using none)]
  · have ends : unguarded.maskEnds = ({ unguarded with carrier := .qualifying, qualifyLeft := r.cfg.qualifyTime }, []) := by
      simp [PortRec.maskEnds, PortRec.corAsserts, unguarded, cor, clear, Nat.ne_of_gt time]
    have runs : (s.setPort p unguarded).guardRunsOut p = (s.setPort p unguarded).writePort p unguarded.maskEnds := by
      unfold State.guardRunsOut
      rw [State.setPort_port_same, if_pos (by rw [unmasked]; simp [unguarded, clear])]
    rw [runs, ends, State.writePort_quiet, State.setPort_setPort, State.settle_of_none (by simpa using none)]
  · unfold State.portBidsIfQualified
    rw [State.setPort_port_same, if_neg (by rw [show unlocked.qualified = false from unqualified]; simp),
      State.settle_of_none (by simpa using none)]
  · have same := SameButBidder.setPort s p unlocked
    have port : (s.setPort p unlocked).port p = unlocked := State.setPort_port_same _ _ _
    obtain ⟨granted, raised, bidder, -⟩ := State.portBids_granted (p := p)
      (same.awaits (State.awaits_of_nobodyTalks nobody (.port p))) (by rw [port]; exact hp)
      (by rw [port]; exact PortRec.unparked_of hs) (by rw [port]) (by rw [port]; exact unmasked)
    refine ⟨_, locked _ hl ?_, ?_, same.grantedTo granted, (Flow.toKept (flow_portBids _ p)).frame⟩
    · unfold State.portBidsIfQualified
      rw [port, if_pos (show unlocked.qualified = true from qualified), State.settle_of_none (raised.trans none)]
    · rw [bidder, port]; rfl

/-! ### A settled evaluation -/

theorem PortRec.decided_cfg (r : PortRec) (d : KeyDecision) : (r.decided d).1.cfg = r.cfg := by
  cases d with
  | key => unfold PortRec.decided; rw [PortRec.remask_cfg, PortRec.keyInto_cfg]
  | unkey => unfold PortRec.decided; rw [PortRec.remask_cfg]; rfl
  | leave => rfl

theorem PortRec.decided_fault (r : PortRec) (d : KeyDecision) : (r.decided d).1.fault = r.fault := by
  cases d with
  | key =>
    have e := congrArg PortRec.fault (PortRec.keyInto_fixed r .keyUp .relay)
    unfold PortRec.decided; rw [PortRec.remask_fault]; exact e
  | unkey => unfold PortRec.decided; rw [PortRec.remask_fault]; rfl
  | leave => rfl

theorem PortRec.decided_patch (r : PortRec) (d : KeyDecision) : (r.decided d).1.patch = r.patch := by
  cases d with
  | key => unfold PortRec.decided; rw [PortRec.remask_patch, PortRec.keyInto_patch]
  | unkey => unfold PortRec.decided; rw [PortRec.remask_patch]; rfl
  | leave => rfl

theorem PortRec.keyed_state (r : PortRec) : (r.decided .key).1.state = r.keyedState := r.decided_key_state

theorem PortRec.keyed_relays (r : PortRec) : (r.decided .key).1.inRelaySet = true := by
  rw [PortRec.inRelaySet_iff, PortRec.decided_key_state]; split <;> simp

theorem PortRec.keyed_unparked (r : PortRec) : (r.decided .key).1.isParked = false := PortRec.unparked_of (.inr r.keyed_relays)

/-- The record of a HALF port, or of one masked by its guard, as it is keyed: the machine CLEAR if it is masked only now (R10, R11). -/
theorem PortRec.decided_key_half {r : PortRec} (half : r.cfg.kind = .half) (hq : r.qualified = false) :
    (r.decided .key).1 = if r.masked then r.keyInto .keyUp .relay
      else { r.keyInto .keyUp .relay with carrier := .clear, qualifyLeft := 0, dropLeft := 0 } := by
  have new : (r.keyInto .keyUp .relay).masked = true := by rw [PortRec.keyMember_masked, half]; rfl
  unfold PortRec.decided
  cases hm : r.masked with
  | true => rw [PortRec.remask_same (new.trans hm.symm)]; rfl
  | false => rw [PortRec.remask_of_unqualified (by rw [PortRec.keyInto_qualified, hq]) new hm]; rfl

/-- A port that is not HALF keeps its machine as it is keyed (R10). -/
theorem PortRec.decided_key_other {r : PortRec} (half : r.cfg.kind ≠ .half) (hp : r.ptt = false) :
    (r.decided .key).1 = r.keyInto .keyUp .relay := by
  unfold PortRec.decided
  rw [PortRec.remask_same]
  rw [PortRec.keyMember_masked, PortRec.masked_of_unkeyed hp]
  simp [half]

theorem PortRec.keyed_unqualified {r : PortRec} (hq : r.qualified = false) (hp : r.ptt = false) : (r.decided .key).1.qualified = false := by
  by_cases half : r.cfg.kind = .half
  · rw [PortRec.decided_key_half half hq]
    split
    · rw [PortRec.keyInto_qualified, hq]
    · rfl
  · rw [PortRec.decided_key_other half hp, PortRec.keyInto_qualified, hq]

theorem State.eligible_unparked {s : State} {n : SlotId} {p : PortId} (h : s.eligible n p = true) : (s.port p).isParked = false :=
  (State.holdable_iff.mp (State.eligible_iff.mp h).1).2.2.1

/-- Eligibility turns on these parts of a port's record (R97). -/
theorem State.eligible_congr {s t : State} {n : SlotId} {p : PortId} (hn : t.patch n = s.patch n)
    (hcfg : (t.port p).cfg = (s.port p).cfg) (hk : (t.port p).isParked = (s.port p).isParked) (hf : (t.port p).fault = (s.port p).fault)
    (hq : (t.port p).qualified = (s.port p).qualified) : t.eligible n p = s.eligible n p := by
  unfold State.eligible State.holdable
  rw [hn, hcfg, hk, hf, hq]

theorem State.keyDecision_key_rests {s : State} {n : SlotId} {p : PortId} (h : s.keyDecision n p = .key) :
    (s.port p).inRelaySet = false := by
  by_contra hr
  rw [State.keyDecision_of_in (by simpa using hr)] at h
  split at h <;> cases h

theorem State.keyDecision_unkey_relays {s : State} {n : SlotId} {p : PortId} (h : s.keyDecision n p = .unkey) :
    (s.port p).inRelaySet = true := by
  by_contra hr
  rw [State.keyDecision_of_out (by simpa using hr)] at h
  split at h <;> cases h

/-- A member just evaluated is left alone by its own evaluation that follows (R98). -/
theorem State.evalPort_settled {s t : State} {n : SlotId} {p : PortId} (hn : t.patch n = s.patch n) (hk : (s.port p).isParked = false)
    (hp : (s.port p).patch = some n) (ht : t.port p = ((s.port p).decided (s.keyDecision n p)).1)
    (hu : s.keyDecision n p = .unkey → (s.port p).atRest ∧ 0 < (s.port p).cfg.turnaround) : t.evalPort p = t := by
  have patch : (t.port p).patch = some n := by rw [ht, PortRec.decided_patch, hp]
  cases hd : s.keyDecision n p with
  | leave =>
    rw [hd] at ht
    exact State.evalPort_of_leave (by rw [ht]; exact hk) patch ((State.keyDecision_congr hn ht).trans hd)
  | key =>
    rw [hd] at ht
    have eligible := State.keyDecision_key hd
    obtain ⟨hold, state, talker, half⟩ := State.eligible_iff.mp eligible
    obtain ⟨live, kind, -, fault⟩ := State.holdable_iff.mp hold
    have ptt := PortRec.ptt_of_rests (State.keyDecision_key_rests hd) hk
    have still : t.eligible n p = true := by
      rw [State.eligible_iff, State.holdable_iff, hn, ht, PortRec.decided_cfg, PortRec.decided_fault]
      exact ⟨⟨live, kind, PortRec.keyed_unparked _, fault⟩, state, talker,
        fun h => ⟨(half h).1, PortRec.keyed_unqualified (half h).2 ptt⟩⟩
    have stays : t.staysKeyed n p = true := by
      unfold State.staysKeyed
      rw [hn, if_neg (by rcases state with e | e <;> simp [e]), still]
    refine State.evalPort_of_leave (by rw [ht]; exact PortRec.keyed_unparked _) patch ?_
    rw [State.keyDecision_of_in (by rw [ht]; exact PortRec.keyed_relays _), if_pos stays]
  | unkey =>
    obtain ⟨rest, time⟩ := hu hd
    rw [hd, PortRec.decided_unkey rest time] at ht
    have notEligible : s.eligible n p = false := by
      unfold State.keyDecision at hd
      split at hd
      · split at hd
        · cases hd
        · rename_i stays
          unfold State.staysKeyed at stays
          split at stays
          · rename_i hang; exact State.eligible_of_silent (by simp [hang]) (by simp [hang]) p
          · simpa using stays
      · split at hd <;> cases hd
    have unparked : (t.port p).isParked = false := by rw [ht]; rfl
    refine State.evalPort_of_leave unparked patch ?_
    rw [State.keyDecision_of_out (by rw [ht]; rfl), State.eligible_congr hn (by rw [ht]; rfl) (unparked.trans hk.symm) (by rw [ht]; rfl)
      (by rw [ht]; rfl), notEligible]
    rfl

/-- The evaluation of a patch whose keyed members are quiet raises nothing (R11, R12, R98). -/
theorem State.decided_quiet {s : State} {n : SlotId} (h : s.keyedQuietly n) {q : PortId} (hq : q ∈ (s.patch n).members) :
    ((s.port q).decided (s.keyDecision n q)).2 = [] := by
  cases hd : s.keyDecision n q with
  | leave => rfl
  | key =>
    have eligible := State.keyDecision_key hd
    exact PortRec.decided_key_silent (fun half => ((State.eligible_iff.mp eligible).2.2.2 half).2)
      (PortRec.ptt_of_rests (State.keyDecision_key_rests hd) (State.eligible_unparked eligible))
  | unkey =>
    obtain ⟨carrier, qualify, drop, time⟩ := h q hq (State.keyDecision_unkey_relays hd)
    rw [PortRec.decided_unkey ⟨carrier, qualify, drop⟩ time]

theorem State.evalPatch_quiet {s : State} {n : SlotId} (h : s.keyedQuietly n) : OnlyPorts s (s.evalPatch n) (fun q =>
    if q ∈ (s.patch n).members then ((s.port q).decided (s.keyDecision n q)).1 else s.port q) :=
  State.evalPatch_silent fun _ hq => State.decided_quiet h hq

end Sys2Proof.Machine

/-! Releases: a talker that talks alone releases its patch into HANG, a hang that runs out, a waiting bid withdrawn, a time-out. -/

namespace Sys2Proof.Machine

/-! ### Writes that commute -/

theorem State.setPatch_updPort (s : State) (n : SlotId) (a : PatchRec) (p : PortId) (f : PortRec → PortRec) :
    (s.setPatch n a).updPort p f = (s.updPort p f).setPatch n a := by
  unfold State.updPort
  rw [apply_ite (fun u : State => u.setPatch n a)]
  rfl

theorem State.setPatch_idleTalker (s : State) (n : SlotId) (a : PatchRec) (src : Option Source) :
    (s.setPatch n a).idleTalker src = (s.idleTalker src).setPatch n a := by
  unfold State.idleTalker
  split
  · rw [State.setPatch_port, State.setPatch_updPort, apply_ite (fun u : State => u.setPatch n a)]
  · rfl

theorem State.setPatch_offer (s : State) (n : SlotId) (a : PatchRec) (c : Console) (e : Notice) :
    (s.setPatch n a).offer c e = (s.offer c e).setPatch n a := by
  unfold State.offer State.startAlert
  rw [apply_ite (fun u : State => u.setPatch n a)]
  rfl

theorem State.setPatch_offerBoth (s : State) (n : SlotId) (a : PatchRec) (e : Notice) :
    (s.setPatch n a).offerBoth e = (s.offerBoth e).setPatch n a := by
  unfold State.offerBoth
  rw [State.setPatch_offer, State.setPatch_offer]

theorem State.setPort_offer (s : State) (p : PortId) (r : PortRec) (c : Console) (e : Notice) :
    (s.setPort p r).offer c e = (s.offer c e).setPort p r := by
  unfold State.offer State.startAlert
  rw [apply_ite (fun u : State => u.setPort p r)]
  rfl

theorem State.setPort_offerBoth (s : State) (p : PortId) (r : PortRec) (e : Notice) :
    (s.setPort p r).offerBoth e = (s.offerBoth e).setPort p r := by
  unfold State.offerBoth
  rw [State.setPort_offer, State.setPort_offer]

/-! ### The former talker -/

/-- A port that talks becomes IDLE with its machine as it is (R79, R84). -/
theorem State.idleTalker_of_talker {s : State} {p : PortId} (h : (s.port p).state = .talker) :
    s.idleTalker (some (.port p)) = s.setPort p { (s.port p).unsupervised with state := .idle } := by
  have talks : (s.port p).ptt = false := by simp [PortRec.ptt, h]
  have idles : ((s.port p).restInto .idle).ptt = false := rfl
  show (if (s.port p).state = .talker then s.updPort p (fun r => r.restInto .idle) else s) = _
  rw [if_pos h]
  exact State.updPort_of_masked (by rw [PortRec.masked_of_unkeyed idles, PortRec.masked_of_unkeyed talks]; rfl)

theorem State.idleTalker_port (s : State) (src : Option Source) (q : PortId) :
    (s.idleTalker src).port q = s.port q ∨ (((s.idleTalker src).port q).state = .idle ∧ src = some (.port q)) := by
  unfold State.idleTalker
  split
  · rename_i t
    split
    · rw [State.updPort_port]
      by_cases e : q = t
      · subst e; rw [if_pos rfl]; exact .inr ⟨PortRec.remask_state _ _, rfl⟩
      · rw [if_neg e]; exact .inl rfl
    · exact .inl rfl
  · exact .inl rfl

/-- The release of a talker that talks alone: the patch hangs, and its keyed members are held (R84, R85, R102). -/
theorem State.release_talksAlone {s : State} {n : SlotId} {src : Source} (h : s.talksAlone n src) (ht : 0 < (s.patch n).hangTime)
    (but : Option Console) : (s.release n but).evalPatch n = (s.idleTalker (some src)).setPatch n { s.patch n with
      state := .hang, talker := none, limit := none, hangLeft := (s.patch n).hangTime } := by
  obtain ⟨talk, talker, partner, bids, fit⟩ := h
  have dropped : s.dropTalker n = (s.idleTalker (some src)).setPatch n { s.patch n with talker := none, limit := none } := by
    unfold State.dropTalker State.modPatch
    rw [talker, State.setPatch_idleTalker]
  have released : s.release n but = (s.idleTalker (some src)).setPatch n { s.patch n with
      state := .hang, talker := none, limit := none, hangLeft := (s.patch n).hangTime } := by
    unfold State.release State.releaseOutcome
    rw [dropped, if_neg (by simp [talk])]
    simp only [State.setPatch_patch_same, partner, bids, State.modPatch, State.setPatch_setPatch]
    rw [if_neg (Nat.ne_of_gt ht)]
  rw [released]
  refine State.evalPatch_of_leave fun q hq => ?_
  rw [State.setPatch_patch_same] at hq
  cases hr : ((s.idleTalker (some src)).port q).inRelaySet with
  | false =>
    rw [State.keyDecision_of_out (by exact hr), State.eligible_of_silent (by simp) (by simp)]; rfl
  | true =>
    have same : (s.idleTalker (some src)).port q = s.port q :=
      (s.idleTalker_port (some src) q).resolve_right fun e => by simp [PortRec.inRelaySet, e.1] at hr
    obtain ⟨live, kind, fault⟩ := fit q hq (by rw [← same]; exact hr)
    have stays : ((s.idleTalker (some src)).setPatch n { s.patch n with
        state := .hang, talker := none, limit := none, hangLeft := (s.patch n).hangTime }).staysKeyed n q = true := by
      unfold State.staysKeyed
      rw [State.setPatch_patch_same, if_pos rfl, State.holdable_iff, State.setPatch_patch_same, State.setPatch_port, same]
      exact ⟨live, kind, PortRec.unparked_of (.inr (by rw [← same]; exact hr)), fault⟩
    rw [State.keyDecision_of_in (by exact hr), if_pos stays]

/-! ### Settled statements -/

/-- The keying unit's evaluation, record by record (R98). -/
theorem foldl_applyKey_port (D : PortId → KeyDecision) (l : List PortId) (s : State) (q : PortId) :
    (l.foldl (fun acc p => acc.applyKey p (D p)) s).port q = if q ∈ l then ((s.port q).decided (D q)).1 else s.port q := by
  have one (u : State) (p : PortId) : (u.applyKey p (D p)).port p = ((u.port p).decided (D p)).1 := by
    unfold State.applyKey State.keyMember State.unkeyMember PortRec.decided
    cases D p <;> simp [State.updPort_port]
  induction l generalizing s with
  | nil => simp
  | cons p l ih =>
    rw [List.foldl_cons, ih]
    by_cases e : q = p
    · subst e; rw [one, PortRec.decided_again, ite_self, if_pos List.mem_cons_self]
    · rw [State.applyKey_other _ e]; simp only [List.mem_cons, e, false_or]

theorem State.evalPatch_port (s : State) (n : SlotId) (q : PortId) :
    (s.evalPatch n).port q = if q ∈ (s.patch n).members then ((s.port q).decided (s.keyDecision n q)).1 else s.port q :=
  foldl_applyKey_port _ _ s q

theorem PortRec.unqualified_iff (r : PortRec) : r.qualified = false ↔ r.carrier = .clear ∨ r.carrier = .qualifying := by
  unfold PortRec.qualified; cases r.carrier <;> simp

/-- Settles O52: the decision on the member, and what it makes of its record. -/
theorem relaySetIsTheEligibleSet : Obligations.RelaySetIsTheEligibleSet := by
  unfold Obligations.RelaySetIsTheEligibleSet
  intro s n q _ hq hp r P held eligible t
  have port : t = (r.decided (s.keyDecision n q)).1 := (s.evalPatch_port n q).trans (if_pos hq)
  have isHeld : s.holdable n q = true ↔ held := State.holdable_iff
  have isEligible : s.eligible n q = true ↔ eligible := by
    rw [State.eligible_iff, isHeld, PortRec.unqualified_iff]
  have stays : s.staysKeyed n q = true ↔ if P.state = .hang then held else eligible := by
    unfold State.staysKeyed
    by_cases hang : (s.patch n).state = .hang
    · rw [if_pos hang, if_pos hang, isHeld]
    · rw [if_neg hang, if_neg hang, isEligible]
  refine ⟨fun out fit => ?_, fun out unfit => ?_, fun relays fit => ?_, fun relays unfit => ?_⟩
  · rw [port, State.keyDecision_of_out out, if_pos (isEligible.mpr fit)]
    refine ⟨r.decided_key_state, r.decided_key_keyUpLeft, ?_⟩
    rcases PortRec.inRelaySet_iff.mp r.keyed_relays with e | e <;> simp [PortRec.ptt, e]
  · rw [port, State.keyDecision_of_out out, if_neg (mt isEligible.mp unfit)]; rfl
  · rw [port, State.keyDecision_of_in relays, if_pos (stays.mpr fit)]; rfl
  · rw [port, State.keyDecision_of_in relays, if_neg (mt stays.mp unfit)]
    unfold PortRec.decided
    have state : (PortRec.remask r (r.unkeyInto .idle)).1.state = .idle := PortRec.remask_state _ _
    refine ⟨state, by unfold PortRec.ptt; rw [state], ?_⟩
    rw [PortRec.remask_guardLeft, PortRec.remask_keyUpLeft, PortRec.remask_startWindow, PortRec.remask_startCheck,
      PortRec.remask_lossLeft]
    exact ⟨rfl, rfl, rfl, rfl, rfl⟩

/-- Settles O17: in QUIET nobody is eligible, so every keyed member is unkeyed. -/
theorem hangRunsOut : Obligations.HangRunsOut := by
  unfold Obligations.HangRunsOut
  intro s n run none
  refine ⟨fun other => exec_running run rfl ?_, fun hang _ quiet => ?_⟩
  · show (s.hangRunsOut n).settle = s
    unfold State.hangRunsOut; rw [if_neg other, State.settle_of_none none]
  · let silent := s.setPatch n { s.patch n with state := .quiet, hangLeft := 0 }
    have here : silent.patch n = { s.patch n with state := .quiet, hangLeft := 0 } := State.setPatch_patch_same _ _ _
    have notEligible (q : PortId) : silent.eligible n q = false := State.eligible_of_silent (by simp [here]) (by simp [here]) q
    have eval := State.evalPatch_quiet (s := silent) (n := n) fun q hq => quiet q (by rw [here] at hq; exact hq)
    have members : (silent.patch n).members = (s.patch n).members := by rw [here]
    have final : exec (.hangExpiry n) s = .next (silent.evalPatch n) := by
      refine exec_running run rfl ?_
      show (s.hangRunsOut n).settle = _
      unfold State.hangRunsOut; rw [if_pos hang]
      exact State.settle_of_none (eval.raised.trans none)
    refine ⟨_, final, (eval.patch n).trans here, fun m hm => ?_, fun q hq hr => ?_, fun q not => ?_,
      eval.consoles, eval.links, eval.notices, eval.fixedPart⟩
    · rw [eval.patch, State.setPatch_patch, if_neg hm]
    · obtain ⟨carrier, qualify, drop, time⟩ := quiet q hq hr
      have stays : silent.staysKeyed n q = false := by
        unfold State.staysKeyed; rw [here, if_neg (by simp)]; exact notEligible q
      rw [eval.port, if_pos (by rw [members]; exact hq), State.keyDecision_of_in (by exact hr), if_neg (by simp [stays]),
        State.setPatch_port, PortRec.decided_unkey ⟨carrier, qualify, drop⟩ time]
    · rw [eval.port, members]
      split
      · rename_i hq
        have out : (s.port q).inRelaySet = false := by simpa using fun hr => not ⟨hq, hr⟩
        rw [State.keyDecision_of_out (by exact out), notEligible]; rfl
      · rfl

end Sys2Proof.Machine

/-! A carrier that is lost: the talker's release and the withdrawal of a waiting bid; a time-out. -/

namespace Sys2Proof.Machine

/-! ### The arbiter's part of a loss (R83, R84) -/

theorem State.portLosesPlace_talker {s : State} {p : PortId} {n : SlotId} (hp : (s.port p).patch = some n)
    (ht : (s.patch n).talker = some (.port p)) : s.portLosesPlace p = (s.release n none).evalPatch n := by
  unfold State.portLosesPlace; rw [hp]; exact if_pos ht

theorem State.portLosesPlace_listed {s : State} {p : PortId} {n : SlotId} (hp : (s.port p).patch = some n)
    (ht : (s.patch n).talker ≠ some (.port p)) (hb : .port p ∈ (s.patch n).bids) :
    s.portLosesPlace p = (s.withdraw n (.port p)).evalPatch n := by
  unfold State.portLosesPlace; rw [hp]
  exact (if_neg ht).trans (if_pos (List.contains_iff_mem.mpr hb))

/-- A port that talks alone and whose record is written anew in a state that talks still talks alone. -/
theorem State.talksAlone_setPort {s : State} {n : SlotId} {p : PortId} {r : PortRec} (h : s.talksAlone n (.port p))
    (hr : r.state = .talker) : (s.setPort p r).talksAlone n (.port p) := by
  obtain ⟨talk, talker, partner, bids, fit⟩ := h
  refine ⟨talk, talker, partner, bids, fun q hq relays => ?_⟩
  rw [State.setPort_port] at relays ⊢
  by_cases e : q = p
  · rw [if_pos e] at relays; simp [PortRec.inRelaySet, hr] at relays
  · rw [if_neg e] at relays ⊢; exact fit q hq relays

/-- In a patch neither in TALK nor in CLOSING an idle member is left alone (R97, R98). -/
theorem State.evalPort_idle {s : State} {p : PortId} {n : SlotId} (hs : (s.port p).state = .idle) (hp : (s.port p).patch = some n)
    (h : (s.patch n).state ≠ .talk) (h' : (s.patch n).state ≠ .closing) : s.evalPort p = s := by
  refine State.evalPort_of_leave (by simp [PortRec.isParked, hs]) hp ?_
  rw [State.keyDecision_of_out (by simp [PortRec.inRelaySet, hs]), State.eligible_of_silent h h']; rfl

/-- The loss of the carrier of a port that talks alone (R84, R85, R102). -/
theorem State.carrierLost_talker {s : State} {p : PortId} {n : SlotId} (hs : (s.port p).state = .talker) (hp : (s.port p).patch = some n)
    (h : s.talksAlone n (.port p)) (ht : 0 < (s.patch n).hangTime) :
    s.carrierLost p = (s.setPort p { (s.port p).unsupervised with state := .idle }).setPatch n { s.patch n with
      state := .hang, talker := none, limit := none, hangLeft := (s.patch n).hangTime } := by
  unfold State.carrierLost
  rw [State.portLosesPlace_talker hp h.2.1, State.release_talksAlone h ht, State.idleTalker_of_talker hs]
  refine State.evalPort_idle (n := n) ?_ ?_ ?_ ?_
  · rw [State.setPatch_port, State.setPort_port_same]
  · rw [State.setPatch_port, State.setPort_port_same]; exact hp
  · rw [State.setPatch_patch_same]; simp
  · rw [State.setPatch_patch_same]; simp

/-- Keying leaves a CLEAR carrier CLEAR (R11). -/
theorem PortRec.keyed_carrier {r : PortRec} (h : r.carrier = .clear) (hp : r.ptt = false) : (r.decided .key).1.carrier = .clear := by
  by_cases half : r.cfg.kind = .half
  · rw [PortRec.decided_key_half half (r.unqualified_iff.mpr (.inl h))]
    split
    · rw [PortRec.keyInto_carrier, h]
    · rfl
  · rw [PortRec.decided_key_other half hp, PortRec.keyInto_carrier, h]

/-- Settles O12: the lost carrier is handed on to the arbiter, which releases or withdraws. -/
theorem lostCarrierReleasesIntoHang : Obligations.LostCarrierReleasesIntoHang := by
  unfold Obligations.LostCarrierReleasesIntoHang
  intro s p run none r
  let cleared : PortRec := { r with carrier := .clear, dropLeft := 0 }
  have expires (t : State) : (s.writePort p r.dropExpires).settle = t → exec (.dropTimerExpiry p) s = .next t :=
    exec_running (f := fun t => (t.writePort p (t.port p).dropExpires).settle) run rfl
  have lost (t : State) : r.carrier = .dropping → (s.setPort p cleared).carrierLost p = t → t.raised = [] →
      exec (.dropTimerExpiry p) s = .next t := fun drops ht hr => expires _ (by
    rw [PortRec.dropExpires_of drops]; exact State.settle_writePort_one none ht hr)
  have port : (s.setPort p cleared).port p = cleared := State.setPort_port_same _ _ _
  refine ⟨fun other => expires _ ?_, fun drops free unparked => expires _ ?_, fun n drops talks hp alone time => ?_,
    fun n drops unmasked idle hp member _ talk others listed nodup quiet => ?_⟩
  · rw [show r.dropExpires = (r, []) from if_neg other, State.settle_writePort_none none, State.setPort_self]
  · rw [PortRec.dropExpires_of drops]
    exact State.settle_writePort_unpatched none (.inr ⟨_, rfl⟩) free unparked
  · refine lost _ drops ?_ none
    rw [State.carrierLost_talker (s := s.setPort p cleared) (n := n) (by rw [port]; exact talks) (by rw [port]; exact hp)
      (State.talksAlone_setPort (r := cleared) alone talks) time, port, State.setPort_setPort]
    rfl
  · let u := (s.setPort p cleared).withdraw n (.port p)
    have here : u.patch n = { s.patch n with bids := (s.patch n).bids.erase (.port p) } := State.setPatch_patch_same _ _ _
    have ports (q : PortId) : u.port q = if q = p then cleared else s.port q := State.setPort_port _ _ _ _
    have mine : u.port p = cleared := port
    have eval := State.evalPatch_quiet (s := u) (n := n) fun q hq relays => by
      rw [here] at hq
      by_cases e : q = p
      · rw [ports, if_pos e] at relays; simp [PortRec.inRelaySet, cleared, idle] at relays
      · rw [ports, if_neg e] at relays ⊢; exact quiet q hq relays
    have out : (u.port p).inRelaySet = false := by rw [mine]; simp [PortRec.inRelaySet, cleared, idle]
    have unparked : (u.port p).isParked = false := by rw [mine]; simp [PortRec.isParked, cleared, idle]
    have after : (u.evalPatch n).port p = ((u.port p).decided (u.keyDecision n p)).1 := by
      rw [eval.port, if_pos (by rw [here]; exact member)]
    have final : exec (.dropTimerExpiry p) s = .next (u.evalPatch n) := by
      refine lost _ drops ?_ (eval.raised.trans none)
      unfold State.carrierLost
      rw [State.portLosesPlace_listed (s := s.setPort p cleared) (n := n) (by rw [port]; exact hp) others listed]
      exact State.evalPort_settled (s := u) (n := n) (eval.patch n) unparked (by rw [mine]; exact hp) after
        fun h => by rw [State.keyDecision_unkey_relays h] at out; cases out
    have gone : .port p ∉ (s.patch n).bids.erase (.port p) := nodup.not_mem_erase
    have eligible : u.eligible n p = true ↔ (s.patch n).mode = .live ∧ r.cfg.kind ≠ .listenOnly ∧ r.fault = false := by
      rw [State.eligible_iff, State.holdable_iff, here, mine, show cleared.isParked = false by rw [← mine]; exact unparked]
      simp [talk, others, gone, PortRec.qualified, cleared]
    refine ⟨_, final, (eval.patch n).trans here, by rw [eval.patch, here]; exact gone, fun live kind fault => ?_, fun not => ?_,
      (timerExpiriesOnlyMoveTraffic s _ p n).2.1 final⟩
    · rw [after, State.keyDecision_of_out out, if_pos (eligible.mpr ⟨live, kind, fault⟩), mine]
      exact ⟨PortRec.decided_key_state _, PortRec.decided_key_keyUpLeft _, PortRec.keyed_carrier rfl (PortRec.ptt_of_rests
        (by rw [← mine]; exact out) (by rw [← mine]; exact unparked))⟩
    · have leaves : u.eligible n p = false := Bool.eq_false_iff.mpr fun e => by
        obtain ⟨live, kind, fault⟩ := eligible.mp e
        rcases not with h | h | h
        · rw [live] at h; cases h
        · exact kind h
        · rw [fault] at h; cases h
      rw [after, State.keyDecision_of_out out, leaves, mine]; rfl

end Sys2Proof.Machine

/-! Retirement, record by record: what becomes of the members, what is offered, and which carrier events it raises. -/

namespace Sys2Proof.Machine

/-! ### Carrier events of an update -/

/-- From s to t carrier events are raised of ports of P only. -/
def ReportsOnly (P : PortId → Prop) (s t : State) : Prop := ∀ e ∈ t.raised, e ∈ s.raised ∨ P e.port

theorem ReportsOnly.of_eq {P : PortId → Prop} {s t : State} (h : t.raised = s.raised) : ReportsOnly P s t := fun _ he => .inl (h ▸ he)

theorem ReportsOnly.trans {P : PortId → Prop} {s t u : State} (h : ReportsOnly P s t) (k : ReportsOnly P t u) : ReportsOnly P s u :=
  fun e he => (k e he).elim (h e) .inr

theorem reportsOnly_updPort {P : PortId → Prop} {p : PortId} (hp : P p) (s : State) (f : PortRec → PortRec) :
    ReportsOnly P s (s.updPort p f) := by
  intro e he
  rcases s.updPort_cases p f with h | ⟨_, h⟩ <;> rw [h] at he
  · simp only [State.writePort, State.raise, State.setPort_raised, List.mem_append, List.mem_map] at he
    rcases he with he | ⟨k, -, rfl⟩
    · exact .inl he
    · exact .inr hp
  · exact .inl (List.mem_of_mem_erase he)

/-- From s to t at most the raised events change. -/
structure OnlyEvents (s t : State) : Prop where
  rest : t = { s with raised := t.raised }

namespace OnlyEvents

variable {s t : State} (h : OnlyEvents s t)
include h

theorem port (p : PortId) : t.port p = s.port p := by rw [h.rest]; rfl
theorem patch (n : SlotId) : t.patch n = s.patch n := by rw [h.rest]; rfl
theorem console (c : Console) : t.console c = s.console c := by rw [h.rest]; rfl
theorem link (c : Console) : t.link c = s.link c := by rw [h.rest]; rfl
theorem notice (c : Console) : t.notice c = s.notice c := by rw [h.rest]; rfl
theorem kept {ns : List SlotId} {ps : List PortId} : Kept ns ps s t := by rw [h.rest]; exact kept_raised _ _

end OnlyEvents

/-- Events that move nothing leave at most events behind. -/
theorem State.settle_of_idle_events {s : State} (h : ∀ e ∈ s.raised, ∀ l, ({ s with raised := l } : State).handOn e = { s with raised := l }) :
    OnlyEvents s s.settle := by
  have all : ∀ (k : Nat) (l : List CarrierEvent), (∀ e ∈ l, ∀ l, ({ s with raised := l } : State).handOn e = { s with raised := l }) →
      ∃ l', settleN k { s with raised := l } = { s with raised := l' } := by
    intro k
    induction k with
    | zero => exact fun l _ => ⟨l, rfl⟩
    | succ k ih =>
      intro l hl
      cases l with
      | nil => exact ⟨[], rfl⟩
      | cons e l =>
        unfold settleN
        simp only []
        rw [hl e List.mem_cons_self]
        exact ih l fun x hx => hl x (List.mem_cons_of_mem _ hx)
  obtain ⟨l, e⟩ := all Config.carrierEventBound s.raised h
  have e : s.settle = { s with raised := l } := e
  exact ⟨by rw [e]⟩

/-- Events of ports in no patch and not parked are handed on to nobody (R9). -/
theorem State.settle_of_unpatched {s : State} (h : ∀ e ∈ s.raised, (s.port e.port).patch = none ∧ (s.port e.port).isParked = false) :
    OnlyEvents s s.settle :=
  State.settle_of_idle_events fun e he _ => State.handOn_unpatched e (h e he).1 (h e he).2

/-! ### Members that leave (R65) -/

theorem State.unkeyIfRelaying_of_rest {s : State} {p : PortId} (h : (s.port p).inRelaySet = false) : s.unkeyIfRelaying p = s :=
  if_neg (by simp [h])

theorem State.unkeyIfRelaying_of_relaying {s : State} {p : PortId} (h : (s.port p).inRelaySet = true) : s.unkeyIfRelaying p = s.unkeyMember p :=
  if_pos h

/-- A member unkeyed if it is in the relay set. -/
def PortRec.unkeyed (r : PortRec) : PortRec := if r.inRelaySet then (r.decided .unkey).1 else r

theorem PortRec.decided_unkey_state (r : PortRec) : (r.decided .unkey).1.state = .idle := PortRec.remask_state _ _

theorem PortRec.unkeyed_rests (r : PortRec) : r.unkeyed.inRelaySet = false := by
  unfold PortRec.unkeyed
  split
  · unfold PortRec.inRelaySet; rw [PortRec.decided_unkey_state]
  · rename_i h; simpa using h

theorem State.unkeyIfRelaying_port (s : State) (p q : PortId) :
    (s.unkeyIfRelaying p).port q = if q = p then (s.port q).unkeyed else s.port q := by
  unfold State.unkeyIfRelaying State.unkeyMember PortRec.unkeyed
  by_cases e : q = p
  · subst e
    rw [if_pos rfl, apply_ite (fun u : State => u.port q), State.updPort_port, if_pos rfl]; rfl
  · rw [if_neg e, apply_ite (fun u : State => u.port q), State.updPort_port, if_neg e, ite_self]

theorem PortRec.unkeyed_again (r : PortRec) : r.unkeyed.unkeyed = r.unkeyed := if_neg (by simp [r.unkeyed_rests])

theorem foldl_unkeyIfRelaying_port (l : List PortId) (s : State) (q : PortId) :
    (l.foldl State.unkeyIfRelaying s).port q = if q ∈ l then (s.port q).unkeyed else s.port q := by
  induction l generalizing s with
  | nil => simp
  | cons p l ih =>
    rw [List.foldl_cons, ih, State.unkeyIfRelaying_port]
    by_cases e : q = p
    · subst e; simp [PortRec.unkeyed_again]
    · simp [e]

theorem reportsOnly_unkeyIfRelaying (l : List PortId) (s : State) : ReportsOnly (fun p => p ∈ l ∧ (s.port p).inRelaySet = true) s
    (l.foldl State.unkeyIfRelaying s) := by
  have all (ps : List PortId) (hps : ∀ p ∈ ps, p ∈ l) (u : State) (hu : ∀ q, (u.port q).inRelaySet = true → (s.port q).inRelaySet = true) :
      ReportsOnly (fun p => p ∈ l ∧ (s.port p).inRelaySet = true) u (ps.foldl State.unkeyIfRelaying u) := by
    induction ps generalizing u with
    | nil => exact .of_eq rfl
    | cons p ps ih =>
      rw [List.foldl_cons]
      refine ReportsOnly.trans ?_ (ih (fun q hq => hps q (List.mem_cons_of_mem _ hq)) _ fun q hq => ?_)
      · cases hr : (u.port p).inRelaySet with
        | false => rw [State.unkeyIfRelaying_of_rest hr]; exact .of_eq rfl
        | true => rw [State.unkeyIfRelaying_of_relaying hr]; exact reportsOnly_updPort ⟨hps p List.mem_cons_self, hu p hr⟩ _ _
      · rw [State.unkeyIfRelaying_port] at hq
        split at hq
        · rw [PortRec.unkeyed_rests] at hq; cases hq
        · exact hu q hq
  exact all l (fun _ => id) s fun _ => id

/-- A port that is not in the relay set is masked as before when it leaves (R10). -/
theorem PortRec.leavePatch_masked {r : PortRec} (h : r.inRelaySet = false) : r.leavePatch.masked = r.masked := by
  unfold PortRec.leavePatch
  split
  · rfl
  · rename_i parked
    have detached : ({ r.restInto .detached with patch := none } : PortRec).ptt = false := rfl
    rw [PortRec.masked_of_unkeyed detached, PortRec.masked_of_unkeyed (PortRec.ptt_of_rests h (by simpa using parked))]
    rfl

theorem PortRec.leavePatch_again (r : PortRec) : r.leavePatch.leavePatch = r.leavePatch := by
  cases hk : r.isParked with
  | true =>
    have once : r.leavePatch = { r with patch := none } := if_pos hk
    have twice : ({ r with patch := none } : PortRec).leavePatch = { r with patch := none } := if_pos hk
    rw [once, twice]
  | false =>
    have once : r.leavePatch = { r.restInto .detached with patch := none } := if_neg (by simp [hk])
    rw [once]; rfl

theorem PortRec.leavePatch_unparked {r : PortRec} (h : r.isParked = false) :
    r.leavePatch = { r.unsupervised with state := .detached, patch := none } := if_neg (by simp [h])

theorem PortRec.leavePatch_isParked (r : PortRec) : r.leavePatch.isParked = r.isParked := by
  cases hk : r.isParked with
  | true => exact (congrArg PortRec.isParked (if_pos hk : r.leavePatch = { r with patch := none })).trans hk
  | false => rw [PortRec.leavePatch_unparked hk]; rfl

/-- Ports that are not in the relay set leave without a carrier event. -/
theorem onlyPorts_leavePatch (l : List PortId) (s : State) (h : ∀ q ∈ l, (s.port q).inRelaySet = false) :
    OnlyPorts s (l.foldl (fun a p => a.updPort p PortRec.leavePatch) s) (fun q => if q ∈ l then (s.port q).leavePatch else s.port q) := by
  induction l generalizing s with
  | nil => exact ⟨fun q => by simp, rfl⟩
  | cons p l ih =>
    rw [List.foldl_cons, State.updPort_of_masked (PortRec.leavePatch_masked (h p List.mem_cons_self))]
    have first (q : PortId) : (s.setPort p (s.port p).leavePatch).port q = if q = p then (s.port p).leavePatch else s.port q :=
      State.setPort_port s p q _
    have tail := ih (s.setPort p (s.port p).leavePatch) fun q hq => by
      rw [first]; split
      · exact PortRec.leavePatch_rests _
      · exact h q (List.mem_cons_of_mem _ hq)
    refine ⟨fun q => (tail.port q).trans ?_, tail.rest⟩
    rw [first]
    by_cases e : q = p
    · subst e; simp [PortRec.leavePatch_again]
    · simp [e]

/-! ### Retirement (R65, R66) -/

theorem State.offerRetired_notice (s : State) (n : SlotId) (but : Option Console) (c : Console) :
    (s.offerRetired n but).notice c = if but = some c then s.notice c else (s.notice c).offer ⟨.patchRetired, slotNumber n⟩ := by
  unfold State.offerRetired
  rcases but with _ | b
  · cases c <;> simp [State.offer_notice]
  · cases b <;> cases c <;> simp [State.offer_notice]

@[simp] theorem State.offerRetired_raised (s : State) (n : SlotId) (but : Option Console) : (s.offerRetired n but).raised = s.raised := by
  unfold State.offerRetired; split <;> split <;> simp

/-- The members of a patch that retires, before they leave it. -/
def State.retiring (s : State) (n : SlotId) : State :=
  (s.patch n).members.foldl State.unkeyIfRelaying
    (s.modPatch n (fun r => { r with bids := [], talker := none, partner := none, limit := none }))

theorem State.retiring_port (s : State) (n : SlotId) (q : PortId) :
    (s.retiring n).port q = if q ∈ (s.patch n).members then (s.port q).unkeyed else s.port q := foldl_unkeyIfRelaying_port _ _ q

theorem State.retiring_notice (s : State) (n : SlotId) (c : Console) : (s.retiring n).notice c = s.notice c := by
  refine foldl_keeps (I := fun t => t.notice c = s.notice c) (fun {t} p h => ?_) _ rfl
  unfold State.unkeyIfRelaying State.unkeyMember
  split
  · rw [State.updPort_notice, h]
  · exact h

theorem State.retire_left (s : State) (n : SlotId) : OnlyPorts (s.retiring n)
    ((s.patch n).members.foldl (fun a p => a.updPort p PortRec.leavePatch) (s.retiring n))
    (fun q => if q ∈ (s.patch n).members then ((s.retiring n).port q).leavePatch else (s.retiring n).port q) :=
  onlyPorts_leavePatch _ _ fun q hq => by rw [State.retiring_port, if_pos hq]; exact PortRec.unkeyed_rests _

/-- Retirement, port by port (R65). -/
theorem State.retire_port (s : State) (n : SlotId) (but : Option Console) (q : PortId) :
    (s.retire n but).port q = if q ∈ (s.patch n).members then (s.port q).unkeyed.leavePatch else s.port q := by
  have left := (s.retire_left n).port q
  rw [State.retiring_port] at left
  unfold State.retire
  rw [State.offerRetired_port, State.setPatch_port, State.modConsole_port, State.modConsole_port]
  refine left.trans ?_
  split <;> rfl

theorem State.retire_notice (s : State) (n : SlotId) (but : Option Console) (c : Console) : (s.retire n but).notice c =
    if but = some c then s.notice c else (s.notice c).offer ⟨.patchRetired, slotNumber n⟩ := by
  have left := (s.retire_left n).notice c
  rw [State.retiring_notice] at left
  unfold State.retire
  rw [State.offerRetired_notice, State.setPatch_notice]
  rw [show ∀ u : State, ((u.modConsole .A (fun r => r.forgetPatch n)).modConsole .B (fun r => r.forgetPatch n)).notice c = u.notice c from
    fun _ => rfl]
  exact congrArg (fun u : NoticeUnit => if but = some c then u else u.offer ⟨.patchRetired, slotNumber n⟩) left

/-- A member that leaves a patch as it retires is unparked where it was in the relay set. -/
theorem PortRec.unkeyed_unparked {r : PortRec} (h : r.inRelaySet = true) : r.unkeyed.isParked = false := by
  have unkeys : r.unkeyed = (r.decided .unkey).1 := if_pos h
  unfold PortRec.isParked; rw [unkeys, PortRec.decided_unkey_state]

/-- What retirement raises is of members that were keyed, and so of ports in no patch and not parked. -/
theorem State.retire_reports (s : State) (n : SlotId) (but : Option Console) :
    ReportsOnly (fun p => ((s.retire n but).port p).patch = none ∧ ((s.retire n but).port p).isParked = false) s (s.retire n but) := by
  intro e he
  have raised : (s.retire n but).raised = (s.retiring n).raised := by
    unfold State.retire
    rw [State.offerRetired_raised]
    exact (s.retire_left n).raised
  rw [raised] at he
  rcases reportsOnly_unkeyIfRelaying _ _ e he with h | ⟨member, relays⟩
  · exact .inl h
  · refine .inr ⟨by rw [State.retire_portPatch, if_pos member], ?_⟩
    rw [State.retire_port, if_pos member, PortRec.leavePatch_isParked]
    exact PortRec.unkeyed_unparked relays

/-- An evaluation of a patch without members. -/
theorem State.evalPatch_of_empty {s : State} {n : SlotId} (h : (s.patch n).members = []) : s.evalPatch n = s := by
  unfold State.evalPatch; rw [h]; rfl

/-! ### Notices offered -/

theorem NoticeUnit.offered_stays {u : NoticeUnit} {e f : Notice}
    (h : e ∈ u.entries ∨ maskEnables u.mask e.kind = false ∨ u.overflow = true) :
    e ∈ (u.offer f).entries ∨ maskEnables (u.offer f).mask e.kind = false ∨ (u.offer f).overflow = true := by
  rcases h with h | h | h
  · exact .inl (u.offer_entries f e h)
  · exact .inr (.inl (by rw [NoticeUnit.offer_mask]; exact h))
  · refine .inr (.inr ?_)
    unfold NoticeUnit.offer
    split
    · exact h
    · split
      · exact h
      · split
        · rfl
        · exact h

theorem NoticeUnit.offered_offer (u : NoticeUnit) (e : Notice) :
    e ∈ (u.offer e).entries ∨ maskEnables (u.offer e).mask e.kind = false ∨ (u.offer e).overflow = true := by
  rw [NoticeUnit.offer_mask]
  cases hm : maskEnables u.mask e.kind with
  | false => exact .inr (.inl rfl)
  | true =>
    by_cases mem : e ∈ u.entries
    · exact .inl (u.offer_entries e e mem)
    · by_cases room : 32 ≤ u.entries.length
      · exact .inr (.inr (by rw [NoticeUnit.offer_of_full hm mem room]))
      · exact .inl (by rw [NoticeUnit.offer_of_room hm mem (Nat.lt_of_not_le room)]; simp)

/-! ### A time-out (R118 to R120) -/

theorem State.reachesLimit_of {s : State} {n : SlotId} {p : PortId} {k : Nat} (ht : (s.patch n).talker = some (.port p))
    (hl : (s.patch n).limit = some k) (hk : 0 < k) (he : k ≤ (s.patch n).elapsed + 1) :
    s.reachesLimit n = (s.setPatch n { s.patch n with elapsed := k }).timesOut n p := by
  unfold State.reachesLimit
  rw [PatchRec.portTalker_eq_some.mpr ht, hl]
  exact if_pos ⟨hk, he⟩

theorem State.reachesLimit_of_none {s : State} {n : SlotId}
    (h : (s.patch n).portTalker = none ∨ (s.patch n).limit = none ∨ (s.patch n).limit = some 0) : s.reachesLimit n = s := by
  unfold State.reachesLimit
  split
  · rename_i p k ht hl
    rcases h with h | h | h
    · rw [h] at ht; cases ht
    · rw [h] at hl; cases hl
    · rw [h] at hl; cases hl; exact if_neg (by simp)
  · rfl

/-- The talker locked out, with its notice (R119). -/
def State.lockedOut (s : State) (n : SlotId) (p : PortId) : State :=
  (s.setPort p { s.port p with lockoutLeft := (s.patch n).lockoutTime * 1000 }).offerBoth ⟨.timeOut, portNumber p⟩

theorem State.timesOut_eq (s : State) (n : SlotId) (p : PortId) :
    s.timesOut n p = ((s.lockedOut n p).release n none).evalPatch n := by
  unfold State.timesOut State.lockedOut
  rw [State.updPort_of_masked rfl]

theorem State.setPatch_setPort (s : State) (n : SlotId) (a : PatchRec) (p : PortId) (r : PortRec) :
    (s.setPatch n a).setPort p r = (s.setPort p r).setPatch n a := rfl

theorem State.lockedOut_port (s : State) (n : SlotId) (p : PortId) (q : PortId) : (s.lockedOut n p).port q =
    if q = p then { s.port p with lockoutLeft := (s.patch n).lockoutTime * 1000 } else s.port q :=
  (State.offerBoth_port _ _ _).trans (State.setPort_port _ _ _ _)

theorem State.lockedOut_patch (s : State) (n : SlotId) (p : PortId) (m : SlotId) : (s.lockedOut n p).patch m = s.patch m :=
  State.offerBoth_patch _ _ _

theorem State.lockedOut_notice (s : State) (n : SlotId) (p : PortId) (c : Console) :
    (s.lockedOut n p).notice c = (s.notice c).offer ⟨.timeOut, portNumber p⟩ := State.offerBoth_notice _ _ _

theorem State.lockedOut_raised (s : State) (n : SlotId) (p : PortId) : (s.lockedOut n p).raised = s.raised :=
  State.offerBoth_raised _ _

/-- The time-out of a talker that talks alone (R84, R85, R119). -/
theorem State.timesOut_talksAlone {s : State} {n : SlotId} {p : PortId} (h : s.talksAlone n (.port p)) (ht : 0 < (s.patch n).hangTime)
    (hs : (s.port p).state = .talker) : s.timesOut n p = ((s.setPort p { (s.port p).unsupervised with
      lockoutLeft := (s.patch n).lockoutTime * 1000, state := .idle }).setPatch n { s.patch n with
      state := .hang, talker := none, limit := none, hangLeft := (s.patch n).hangTime }).offerBoth ⟨.timeOut, portNumber p⟩ := by
  have mine := (s.lockedOut_port n p p).trans (if_pos rfl)
  have alone : (s.lockedOut n p).talksAlone n (.port p) := by
    have k := State.talksAlone_setPort (r := { s.port p with lockoutLeft := (s.patch n).lockoutTime * 1000 }) h hs
    rw [State.talksAlone, State.lockedOut_patch]
    obtain ⟨talk, talker, partner, bids, fit⟩ := k
    exact ⟨talk, talker, partner, bids, fun q hq relays => by
      rw [State.lockedOut_port, ← State.setPort_port] at relays ⊢; exact fit q hq relays⟩
  rw [State.timesOut_eq, State.release_talksAlone alone (by rw [State.lockedOut_patch]; exact ht),
    State.idleTalker_of_talker (by rw [mine]; exact hs), mine, State.lockedOut_patch]
  unfold State.lockedOut
  rw [State.setPort_offerBoth, State.setPort_setPort, State.setPatch_offerBoth, State.setPort_offerBoth]
  rfl

/-- The time-out of the talker of a CLOSING patch retires it (R86). -/
theorem State.timesOut_closing {s : State} {n : SlotId} {p : PortId} (hc : (s.patch n).state = .closing) :
    s.timesOut n p = ((s.lockedOut n p).dropTalker n).retire n none := by
  have released : (s.lockedOut n p).release n none = ((s.lockedOut n p).dropTalker n).retire n none := by
    unfold State.release
    rw [State.lockedOut_patch, if_pos hc]
  rw [State.timesOut_eq, released]
  exact State.evalPatch_of_empty (by rw [State.retire_patch, if_pos rfl]; rfl)

theorem State.dropTalker_of_talker {s : State} {n : SlotId} {p : PortId} (ht : (s.patch n).talker = some (.port p))
    (hs : (s.port p).state = .talker) : s.dropTalker n =
      (s.setPort p { (s.port p).unsupervised with state := .idle }).setPatch n { s.patch n with talker := none, limit := none } := by
  unfold State.dropTalker State.modPatch
  rw [State.setPatch_idleTalker, ht, State.idleTalker_of_talker hs]

/-- After a retirement neither console talks to the patch (R65). -/
theorem ConsoleRec.forgetPatch_target (r : ConsoleRec) (n : SlotId) :
    (r.forgetPatch n).target = if r.target = .patch n then .none else r.target := rfl

theorem ConsoleRec.forgetPatch_target_ne (r : ConsoleRec) (n : SlotId) : (r.forgetPatch n).target ≠ .patch n := by
  rw [ConsoleRec.forgetPatch_target]
  split
  · exact nofun
  · assumption

/-- What a talker that times out in CLOSING leaves: its patch retired, both notices offered (R65, R66, R86, R119). -/
structure TimedOutClosing (s t : State) (n : SlotId) (p : PortId) : Prop where
  patch : t.patch n = PatchRec.unused
  talker : p ∈ (s.patch n).members → t.port p = { (s.port p).unsupervised with
    lockoutLeft := (s.patch n).lockoutTime * 1000, state := .detached, patch := none }
  members : ∀ q ∈ (s.patch n).members, (t.port q).patch = none
  target : ∀ c, (t.console c).target ≠ .patch n
  notice : ∀ c, t.notice c = ((s.notice c).offer ⟨.timeOut, portNumber p⟩).offer ⟨.patchRetired, slotNumber n⟩
  kept : Kept [] [] (s.setPort p { s.port p with lockoutLeft := (s.patch n).lockoutTime * 1000 }) t

theorem kept_lockedOut (s : State) (n : SlotId) (p : PortId) :
    Kept [] [] (s.setPort p { s.port p with lockoutLeft := (s.patch n).lockoutTime * 1000 }) (s.lockedOut n p) := kept_offerBoth _ _

theorem State.timesOut_retires {s : State} {n : SlotId} {p : PortId} (hc : (s.patch n).state = .closing)
    (ht : (s.patch n).talker = some (.port p)) (hs : (s.port p).state = .talker) (none : s.raised = []) :
    TimedOutClosing s (s.timesOut n p).settle n p := by
  have mine := (s.lockedOut_port n p p).trans (if_pos rfl)
  have dropped := State.dropTalker_of_talker (s := s.lockedOut n p) (n := n) (p := p) (by rw [State.lockedOut_patch]; exact ht)
    (by rw [mine]; exact hs)
  have kept := (kept_lockedOut s n p).trans (kept_dropTalker (s.lockedOut n p) n)
  rw [State.timesOut_closing hc]
  have members : (((s.lockedOut n p).dropTalker n).patch n).members = (s.patch n).members := by
    rw [dropped, State.setPatch_patch_same, State.lockedOut_patch]
  have port : ((s.lockedOut n p).dropTalker n).port p =
      { (s.port p).unsupervised with lockoutLeft := (s.patch n).lockoutTime * 1000, state := .idle } := by
    rw [dropped, State.setPatch_port, State.setPort_port_same, mine]; rfl
  have notice (c : Console) : ((s.lockedOut n p).dropTalker n).notice c = (s.notice c).offer ⟨.timeOut, portNumber p⟩ := by
    rw [dropped, State.setPatch_notice, State.setPort_notice, State.lockedOut_notice]
  have raised : ((s.lockedOut n p).dropTalker n).raised = [] := by
    rw [dropped, State.setPatch_raised, State.setPort_raised, State.lockedOut_raised, none]
  generalize (s.lockedOut n p).dropTalker n = d at kept members port notice raised
  have settled := State.settle_of_unpatched (s := d.retire n .none) fun e he =>
    (d.retire_reports n .none e he).resolve_left (by rw [raised]; exact List.not_mem_nil)
  constructor
  · rw [settled.patch, State.retire_patch, if_pos rfl]
  · intro member
    rw [settled.port, State.retire_port, if_pos (by rw [members]; exact member), port]; rfl
  · intro q hq
    rw [settled.port, State.retire_portPatch, if_pos (by rw [members]; exact hq)]
  · intro c
    rw [settled.console, State.retire_console]; exact ConsoleRec.forgetPatch_target_ne _ _
  · intro c
    rw [settled.notice, State.retire_notice, if_neg (by simp), notice]
  · exact kept.trans ((kept_retire d n .none).trans settled.kept)

/-- Settles O18. -/
theorem timeOutLocksAndReleases : Obligations.TimeOutLocksAndReleases := by
  unfold Obligations.TimeOutLocksAndReleases
  intro s n run none
  have runs (t : State) : (s.reachesLimit n).settle = t → exec (.timeOut n) s = .next t :=
    exec_running (f := fun t => (t.reachesLimit n).settle) run rfl
  refine ⟨fun nobody => runs _ ?_, fun k limit short => runs _ ?_, fun p k alone limit pos reached time talks => runs _ ?_,
    fun p k closing talker limit pos reached talks hp agree => ?_⟩
  · rw [State.reachesLimit_of_none nobody, State.settle_of_none none]
  · rw [State.reachesLimit_short limit short, State.settle_of_none none]
  · have here : (s.setPatch n { s.patch n with elapsed := k }).patch n = { s.patch n with elapsed := k } := State.setPatch_patch_same _ _ _
    have alone' : (s.setPatch n { s.patch n with elapsed := k }).talksAlone n (.port p) := by rw [State.talksAlone, here]; exact alone
    rw [State.reachesLimit_of alone.2.1 limit pos reached, State.timesOut_talksAlone alone' (by rw [here]; exact time) talks, here,
      State.settle_of_none (by rw [State.offerBoth_raised]; exact none), State.setPatch_setPort, State.setPatch_setPatch]
    rfl
  · have closed := State.timesOut_retires (s := s.setPatch n { s.patch n with elapsed := k }) (n := n) (p := p)
      (by rw [State.setPatch_patch_same]; exact closing) (by rw [State.setPatch_patch_same]; exact talker) talks none
    have final := runs _ (by rw [State.reachesLimit_of talker limit pos reached])
    generalize ((s.setPatch n { s.patch n with elapsed := k }).timesOut n p).settle = t at closed final
    obtain ⟨patch, port, members, target, notice, kept⟩ := closed
    rw [State.setPatch_patch_same] at port members kept
    refine ⟨t, final, patch, port ((agree.1 n p).mpr hp), members, fun c => ⟨target c, ?_, ?_⟩, ?_⟩
    · rw [State.offered, notice]; exact NoticeUnit.offered_stays (NoticeUnit.offered_offer _ _)
    · rw [State.offered, notice]; exact NoticeUnit.offered_offer _ _
    · exact ((kept_setPatch (s := s.setPort p _) (n := n) (r := { s.patch n with elapsed := k }) (.inr (.inl rfl))).trans kept).frame

end Sys2Proof.Machine

/-! The outcome of a release and of a partner that leaves (R85, R86, R89). -/

namespace Sys2Proof.Machine

theorem State.idleTalker_console (s : State) (src : Option Source) (c : Console) : (s.idleTalker src).console c = s.console c := by
  unfold State.idleTalker; split
  · split
    · rw [State.updPort_console]
    · rfl
  · rfl

theorem State.idleTalker_notice (s : State) (src : Option Source) (c : Console) : (s.idleTalker src).notice c = s.notice c := by
  unfold State.idleTalker; split
  · split
    · rw [State.updPort_notice]
    · rfl
  · rfl

theorem State.dropTalker_console (s : State) (n : SlotId) (c : Console) : (s.dropTalker n).console c = s.console c :=
  State.idleTalker_console _ _ _

theorem State.dropTalker_notice (s : State) (n : SlotId) (c : Console) : (s.dropTalker n).notice c = s.notice c :=
  State.idleTalker_notice _ _ _

/-- A release in CLOSING retires the patch (R86). -/
theorem State.release_closing {s : State} {n : SlotId} (h : (s.patch n).state = .closing) (but : Option Console) :
    s.release n but = (s.dropTalker n).retire n but := if_pos h

theorem ConsoleRec.mem_forgetPatch_listen (r : ConsoleRec) (n : SlotId) (e : ListenEntry) :
    e ∈ (r.forgetPatch n).listen ↔ e ∈ r.listen ∧ e.patch ≠ n := by
  unfold ConsoleRec.forgetPatch
  simp [List.mem_filter]

/-- The first console behind ports alone. -/
theorem firstConsole_append {before : List Source} (h : ∀ e ∈ before, ∃ q, e = .port q) (d : Console) (after : List Source) :
    firstConsole (before ++ .console d :: after) = some d := by
  induction before with
  | nil => rfl
  | cons e before ih =>
    obtain ⟨q, rfl⟩ := h e List.mem_cons_self
    exact ih fun x hx => h x (List.mem_cons_of_mem _ hx)

theorem firstConsole_eq_none {l : List Source} (h : ∀ d, .console d ∉ l) : firstConsole l = none := by
  cases e : firstConsole l with
  | none => rfl
  | some d => exact absurd (firstConsole_mem e) (h d)

theorem PatchRec.vacatePartner_followed {r : PatchRec} {p : PortId} {d : Console} (hs : r.state = .talk) (ht : r.talker = some (.port p))
    (hd : firstConsole r.bids = some d) : r.vacatePartner = { r with partner := some d, bids := r.bids.erase (.console d) } := by
  unfold PatchRec.vacatePartner
  rw [if_pos ⟨hs, PatchRec.portTalker_isSome.mpr ⟨p, ht⟩⟩, hd]

theorem PatchRec.vacatePartner_alone {r : PatchRec} (h : r.state ≠ .talk ∨ (∀ p, r.talker ≠ some (.port p)) ∨ (∀ d, .console d ∉ r.bids)) :
    r.vacatePartner = { r with partner := none } := by
  have nobody : (if r.state = .talk ∧ r.portTalker.isSome then firstConsole r.bids else none) = none := by
    split
    · rename_i talks
      obtain ⟨p, talker⟩ := PatchRec.portTalker_isSome.mp talks.2
      rcases h with h | h | h
      · exact absurd talks.1 h
      · exact absurd talker (h p)
      · exact firstConsole_eq_none h
    · rfl
  unfold PatchRec.vacatePartner
  rw [nobody]

/-- A partner that leaves is followed or not, and nothing else of the patch changes (R74, R89). -/
theorem State.consoleLeaves_partner {s : State} {c : Console} {n : SlotId} (hp : (s.patch n).partner = some c)
    (ht : (s.patch n).talker ≠ some (.console c)) : (s.consoleLeaves c n).patch n = (s.patch n).vacatePartner := by
  unfold State.consoleLeaves
  rw [if_neg ht, if_pos hp]
  exact ((still_evalPatch _ n).patch n List.not_mem_nil).trans (State.setPatch_patch_same _ _ _)

/-- Settles O51. -/
theorem releaseHasItsOutcome : Obligations.ReleaseHasItsOutcome := by
  unfold Obligations.ReleaseHasItsOutcome
  refine ⟨fun s n but talk => ?_, fun s n but closing => ?_, fun s n c partner talker => ?_⟩
  · have released : (s.release n but).patch n = (s.patch n).released :=
      (State.release_patch (by simp [talk]) but n).trans (if_pos rfl)
    simp only [released]
    refine ⟨fun d partner => ?_, fun b l partner bids => ?_, fun partner bids => ?_⟩
    · simp [PatchRec.released, partner, PatchRec.granted, PatchRec.dropped, isConsole]
    · simp [PatchRec.released, partner, bids, PatchRec.granted, PatchRec.dropped]
    · have outcome : (s.patch n).released = if (s.patch n).hangTime = 0 then { (s.patch n).dropped with state := .quiet }
          else { (s.patch n).dropped with state := .hang, hangLeft := (s.patch n).hangTime } := by
        unfold PatchRec.released; rw [partner, bids]
      by_cases time : (s.patch n).hangTime = 0
      · rw [outcome, if_pos time]
        exact ⟨rfl, rfl, fun pos => absurd pos (by simp [time]), fun _ => rfl⟩
      · rw [outcome, if_neg time]
        exact ⟨rfl, rfl, fun _ => ⟨rfl, rfl⟩, fun zero => absurd zero time⟩
  · have members : ((s.dropTalker n).patch n).members = (s.patch n).members := by rw [State.dropTalker_patch_eq, if_pos rfl]; rfl
    simp only [State.release_closing closing]
    refine ⟨by rw [State.retire_patch, if_pos rfl], fun m other => ?_, fun p member => ⟨?_, ?_⟩, fun c => ?_, fun c => ?_⟩
    · rw [State.retire_patch, if_neg other, State.dropTalker_patch_eq, if_neg other]
    · rw [State.retire_portPatch, if_pos (by rw [members]; exact member)]
    · rw [State.retire_port, if_pos (by rw [members]; exact member)]; exact PortRec.leavePatch_rests _
    · rw [State.retire_console, State.dropTalker_console]
      exact ⟨rfl, rfl, fun e => ConsoleRec.mem_forgetPatch_listen _ _ _⟩
    · rw [State.retire_notice, State.dropTalker_notice]
  · simp only [State.consoleLeaves_partner partner talker]
    refine ⟨fun p d before after talk port bids ports => ?_, PatchRec.vacatePartner_alone⟩
    have follows : firstConsole (s.patch n).bids = some d := by rw [bids]; exact firstConsole_append ports d after
    have absent : .console d ∉ before := fun mem => by obtain ⟨q, e⟩ := ports _ mem; cases e
    rw [PatchRec.vacatePartner_followed talk port follows, bids, List.erase_append_right _ absent, List.erase_cons_head]

end Sys2Proof.Machine

/-! The supervision of a keyed port: TXS_CHANGE, the ends of key-up, start window and loss count, and SET_PORT of transmit sense. The
stages of SET_PORT stand here once. -/

namespace Sys2Proof.Machine

/-! ### SET_PORT, stage by stage (R20, R21) -/

/-- A change of settings that passes its checks: stored, handed on, and answered with the settings as they then stand. -/
theorem exec_setPort {s u : State} {c : Console} {p : PortId} {sel : PortSelection} (hs : s.readyFor c)
    (checks : firstRefusal (setPortChecks sel) = none)
    (h : (((s.heard c).updPort p (fun r => { r with cfg := r.cfg.store sel })).settingsChange p (s.port p)).settle = u) :
    exec (.setPort c (portNumber p) sel) s = .next (u.replied c (okOrClamped (PortSelection.clamped sel) (u.settingsImage p))) := by
  refine exec_of_ready rfl hs ?_
  show doSetPort (portNumber p) sel (s.heard c) = _
  unfold doSetPort State.checked
  rw [State.onPort_portNumber, checks]
  subst h
  rfl

/-- Settings that keep their kind are stored by a plain write (R10). -/
theorem State.updPort_store {s : State} {p : PortId} {sel : PortSelection} (h : ((s.port p).cfg.store sel).kind = (s.port p).cfg.kind) :
    s.updPort p (fun r => { r with cfg := r.cfg.store sel }) = s.setPort p { s.port p with cfg := (s.port p).cfg.store sel } :=
  State.updPort_of_masked (by unfold PortRec.masked; rw [h]; rfl)

theorem State.baseChanges_same {s : State} {p : PortId} {old : Nat} (h : (s.port p).cfg.basePriority = old) : s.baseChanges p old = s :=
  if_pos (.inl h)

theorem State.kindChanges_same {s : State} {p : PortId} {old : PortKind} (h : (s.port p).cfg.kind = old) : s.kindChanges p old = s := if_pos h

theorem State.inputsChange_same {s : State} {p : PortId} {old : PortRec} (hp : (s.port p).cfg.corPolarity = old.cfg.corPolarity)
    (hg : (s.port p).cfg.glitchFilter = old.cfg.glitchFilter) : s.inputsChange p old = s := by
  unfold State.inputsChange
  simp only [hp, hg, and_self, if_true]

theorem PortRec.senseChanges_masked (r : PortRec) (old : Bool) : (r.senseChanges old).masked = r.masked := by
  rw [PortRec.senseChanges_frame]; rfl

theorem State.updPort_sense (s : State) (p : PortId) (old : Bool) :
    s.updPort p (fun r => r.senseChanges old) = s.setPort p ((s.port p).senseChanges old) :=
  State.updPort_of_masked (PortRec.senseChanges_masked _ _)

theorem PortRec.senseChanges_same {r : PortRec} {old : Bool} (h : r.cfg.transmitSense = old) : r.senseChanges old = r := if_pos h

theorem State.emgModeChanges_same {s : State} {p : PortId} {old : EmgMode} (h : (s.port p).cfg.emgMode = old) : s.emgModeChanges p old = s := by
  unfold State.emgModeChanges
  rw [h]
  cases old <;> rfl

/-- Stored settings that change transmit sense at most (R110). -/
theorem State.settingsChange_sense {s : State} {p : PortId} {old : PortRec}
    (h : (s.port p).cfg = { old.cfg with transmitSense := (s.port p).cfg.transmitSense }) :
    s.settingsChange p old = s.setPort p ((s.port p).senseChanges old.cfg.transmitSense) := by
  unfold State.settingsChange
  rw [State.baseChanges_same (by rw [h]), State.kindChanges_same (by rw [h]), State.inputsChange_same (by rw [h]) (by rw [h]),
    State.updPort_sense, State.emgModeChanges_same]
  rw [State.setPort_port_same, PortRec.senseChanges_frame]
  show (s.port p).cfg.emgMode = _
  rw [h]

/-! ### Supervision on a record (R107, R108, R110) -/

theorem PortRec.txsTo_off {r : PortRec} {l : Level} (h : r.txsPin = l ∨ r.cfg.transmitSense = false) : r.txsTo l = { r with txsPin := l } :=
  if_pos (h.imp id fun e => by simp [e])

theorem PortRec.txsTo_low {r : PortRec} (hp : r.txsPin ≠ .low) (hs : r.cfg.transmitSense = true) :
    r.txsTo .low = if r.ptt && r.startCheck == .pending then { r with txsPin := .low, startCheck := .passed, startWindow := 0, lossLeft := 0 }
      else { r with txsPin := .low, lossLeft := 0 } := (if_neg (by simp [hp, hs])).trans (if_pos rfl)

theorem PortRec.txsTo_high {r : PortRec} (hp : r.txsPin ≠ .high) (hs : r.cfg.transmitSense = true) :
    r.txsTo .high = if r.lossSupervised then { r with txsPin := .high, lossLeft := 250 } else { r with txsPin := .high } :=
  (if_neg (by simp [hp, hs])).trans (if_neg (by simp [Level.isLow]))

theorem PortRec.lossSupervised_iff (r : PortRec) : r.lossSupervised = true ↔
    r.cfg.transmitSense = true ∧ (r.state = .relay ∨ r.state = .parkedRelay) ∧ r.startCheck = .passed := by
  have relaying : r.relaying = true ↔ r.state = .relay ∨ r.state = .parkedRelay := by
    unfold PortRec.relaying; cases r.state <;> simp
  simp only [PortRec.lossSupervised, Bool.and_eq_true, beq_iff_eq, relaying, and_assoc]

theorem PortRec.txsActive_iff (r : PortRec) : r.txsActive = true ↔ r.txsPin = .low := by
  unfold PortRec.txsActive; cases r.txsPin <;> simp [Level.isLow]

theorem PortRec.txsInactive_iff (r : PortRec) : r.txsActive = false ↔ r.txsPin = .high := by
  unfold PortRec.txsActive; cases r.txsPin <;> simp [Level.isLow]

theorem StartCheck.passed_or (x : StartCheck) : x = .passed ∨ x = .pending := by cases x <;> simp

theorem PortRec.lossAtEntry_eq (r : PortRec) :
    r.lossAtEntry = if r.cfg.transmitSense = true ∧ r.startCheck = .passed ∧ r.txsPin = .high then 250 else 0 := by
  unfold PortRec.lossAtEntry
  simp only [Bool.and_eq_true, beq_iff_eq, Bool.not_eq_true', PortRec.txsInactive_iff, and_assoc]
  rfl

/-! ### The end of a key-up (R100, R112) -/

/-- RELAY is entered with PTT asserted without a break, so that the machine is masked as before (R10, R100). -/
theorem State.keyUpRunsOut_keyUp {s : State} {p : PortId} (h : (s.port p).state = .keyUp) :
    s.keyUpRunsOut p = s.setPort p ((s.port p).keyUpEnds .relay) := by
  unfold State.keyUpRunsOut; rw [h]
  exact State.updPort_of_masked (by simp [PortRec.masked, PortRec.keyUpEnds, PortRec.ptt, PortRec.parkedKeyed, h]; rfl)

theorem State.keyUpRunsOut_parkedKeyUp {s : State} {p : PortId} (h : (s.port p).state = .parkedKeyUp) :
    s.keyUpRunsOut p = s.setPort p ((s.port p).keyUpEnds .parkedRelay) := by
  unfold State.keyUpRunsOut; rw [h]
  exact State.updPort_of_masked (by simp [PortRec.masked, PortRec.keyUpEnds, PortRec.ptt, PortRec.parkedKeyed, h])

theorem State.keyUpRunsOut_other {s : State} {p : PortId} (h : (s.port p).state ≠ .keyUp) (h' : (s.port p).state ≠ .parkedKeyUp) :
    s.keyUpRunsOut p = s := by
  unfold State.keyUpRunsOut
  split
  · exact absurd ‹_› h
  · exact absurd ‹_› h'
  · rfl

/-! ### The change of transmit sense on a record (R110) -/

theorem PortRec.senseChanges_off {r : PortRec} {old : Bool} (hd : r.cfg.transmitSense ≠ old) (h : r.cfg.transmitSense = false) :
    r.senseChanges old = { r with startWindow := 0, startCheck := .pending, lossLeft := 0 } :=
  (if_neg hd).trans (if_pos (by simp [h]))

theorem PortRec.senseChanges_unkeyed {r : PortRec} {old : Bool} (hd : r.cfg.transmitSense ≠ old) (h : r.cfg.transmitSense = true)
    (hp : r.ptt = false) : r.senseChanges old = r :=
  (if_neg hd).trans ((if_neg (by simp [h])).trans (if_neg (by simp [hp])))

theorem PortRec.senseChanges_keyed {r : PortRec} {old : Bool} (hd : r.cfg.transmitSense ≠ old) (h : r.cfg.transmitSense = true)
    (hp : r.ptt = true) : r.senseChanges old = r.startSupervision ((if r.relaying then 0 else r.keyUpLeft) + 250) :=
  (if_neg hd).trans ((if_neg (by simp [h])).trans (if_pos hp))

theorem PortRec.startSupervision_waits {r : PortRec} (h : r.cfg.transmitSense = true) (ht : r.txsActive = false) (w : Nat) :
    r.startSupervision w = { r with startWindow := w, startCheck := .pending, lossLeft := 0 } :=
  (if_neg (by simp [h])).trans (if_neg (by simp [ht]))

/-- A keyed port that is not relaying is in its key-up (R99, R112). -/
theorem PortRec.keyUp_of_ptt {r : PortRec} (h : r.ptt = true) : r.relaying = false ↔ r.state = .keyUp ∨ r.state = .parkedKeyUp := by
  unfold PortRec.ptt at h; unfold PortRec.relaying
  cases e : r.state <;> simp_all

/-- The window that is left of a key-up as transmit sense is switched on (R110). -/
theorem PortRec.senseWindow_eq {r : PortRec} (h : r.ptt = true) :
    (if r.relaying then 0 else r.keyUpLeft) = if r.state = .keyUp ∨ r.state = .parkedKeyUp then r.keyUpLeft else 0 := by
  cases relays : r.relaying with
  | false => exact (if_pos ((PortRec.keyUp_of_ptt h).mp relays)).symm
  | true => exact (if_neg fun e => by rw [(PortRec.keyUp_of_ptt h).mpr e] at relays; cases relays).symm

/-- Transmit sense taken to a value, the supervision with it (R110). -/
theorem PortRec.senseChanges_table (r : PortRec) (on : Bool) :
    ({ r with cfg := { r.cfg with transmitSense := on } } : PortRec).senseChanges r.cfg.transmitSense =
      if r.cfg.transmitSense = on then r
      else if on = false then { r with
        cfg := { r.cfg with transmitSense := on }, startWindow := 0, startCheck := .pending, lossLeft := 0 }
      else if r.ptt = false then { r with cfg := { r.cfg with transmitSense := on } }
      else if r.txsPin = .low then { r with
        cfg := { r.cfg with transmitSense := on }, startWindow := 0, startCheck := .passed, lossLeft := 0 }
      else { r with
        cfg := { r.cfg with transmitSense := on }
        startWindow := (if r.state = .keyUp ∨ r.state = .parkedKeyUp then r.keyUpLeft else 0) + 250
        startCheck := .pending, lossLeft := 0 } := by
  by_cases same : r.cfg.transmitSense = on
  · subst same; rw [if_pos rfl]; exact PortRec.senseChanges_same rfl
  have differs : ({ r with cfg := { r.cfg with transmitSense := on } } : PortRec).cfg.transmitSense ≠ r.cfg.transmitSense :=
    fun e => same e.symm
  rw [if_neg same]
  cases on with
  | false => exact PortRec.senseChanges_off differs rfl
  | true =>
    rw [if_neg (by decide)]
    by_cases ptt : r.ptt = false
    · rw [if_pos ptt]; exact PortRec.senseChanges_unkeyed differs rfl ptt
    · have ptt' : r.ptt = true := by simpa using ptt
      rw [if_neg ptt]
      refine (PortRec.senseChanges_keyed differs rfl ptt').trans ?_
      by_cases low : r.txsPin = .low
      · rw [if_pos low]
        exact PortRec.startSupervision_active (r := { r with cfg := { r.cfg with transmitSense := true } }) rfl
          ((PortRec.txsActive_iff _).mpr low) _
      · rw [if_neg low, ← PortRec.senseWindow_eq ptt']
        exact PortRec.startSupervision_waits (r := { r with cfg := { r.cfg with transmitSense := true } }) rfl
          (Bool.eq_false_iff.mpr fun e => low ((PortRec.txsActive_iff _).mp e)) _

/-- Settles O14. -/
theorem keyingIsSupervised : Obligations.KeyingIsSupervised := by
  unfold Obligations.KeyingIsSupervised
  intro s p l run r new loss
  have pin : exec (.txsChange p l) s = .next (s.setPort p (r.txsTo l)) := congrArg Host.Outcome.next (State.pinEvent_of_running run _ _)
  have ends (t : State) : s.raised = [] → s.keyUpRunsOut p = t → t.raised = [] → exec (.keyUpExpiry p) s = .next t := fun _ ht hr =>
    exec_running (f := fun t => (t.keyUpRunsOut p).settle) run rfl (by
      show (s.keyUpRunsOut p).settle = t
      rw [ht, State.settle_of_none hr])
  refine ⟨fun off => ?_, fun change on low keyed pending => ?_, fun change on low rests => ?_, fun change on high relays passed => ?_,
    fun high unsupervised => ?_, fun none keyUp => ends _ none ?_ none, fun none keyUp => ends _ none ?_ none,
    fun none relay parked => ends _ none (State.keyUpRunsOut_other relay parked) none, fun c v none ready hv => ?_⟩
  · rw [pin, PortRec.txsTo_off off]
  · subst low
    rw [pin, PortRec.txsTo_low change on, if_pos (by simp [keyed, pending])]
  · subst low
    rw [pin, PortRec.txsTo_low change on, if_neg (by rcases rests with h | h <;> simp [h])]
  · subst high
    rw [pin, PortRec.txsTo_high change on, if_pos ((PortRec.lossSupervised_iff r).mpr ⟨on, relays, passed⟩)]
  · subst high
    by_cases off : r.txsPin = .high ∨ r.cfg.transmitSense = false
    · rw [pin, PortRec.txsTo_off off]
    · obtain ⟨change, on⟩ := not_or.mp off
      rw [pin, PortRec.txsTo_high change (by simpa using on), if_neg]
      intro h
      obtain ⟨-, state, passed⟩ := (PortRec.lossSupervised_iff r).mp h
      rcases unsupervised with ⟨relay, parked⟩ | pending
      · exact state.elim relay parked
      · rw [pending] at passed; cases passed
  · rw [State.keyUpRunsOut_keyUp keyUp]
    unfold PortRec.keyUpEnds; rw [PortRec.lossAtEntry_eq]
  · rw [State.keyUpRunsOut_parkedKeyUp keyUp]
    unfold PortRec.keyUpEnds; rw [PortRec.lossAtEntry_eq]
  · have values : v = 0 ∨ v = 1 := by omega
    have stored : r.cfg.store { noPortItem with transmitSense := some v } = { r.cfg with transmitSense := v == 1 } := by
      rcases values with rfl | rfl <;> rfl
    have checks : firstRefusal (setPortChecks { noPortItem with transmitSense := some v }) = .none := by rcases values with rfl | rfl <;> rfl
    refine exec_setPort ready checks ?_
    rw [State.updPort_store (by rw [State.heard_port, stored]), State.heard_port, stored,
      State.settingsChange_sense (by rw [State.setPort_port_same]), State.setPort_setPort, State.setPort_port_same,
      State.settle_of_none (by exact none)]
    congr 1
    refine (PortRec.senseChanges_table r _).trans ?_
    rcases values with rfl | rfl <;> rfl

end Sys2Proof.Machine

/-! Transmit faults, and the conditioning of the COR and EMG lines: COR_LINE_CHANGE, EMG_LINE_CHANGE, GLITCH_FILTER_EXPIRY and SET_PORT of
the settings they read. -/

namespace Sys2Proof.Machine

/-! ### Transmit faults (R109) -/

theorem PortRec.parkedKeyed_iff (r : PortRec) : r.parkedKeyed = true ↔ r.state = .parkedKeyUp ∨ r.state = .parkedRelay := by
  unfold PortRec.parkedKeyed; cases r.state <;> simp

/-- A fault of a machine at rest with a turnaround time above 0 raises nothing (R11, R101, R109). -/
theorem State.transmitFault_silent {s : State} {p : PortId} (h : (s.port p).atRest) (ht : 0 < (s.port p).cfg.turnaround) :
    s.transmitFault p = (s.setPort p { (s.port p).unsupervised with
      fault := true
      state := if (s.port p).state = .parkedKeyUp ∨ (s.port p).state = .parkedRelay then .parked else .idle
      guardLeft := (s.port p).cfg.turnaround }).offerBoth ⟨.portFault, portNumber p⟩ := by
  obtain ⟨carrier, qualify, drop⟩ := h
  unfold State.transmitFault
  rw [State.updPort_of_rest (by exact carrier) (by exact qualify) (by exact drop)
    (by simp [PortRec.masked, PortRec.unkeyInto, PortRec.stopSupervision, ht])]
  simp only [PortRec.parkedKeyed_iff]
  rfl

theorem PortRec.startWindowRuns_iff (r : PortRec) :
    r.startWindowRuns = true ↔ r.ptt = true ∧ r.startCheck = .pending ∧ 0 < r.startWindow := by
  simp [PortRec.startWindowRuns, and_assoc]

theorem PortRec.lossRuns_iff (r : PortRec) : r.lossRuns = true ↔
    r.cfg.transmitSense = true ∧ (r.state = .relay ∨ r.state = .parkedRelay) ∧ r.startCheck = .passed ∧ r.txsPin = .high ∧ 0 < r.lossLeft := by
  simp only [PortRec.lossRuns, Bool.and_eq_true, PortRec.lossSupervised_iff, Bool.not_eq_true', PortRec.txsInactive_iff, decide_eq_true_eq,
    and_assoc]

/-- Settles O15. -/
theorem transmitFaultsUnkey : Obligations.TransmitFaultsUnkey := by
  unfold Obligations.TransmitFaultsUnkey
  intro s p run none r faulted
  have starts (t : State) : (if r.startWindowRuns then (s.transmitFault p).settle else s) = t → exec (.startWindowExpiry p) s = .next t :=
    exec_running (f := fun t => if (t.port p).startWindowRuns then (t.transmitFault p).settle else t) run rfl
  have loses (t : State) : (if r.lossRuns then (s.transmitFault p).settle else s) = t → exec (.lossExpiry p) s = .next t :=
    exec_running (f := fun t => if (t.port p).lossRuns then (t.transmitFault p).settle else t) run rfl
  refine ⟨fun still => starts _ (if_neg fun h => ?_), fun still => loses _ (if_neg fun h => ?_), fun time carrier qualify drop => ?_⟩
  · obtain ⟨ptt, pending, window⟩ := r.startWindowRuns_iff.mp h
    rcases still with e | e | e
    · rw [ptt] at e; cases e
    · rw [pending] at e; cases e
    · omega
  · obtain ⟨on, state, passed, high, left⟩ := r.lossRuns_iff.mp h
    rcases still with e | ⟨e, e'⟩ | e | e | e
    · omega
    · exact state.elim e e'
    · rw [on] at e; cases e
    · rw [passed] at e; cases e
    · rw [high] at e; cases e
  · have fault : (s.transmitFault p).settle = faulted := by
      rw [State.transmitFault_silent ⟨carrier, qualify, drop⟩ time, State.settle_of_none (by simpa using none)]
    exact ⟨fun ptt pending window => starts _ ((if_pos (r.startWindowRuns_iff.mpr ⟨ptt, pending, window⟩)).trans fault),
      fun state on passed high left => loses _ ((if_pos (r.lossRuns_iff.mpr ⟨on, state, passed, high, left⟩)).trans fault)⟩

/-! ### The COR input (R6 to R8) -/

theorem holdAfter_eq (changed corrected filtered : Bool) (hold : Nat) :
    holdAfter changed corrected filtered hold = if corrected = filtered then 0 else if changed = false then hold else 3 := by
  unfold holdAfter
  cases changed <;> rfl

theorem PortRec.corAsserts_table (r : PortRec) : r.corAsserts.1 = r.corTable true := by
  unfold PortRec.corAsserts PortRec.corTable
  cases r.carrier
  case clear => simp only []; split <;> rfl
  all_goals rfl

theorem PortRec.corDeasserts_table (r : PortRec) : r.corDeasserts.1 = r.corTable false := by
  unfold PortRec.corDeasserts PortRec.corTable
  cases r.carrier
  case present => simp only []; split <;> rfl
  all_goals rfl

theorem PortRec.corAsserts_news (r : PortRec) : r.corAsserts.2 = [] ∨ ∃ k, r.corAsserts.2 = [k] := by
  unfold PortRec.corAsserts
  split
  · split <;> simp
  all_goals simp

theorem PortRec.corDeasserts_news (r : PortRec) : r.corDeasserts.2 = [] ∨ ∃ k, r.corDeasserts.2 = [k] := by
  unfold PortRec.corDeasserts
  split
  · simp
  · split <;> simp
  all_goals simp

/-- The corrected COR taken, by the tables of R7 and R8. -/
theorem PortRec.takeFilteredCor_table (r : PortRec) : (r.takeFilteredCor r.correctedCor).1 = r.corTaken ∧
    ((r.takeFilteredCor r.correctedCor).2 = [] ∨ ∃ k, (r.takeFilteredCor r.correctedCor).2 = [k]) := by
  unfold PortRec.takeFilteredCor PortRec.corTaken
  by_cases stays : r.filteredCor = r.correctedCor ∨ r.masked = true
  · simp only [stays, if_true, if_pos (show r.correctedCor = r.filteredCor ∨ r.masked = true from stays.imp_left Eq.symm)]
    simp
  · simp only [stays, if_false, if_neg (show ¬ (r.correctedCor = r.filteredCor ∨ r.masked = true) from fun h => stays (h.imp_left Eq.symm))]
    split
    · rename_i high; rw [high]; exact ⟨PortRec.corAsserts_table _, PortRec.corAsserts_news _⟩
    · rename_i low
      rw [show r.correctedCor = false by simpa using low]
      exact ⟨PortRec.corDeasserts_table _, PortRec.corDeasserts_news _⟩

/-- What a COR taken leaves of the record. -/
theorem PortRec.corTaken_quiet (r : PortRec) : r.QuietMove r.corTaken := r.takeFilteredCor_table.1 ▸ PortRec.quiet_takeFilteredCor _ _

theorem PortRec.isParked_congr {r r' : PortRec} (h : r'.state = r.state) : r'.isParked = r.isParked := by unfold PortRec.isParked; rw [h]

/-- The COR taken on a port in no patch is handed on to nobody (R9). -/
theorem State.settle_corTaken {s : State} {p : PortId} {r : PortRec} (none : s.raised = []) (hp : r.patch = .none) (hk : r.isParked = false) :
    (s.writePort p (r.takeFilteredCor r.correctedCor)).settle = s.setPort p r.corTaken := by
  obtain ⟨record, news⟩ := r.takeFilteredCor_table
  rw [← record]
  exact State.settle_writePort_unpatched none news (by rw [record, r.corTaken_quiet.patch, hp])
    (by rw [record, PortRec.isParked_congr r.corTaken_quiet.state, hk])

theorem PortRec.conditionCor_filtered {r : PortRec} (h : r.cfg.glitchFilter = true) (old : Bool) : r.conditionCor old =
    ({ r with corHold := if r.correctedCor = r.filteredCor then 0 else if r.correctedCor = old then r.corHold else 3 }, []) := by
  unfold PortRec.conditionCor
  rw [if_pos h, holdAfter_eq]
  simp only [bne_eq_false_iff_eq, eq_comm (a := old)]

theorem PortRec.conditionCor_unfiltered {r : PortRec} (h : r.cfg.glitchFilter = false) (old : Bool) :
    r.conditionCor old = r.takeFilteredCor r.correctedCor := if_neg (by simp [h])

/-! ### The EMG input (R6) -/

theorem State.takeFilteredEmg_same {s : State} {p : PortId} {v : Bool} (h : (s.port p).filteredEmg = v) :
    s.takeFilteredEmg p v = s.setPort p { s.port p with filteredEmg := v, emgHold := 0 } :=
  (if_pos h).trans (State.updPort_of_masked rfl)

theorem State.takeFilteredEmg_change {s : State} {p : PortId} {v : Bool} (h : (s.port p).filteredEmg ≠ v) :
    s.takeFilteredEmg p v = (s.setPort p { s.port p with filteredEmg := v, emgHold := 0 }).emgChanges p v :=
  (if_neg h).trans (congrArg (fun t : State => t.emgChanges p v) (State.updPort_of_masked rfl))

theorem State.conditionEmg_filtered {s : State} {p : PortId} (h : (s.port p).cfg.glitchFilter = true) (old : Bool) :
    s.conditionEmg p old = s.setPort p { s.port p with
      emgHold := if (s.port p).correctedEmg = (s.port p).filteredEmg then 0 else if (s.port p).correctedEmg = old then (s.port p).emgHold else 3 } := by
  unfold State.conditionEmg
  rw [if_pos h, State.updPort_of_masked rfl, holdAfter_eq]
  simp only [bne_eq_false_iff_eq, eq_comm (a := old)]

theorem State.conditionEmg_unfiltered {s : State} {p : PortId} (h : (s.port p).cfg.glitchFilter = false) (old : Bool) :
    s.conditionEmg p old = s.takeFilteredEmg p (s.port p).correctedEmg := if_neg (by simp [h])

/-! ### SET_PORT of the inputs' settings -/

/-- Stored settings that change the COR polarity and the glitch filter at most (R6, R21). -/
theorem State.settingsChange_inputs {s : State} {p : PortId} {old : PortRec} {u : State}
    (h : (s.port p).cfg = { old.cfg with corPolarity := (s.port p).cfg.corPolarity, glitchFilter := (s.port p).cfg.glitchFilter })
    (hu : s.inputsChange p old = u) (hc : (u.port p).cfg = (s.port p).cfg) : s.settingsChange p old = u := by
  unfold State.settingsChange
  rw [State.baseChanges_same (by rw [h]), State.kindChanges_same (by rw [h]), hu, State.updPort_sense,
    PortRec.senseChanges_same (by rw [hc, h]), State.setPort_self, State.emgModeChanges_same (by rw [hc, h])]

/-- A change of polarity reaches the COR input alone (R6). -/
theorem State.inputsChange_polarity {s : State} {p : PortId} {old : PortRec} (hp : (s.port p).cfg.corPolarity ≠ old.cfg.corPolarity)
    (hg : (s.port p).cfg.glitchFilter = old.cfg.glitchFilter) {u : State} (hu : (s.writePort p ((s.port p).conditionCor old.correctedCor)).settle = u) :
    s.inputsChange p old = u := by
  unfold State.inputsChange
  simp only [hp, false_and, if_false, hu]
  exact if_pos hg

/-- A change of the filter reaches both inputs (R6). -/
theorem State.inputsChange_filter {s : State} {p : PortId} {old : PortRec} (hg : (s.port p).cfg.glitchFilter ≠ old.cfg.glitchFilter)
    {u : State} (hu : (s.writePort p ((s.port p).conditionCor old.correctedCor)).settle = u) :
    s.inputsChange p old = u.conditionEmg p old.correctedEmg := by
  unfold State.inputsChange
  simp only [hg, and_false, if_false, hu]

theorem PortRec.corTable_emgHold (r : PortRec) (b : Bool) (k : Nat) : ({ r with emgHold := k } : PortRec).corTable b =
    { r.corTable b with emgHold := k } := by
  cases hc : r.carrier <;> cases b <;> simp only [PortRec.corTable, hc]
  case clear.true => split <;> rfl
  case present.false => split <;> rfl

theorem PortRec.corTaken_emgHold (r : PortRec) (k : Nat) : ({ r with emgHold := k } : PortRec).corTaken = { r.corTaken with emgHold := k } := by
  unfold PortRec.corTaken
  rw [apply_ite (fun x : PortRec => ({ x with emgHold := k } : PortRec)), ← PortRec.corTable_emgHold]
  rfl

theorem PortRec.corTable_frame (r : PortRec) (b : Bool) : r.corTable b = { r with
    carrier := (r.corTable b).carrier, qualifyLeft := (r.corTable b).qualifyLeft, dropLeft := (r.corTable b).dropLeft } := by
  cases b with
  | true => rw [← PortRec.corAsserts_table]; exact PortRec.corAsserts_frame r
  | false => rw [← PortRec.corDeasserts_table]; exact PortRec.corDeasserts_frame r

/-- A COR taken leaves the EMG input. -/
theorem PortRec.corTaken_emg (r : PortRec) : r.corTaken.filteredEmg = r.filteredEmg ∧ r.corTaken.emgPin = r.emgPin := by
  unfold PortRec.corTaken
  simp only []
  split
  · exact ⟨rfl, rfl⟩
  · rw [PortRec.corTable_frame]; exact ⟨rfl, rfl⟩

/-- The other polarity reverses the corrected COR (R6, R21). -/
theorem PortRec.correctedCor_flips {r r' : PortRec} (pin : r'.corPin = r.corPin) (h : r'.cfg.corPolarity ≠ r.cfg.corPolarity) :
    r'.correctedCor ≠ r.correctedCor := by
  unfold PortRec.correctedCor
  rw [pin]
  cases hn : r'.cfg.corPolarity <;> cases ho : r.cfg.corPolarity
  · exact absurd (hn.trans ho.symm) h
  · simp only []; cases Level.isLow r.corPin <;> decide
  · simp only []; cases Level.isLow r.corPin <;> decide
  · exact absurd (hn.trans ho.symm) h

/-- Settles O8. -/
theorem corLineIsConditioned : Obligations.CorLineIsConditioned := by
  unfold Obligations.CorLineIsConditioned
  intro s p l run none r new
  have pin : exec (.corLineChange p l) s = .next ((s.writePort p (r.corPinTo l)).settle) :=
    congrArg Host.Outcome.next (State.pinEvent_of_running run _ _)
  have ports (h : State) (w : PortRec) : (h.setPort p w).port p = w := State.setPort_port_same _ _ _
  refine ⟨fun filtered => ?_, fun unfiltered free unparked => ?_, ?_, ?_⟩
  · have conditioned : r.corPinTo l = _ := PortRec.conditionCor_filtered (r := new) filtered r.correctedCor
    rw [pin, conditioned, State.settle_writePort_none none]
  · have conditioned : r.corPinTo l = _ := PortRec.conditionCor_unfiltered (r := new) unfiltered r.correctedCor
    rw [pin, conditioned]
    exact congrArg Host.Outcome.next (State.settle_corTaken (r := new) none free unparked)
  · intro c v ready hv h turned answered
    have values : v = 0 ∨ v = 1 := by omega
    have stored : r.cfg.store { noPortItem with corPolarity := some v } = turned.cfg := by
      rcases values with rfl | rfl <;> rfl
    have checks : firstRefusal (setPortChecks { noPortItem with corPolarity := some v }) = .none := by rcases values with rfl | rfl <;> rfl
    have answers (u : State) (hu : (h.setPort p turned).settingsChange p r = u) (hr : u.raised = []) : answered u := by
      refine exec_setPort ready checks ?_
      rw [State.updPort_store (by rw [State.heard_port, stored]), State.heard_port, stored]
      exact (congrArg State.settle hu).trans (State.settle_of_none hr)
    refine ⟨fun same => answers _ ?_ none, fun differs filtered => answers _ ?_ none, fun differs unfiltered free unparked => answers _ ?_ none⟩
    · have kept : turned = r := by
        show ({ r with cfg := { r.cfg with corPolarity := turned.cfg.corPolarity } } : PortRec) = r
        rw [← same]
      refine (State.settingsChange_inputs (by rw [ports]) (State.inputsChange_same (by rw [ports, same]) (by rw [ports])) rfl).trans ?_
      rw [kept]
      exact State.setPort_self h p
    · refine State.settingsChange_inputs (by rw [ports]) (State.inputsChange_polarity (by rw [ports]; exact differs.symm) (by rw [ports]) ?_) (by rw [ports, ports])
      rw [ports, PortRec.conditionCor_filtered (r := turned) filtered, State.settle_writePort_none (by exact none), State.setPort_setPort]
      rw [if_neg (PortRec.correctedCor_flips (r := r) (r' := turned) rfl differs.symm)]
    · refine State.settingsChange_inputs (by rw [ports]) (State.inputsChange_polarity (by rw [ports]; exact differs.symm) (by rw [ports]) ?_)
        (by rw [ports, ports, turned.corTaken_quiet.cfg])
      rw [ports, PortRec.conditionCor_unfiltered (r := turned) unfiltered, State.settle_corTaken (s := h.setPort p turned) (r := turned) none free unparked,
        State.setPort_setPort]
  · intro c v ready hv steady h switched answered
    have values : v = 0 ∨ v = 1 := by omega
    let stored : PortRec := { r with cfg := { r.cfg with glitchFilter := v == 1 } }
    have isStored : r.cfg.store { noPortItem with glitchFilter := some v } = stored.cfg := by
      rcases values with rfl | rfl <;> rfl
    have checks : firstRefusal (setPortChecks { noPortItem with glitchFilter := some v }) = .none := by rcases values with rfl | rfl <;> rfl
    have answers (u : State) (hu : (h.setPort p stored).settingsChange p r = u) (hr : u.raised = []) : answered u := by
      refine exec_setPort ready checks ?_
      rw [State.updPort_store (by rw [State.heard_port, isStored]), State.heard_port, isStored]
      exact (congrArg State.settle hu).trans (State.settle_of_none hr)
    refine ⟨fun same => answers _ ?_ none, fun off on cor => answers _ ?_ none, fun on off free unparked => answers _ ?_ none⟩
    · have kept : stored = r := by
        show ({ r with cfg := { r.cfg with glitchFilter := v == 1 } } : PortRec) = r
        rw [← same]
      refine (State.settingsChange_inputs (by rw [ports]) (State.inputsChange_same (by rw [ports]) (by rw [ports, same])) rfl).trans ?_
      rw [kept]
      exact State.setPort_self h p
    · subst on
      have filtered : stored.conditionCor r.correctedCor = _ := PortRec.conditionCor_filtered (r := stored) rfl r.correctedCor
      refine State.settingsChange_inputs (by rw [ports]) ((State.inputsChange_filter (by rw [ports, off]; show (true : Bool) ≠ false; decide)
        (u := h.setPort p { stored with corHold := 0 }) ?_).trans
        ((State.conditionEmg_filtered (by rw [ports]; rfl) _).trans ?_)) ?_
      · rw [ports, filtered, State.settle_writePort_none (by exact none), State.setPort_setPort, if_pos (by exact cor)]
      · rw [State.setPort_setPort, ports]
        have still : ({ stored with corHold := 0 } : PortRec).correctedEmg = ({ stored with corHold := 0 } : PortRec).filteredEmg := steady
        rw [if_pos still]
      · rw [ports, ports]
    · subst off
      have unfiltered : stored.conditionCor r.correctedCor = _ := PortRec.conditionCor_unfiltered (r := stored) rfl r.correctedCor
      have emg : stored.corTaken.correctedEmg = r.filteredEmg ∧ stored.corTaken.filteredEmg = r.filteredEmg := by
        refine ⟨?_, stored.corTaken_emg.1⟩
        unfold PortRec.correctedEmg; rw [stored.corTaken_emg.2]; exact steady
      refine State.settingsChange_inputs (by rw [ports]) ((State.inputsChange_filter (by rw [ports, on]; show (false : Bool) ≠ true; decide)
        (u := h.setPort p stored.corTaken) ?_).trans
        ((State.conditionEmg_unfiltered (by rw [ports, stored.corTaken_quiet.cfg]; rfl) _).trans
          ((State.takeFilteredEmg_same (by rw [ports, emg.1, emg.2])).trans ?_))) ?_
      · rw [ports, unfiltered, State.settle_corTaken (s := h.setPort p stored) (r := stored) none free unparked, State.setPort_setPort]
      · rw [State.setPort_setPort, ports, emg.1, ← emg.2]
        exact congrArg (h.setPort p) (PortRec.corTaken_emgHold stored 0).symm
      · rw [ports, ports]
        exact (PortRec.corTaken_quiet _).cfg

end Sys2Proof.Machine

/-! The emergency flag: EMG_LINE_CHANGE, GLITCH_FILTER_EXPIRY, SET_PORT of the EMG mode, and what a change of the flag moves in a bid
list. -/

namespace Sys2Proof.Machine

/-! ### Reports of a new effective priority (R81, R82) -/

theorem State.priorityChanged_unlisted {s : State} {p : PortId} (h : ∀ n, (s.port p).patch = some n → .port p ∉ (s.patch n).bids)
    (rise : Bool) : s.priorityChanged p rise = s := by
  unfold State.priorityChanged
  split
  · rfl
  · rename_i n hn
    exact if_neg (by simpa using h n hn)

/-- The patch of a listed port with its entry placed again. -/
def State.placedAgain (s : State) (n : SlotId) (p : PortId) : State :=
  s.setPatch n { s.patch n with bids := s.insertBid (.port p) ((s.patch n).bids.erase (.port p)) }

theorem State.priorityChanged_listed {s : State} {p : PortId} {n : SlotId} (hp : (s.port p).patch = some n)
    (hb : .port p ∈ (s.patch n).bids) (rise : Bool) :
    s.priorityChanged p rise = if rise then (s.placedAgain n p).checkEmergency n p else s.placedAgain n p := by
  unfold State.priorityChanged
  rw [hp]
  exact if_pos (List.contains_iff_mem.mpr hb)

/-- The check of R82 on a port that does not outrank the talker, or where there is none to outrank. -/
theorem State.checkEmergency_fails {s : State} {n : SlotId} {p : PortId} (h : (s.patch n).state ≠ .talk ∨ (s.patch n).style = .mix ∨
    (s.patch n).portTalker = none ∨ ∃ t, (s.patch n).portTalker = some t ∧ s.outranks n (.port p) t = false) :
    s.checkEmergency n p = s := by
  unfold State.checkEmergency
  split
  · rename_i t style talker
    refine if_neg ?_
    rcases h with h | h | h | ⟨t', e, h⟩
    · simp [h]
    · rw [style] at h; cases h
    · rw [talker] at h; cases h
    · rw [talker] at e; cases e; simp [h]
  · rfl

theorem State.outranks_iff (s : State) (n : SlotId) (src : Source) (t : PortId) : s.outranks n src t = true ↔
    (s.patch n).threshold ≤ s.priority src ∧ s.priority (.port t) < s.priority src := by
  simp [State.outranks]

/-! ### The flag (R16, R17) -/

/-- The port's record written with its flag set, and EMERGENCY offered (R16). -/
def State.edged (s : State) (p : PortId) : State :=
  (s.setPort p { s.port p with emergency := true }).offerBoth ⟨.emergency, portNumber p⟩

theorem State.emergencySets_eq (s : State) (p : PortId) : s.emergencySets p = (s.edged p).priorityChanged p true := by
  unfold State.emergencySets State.edged
  rw [State.updPort_of_masked rfl]

theorem State.emergencyClears_eq (s : State) (p : PortId) :
    s.emergencyClears p = (s.setPort p { s.port p with emergency := false }).priorityChanged p false := by
  unfold State.emergencyClears
  rw [State.updPort_of_masked rfl]

theorem State.edged_port (s : State) (p q : PortId) :
    (s.edged p).port q = if q = p then { s.port p with emergency := true } else s.port q :=
  (State.offerBoth_port _ _ _).trans (State.setPort_port _ _ _ _)

theorem State.edged_patch (s : State) (p : PortId) (n : SlotId) : (s.edged p).patch n = s.patch n := State.offerBoth_patch _ _ _

theorem State.edged_raised (s : State) (p : PortId) : (s.edged p).raised = s.raised := State.offerBoth_raised _ _

/-- Port p waits in no bid list of its patch. -/
def State.unlisted (s : State) (p : PortId) : Prop := ∀ n, (s.port p).patch = some n → .port p ∉ (s.patch n).bids

theorem State.unlisted_setPort {s : State} {p : PortId} {r : PortRec} (h : s.unlisted p) (hr : r.patch = (s.port p).patch) :
    (s.setPort p r).unlisted p := fun n hn => h n (by rw [State.setPort_port_same] at hn; rw [← hr]; exact hn)

theorem State.emergencySets_unlisted {s : State} {p : PortId} (h : s.unlisted p) : s.emergencySets p = s.edged p := by
  rw [State.emergencySets_eq]
  refine State.priorityChanged_unlisted (fun n hn => ?_) _
  rw [State.edged_port, if_pos rfl] at hn
  rw [State.edged_patch]
  exact h n hn

theorem State.emergencyClears_unlisted {s : State} {p : PortId} (h : s.unlisted p) :
    s.emergencyClears p = s.setPort p { s.port p with emergency := false } := by
  rw [State.emergencyClears_eq]
  exact State.priorityChanged_unlisted (by exact s.unlisted_setPort h rfl) _

theorem State.emgChanges_edge {s : State} {p : PortId} (h : (s.port p).emergency = false) : s.emgChanges p true = s.emergencySets p := by
  unfold State.emgChanges
  rw [h]
  cases (s.port p).cfg.emgMode <;> rfl

theorem State.emgChanges_again {s : State} {p : PortId} (h : (s.port p).emergency = true) :
    s.emgChanges p true = s.offerBoth ⟨.emergency, portNumber p⟩ := by
  unfold State.emgChanges
  rw [h]
  cases (s.port p).cfg.emgMode <;> rfl

theorem State.emgChanges_latched {s : State} {p : PortId} (h : (s.port p).cfg.emgMode = .latch) : s.emgChanges p false = s := by
  unfold State.emgChanges
  rw [h]

theorem State.emgChanges_fall {s : State} {p : PortId} (h : (s.port p).cfg.emgMode = .level) :
    s.emgChanges p false = if (s.port p).emergency then s.emergencyClears p else s := by
  unfold State.emgChanges
  rw [h]

/-- An EMG that falls on an unlisted port, by the mode (R16, R17). -/
theorem State.emgChanges_fall_unlisted {s : State} {p : PortId} (h : s.unlisted p) : s.emgChanges p false = s.setPort p { s.port p with
    emergency := match (s.port p).cfg.emgMode with | .latch => (s.port p).emergency | .level => false } := by
  cases mode : (s.port p).cfg.emgMode with
  | latch => rw [State.emgChanges_latched mode]; exact (State.setPort_self s p).symm
  | level =>
    rw [State.emgChanges_fall mode]
    cases flag : (s.port p).emergency with
    | true => exact State.emergencyClears_unlisted h
    | false =>
      have same : ({ s.port p with emergency := false } : PortRec) = s.port p := by rw [← flag]
      exact ((congrArg (s.setPort p) same).trans (State.setPort_self s p)).symm

/-! ### SET_PORT of the EMG mode (R17) -/

theorem State.settingsChange_mode {s : State} {p : PortId} {old : PortRec} (h : (s.port p).cfg = { old.cfg with emgMode := (s.port p).cfg.emgMode }) :
    s.settingsChange p old = s.emgModeChanges p old.cfg.emgMode := by
  unfold State.settingsChange
  rw [State.baseChanges_same (by rw [h]), State.kindChanges_same (by rw [h]), State.inputsChange_same (by rw [h]) (by rw [h]),
    State.updPort_sense, PortRec.senseChanges_same (by rw [h]), State.setPort_self]

theorem State.emgModeChanges_level {s : State} {p : PortId} (h : (s.port p).cfg.emgMode = .level) : s.emgModeChanges p .latch =
    if (s.port p).filteredEmg = (s.port p).emergency then s
    else if (s.port p).filteredEmg then s.emergencySets p else s.emergencyClears p := by
  unfold State.emgModeChanges
  rw [h]

theorem State.emgModeChanges_other {s : State} {p : PortId} {old : EmgMode} (h : old = .level ∨ (s.port p).cfg.emgMode = .latch) :
    s.emgModeChanges p old = s := by
  unfold State.emgModeChanges
  rcases h with rfl | h
  · rfl
  · rw [h]; cases old <;> rfl

/-- A change of mode on an unlisted port (R17). -/
theorem State.emgModeChanges_table {s : State} {p : PortId} (h : s.unlisted p) (old : EmgMode) : s.emgModeChanges p old =
    if old = .latch ∧ (s.port p).cfg.emgMode = .level ∧ (s.port p).filteredEmg = true ∧ (s.port p).emergency = false then s.edged p
    else if old = .latch ∧ (s.port p).cfg.emgMode = .level then s.setPort p { s.port p with emergency := (s.port p).filteredEmg }
    else s := by
  by_cases switch : old = .latch ∧ (s.port p).cfg.emgMode = .level
  · obtain ⟨rfl, level⟩ := switch
    rw [State.emgModeChanges_level level]
    simp only [level, true_and, and_self, if_true]
    have unchanged (same : (s.port p).filteredEmg = (s.port p).emergency) : s.setPort p { s.port p with emergency := (s.port p).filteredEmg } = s := by
      have self : ({ s.port p with emergency := (s.port p).filteredEmg } : PortRec) = s.port p := by rw [same]
      rw [self, State.setPort_self]
    by_cases same : (s.port p).filteredEmg = (s.port p).emergency
    · rw [if_pos same, unchanged same]
      exact (if_neg (fun e => by rw [e.1, e.2] at same; cases same)).symm
    · rw [if_neg same]
      rcases Bool.eq_false_or_eq_true (s.port p).filteredEmg with filtered | filtered
      · have flag : (s.port p).emergency = false := Bool.eq_false_iff.mpr (fun e => same (filtered.trans e.symm))
        rw [if_pos filtered, if_pos ⟨filtered, flag⟩]
        exact State.emergencySets_unlisted h
      · have fallen := congrArg (fun v => ({ s.port p with emergency := v } : PortRec)) filtered
        rw [if_neg (by rw [filtered]; decide), if_neg (fun e => by rw [filtered] at e; cases e.1)]
        exact (State.emergencyClears_unlisted h).trans (congrArg (s.setPort p) fallen.symm)
  · rw [if_neg (fun e => switch ⟨e.1, e.2.1⟩), if_neg switch]
    refine State.emgModeChanges_other ?_
    cases old with
    | level => exact .inl rfl
    | latch =>
      refine .inr ?_
      cases mode : (s.port p).cfg.emgMode with
      | latch => rfl
      | level => exact absurd ⟨rfl, mode⟩ switch

theorem PortRec.takeFilteredCor_same {r : PortRec} {v : Bool} (h : r.filteredCor = v) :
    r.takeFilteredCor v = ({ r with filteredCor := v, corHold := 0 }, []) := if_pos (.inl h)

/-- Settles O9. -/
theorem emgLineIsConditioned : Obligations.EmgLineIsConditioned := by
  unfold Obligations.EmgLineIsConditioned
  intro s p l run none r low unlisted
  have ports (h : State) (w : PortRec) : (h.setPort p w).port p = w := State.setPort_port_same _ _ _
  let pinned : PortRec := { r with emgPin := l }
  have pin (t : State) (ht : (s.setPort p pinned).conditionEmg p r.correctedEmg = t) (hr : t.raised = []) :
      exec (.emgLineChange p l) s = .next t := by
    refine (congrArg Host.Outcome.next (State.pinEvent_of_running run _ _)).trans ?_
    exact congrArg Host.Outcome.next ((congrArg State.settle ht).trans (State.settle_of_none hr))
  have unfiltered (off : r.cfg.glitchFilter = false) : (s.setPort p pinned).conditionEmg p r.correctedEmg =
      (s.setPort p pinned).takeFilteredEmg p low :=
    (State.conditionEmg_unfiltered (by rw [ports]; exact off) _).trans (by rw [ports]; rfl)
  have change (off : r.cfg.glitchFilter = false) (hl : r.filteredEmg ≠ low) : (s.setPort p pinned).conditionEmg p r.correctedEmg =
      (s.setPort p { pinned with filteredEmg := low, emgHold := 0 }).emgChanges p low := by
    rw [unfiltered off, State.takeFilteredEmg_change (by rw [ports]; exact hl), State.setPort_setPort, ports]
  have offered (t : State) (e : Notice) (ht : t.raised = []) : (t.offerBoth e).raised = [] := (State.offerBoth_raised _ _).trans ht
  refine ⟨fun on => ?_, fun off same => ?_, fun off high asserted clear free => ?_, fun off high asserted set latch => ?_,
    fun off high asserted free => ?_, ?_, ?_⟩
  · refine pin _ ?_ none
    rw [State.conditionEmg_filtered (by rw [ports]; exact on), State.setPort_setPort, ports]; rfl
  · refine pin _ ?_ none
    rw [unfiltered off, State.takeFilteredEmg_same (by rw [ports]; exact same.symm), State.setPort_setPort, ports, same]
  · subst asserted
    refine pin _ ?_ (offered _ _ none)
    rw [change off (by rw [high]; decide), show low = true from rfl, State.emgChanges_edge (by rw [ports]; exact clear),
      State.emergencySets_unlisted (by exact s.unlisted_setPort free rfl)]
    unfold State.edged
    rw [State.setPort_setPort, ports]
  · subst asserted
    refine pin _ ?_ (offered _ _ none)
    rw [change off (by rw [high]; decide), show low = true from rfl, State.emgChanges_again (by rw [ports]; exact set)]
  · subst asserted
    refine pin _ ?_ none
    rw [change off (by rw [high]; decide), show low = false from rfl, State.emgChanges_fall_unlisted (by exact s.unlisted_setPort free rfl),
      State.setPort_setPort, ports] <;> rfl
  · intro c v ready hv free h moded u
    have values : v = 0 ∨ v = 1 := by omega
    have stored : r.cfg.store { noPortItem with emgMode := some v } = moded.cfg := by rcases values with rfl | rfl <;> rfl
    have checks : firstRefusal (setPortChecks { noPortItem with emgMode := some v }) = .none := by rcases values with rfl | rfl <;> rfl
    have changes : (h.setPort p moded).emgModeChanges p r.cfg.emgMode = u := by
      rw [State.emgModeChanges_table (by exact State.unlisted_setPort (s := h) free rfl)]
      unfold State.edged
      rw [ports, State.setPort_setPort, State.setPort_setPort]
      rcases values with rfl | rfl
      · simp [u, moded]
      · simp [u, moded]
    have quiet : u.raised = [] := by
      show (ite _ _ _ : State).raised = []
      split
      · exact offered _ _ none
      · split <;> exact none
    refine exec_setPort ready checks ?_
    rw [State.updPort_store (by rw [State.heard_port, stored]), State.heard_port, stored]
    exact (congrArg State.settle ((State.settingsChange_mode (by rw [ports])).trans changes)).trans (State.settle_of_none quiet)
  · intro c ready free on cor asserted high clear u
    let h := s.heard c
    let stored : PortRec := { r with cfg := { r.cfg with glitchFilter := false } }
    let taken : PortRec := { stored with corHold := 0 }
    have unfilteredCor : stored.conditionCor r.correctedCor = (taken, []) := by
      refine (PortRec.conditionCor_unfiltered (r := stored) rfl _).trans ((PortRec.takeFilteredCor_same (r := stored) cor.symm).trans ?_)
      show (({ stored with filteredCor := r.correctedCor, corHold := 0 } : PortRec), ([] : List CarrierNews)) = _
      rw [cor]
    have edge : (h.setPort p taken).conditionEmg p r.correctedEmg = u := by
      have low : taken.correctedEmg = true := by
        show Level.isLow r.emgPin = true
        rw [asserted]; rfl
      rw [State.conditionEmg_unfiltered (by rw [ports]), ports, low, State.takeFilteredEmg_change (by rw [ports]; simp [taken, stored, high]),
        State.emgChanges_edge (by rw [ports, ports]; exact clear), ports, State.setPort_setPort,
        State.emergencySets_unlisted (by exact State.unlisted_setPort (s := h) free rfl)]
      unfold State.edged
      rw [State.setPort_setPort, ports]
    refine exec_setPort ready rfl ?_
    rw [State.updPort_store (by rfl), State.heard_port]
    refine (congrArg State.settle (State.settingsChange_inputs (s := h.setPort p stored) (by rw [ports]) ((State.inputsChange_filter
      (by rw [ports, on]; exact nofun) (u := h.setPort p taken) ?_).trans edge) ?_)).trans (State.settle_of_none (offered _ _ none))
    · rw [ports, unfilteredCor, State.settle_writePort_none (by exact none), State.setPort_setPort]
    · rw [ports]
      exact (congrArg PortRec.cfg ((State.offerBoth_port _ _ _).trans (ports _ _))).trans rfl

end Sys2Proof.Machine

namespace Sys2Proof.Machine

/-! ### GLITCH_FILTER_EXPIRY -/

theorem exec_glitchFilter_idle {s : State} {p : PortId} {i : FilterInput} (h : (s.port p).holdRuns i = false) :
    exec (.glitchFilterExpiry p i) s = .next s := by
  refine congrArg Host.Outcome.next ?_
  unfold State.whenRunning
  split
  · rfl
  · exact if_neg (by rw [h]; decide)

theorem exec_glitchFilter_cor {s : State} {p : PortId} (run : s.resetLine = false) (h : 0 < (s.port p).corHold) :
    exec (.glitchFilterExpiry p .cor) s = .next (s.writePort p ((s.port p).takeFilteredCor (s.port p).correctedCor)).settle := by
  refine congrArg Host.Outcome.next ((State.whenRunning_of_running run _).trans ?_)
  exact if_pos (decide_eq_true h)

theorem exec_glitchFilter_emg {s t : State} {p : PortId} (run : s.resetLine = false) (h : 0 < (s.port p).emgHold)
    (ht : s.takeFilteredEmg p (s.port p).correctedEmg = t) (none : t.raised = []) : exec (.glitchFilterExpiry p .emg) s = .next t := by
  refine congrArg Host.Outcome.next ((State.whenRunning_of_running run _).trans ?_)
  refine (if_pos (decide_eq_true h)).trans ?_
  exact (congrArg State.settle ht).trans (State.settle_of_none none)

/-- The check of R82 fails on a port whose emergency has just set, by its priority 8. -/
theorem State.checkEmergency_of_edge {s : State} {n : SlotId} {p : PortId} (flag : (s.port p).emergency = true)
    (h : (s.patch n).state ≠ .talk ∨ (s.patch n).style = .mix ∨ 8 < (s.patch n).threshold ∨ (s.patch n).portTalker = none ∨
      ∃ t, (s.patch n).portTalker = some t ∧ 8 ≤ s.priority (.port t)) : s.checkEmergency n p = s := by
  have eight : s.priority (.port p) = 8 := if_pos flag
  have fails (t : PortId) (ht : 8 < (s.patch n).threshold ∨ 8 ≤ s.priority (.port t)) : s.outranks n (.port p) t = false := by
    rw [Bool.eq_false_iff]
    intro up
    obtain ⟨reaches, above⟩ := (s.outranks_iff n _ t).mp up
    omega
  refine State.checkEmergency_fails ?_
  rcases h with h | h | h | h | ⟨t, ht, h⟩
  · exact .inl h
  · exact .inr (.inl h)
  · cases ht : (s.patch n).portTalker with
    | none => exact .inr (.inr (.inl rfl))
    | some t => exact .inr (.inr (.inr ⟨t, rfl, fails t (.inl h)⟩))
  · exact .inr (.inr (.inl h))
  · exact .inr (.inr (.inr ⟨t, ht, fails t (.inr h)⟩))

theorem State.placedAgain_raised (s : State) (n : SlotId) (p : PortId) : (s.placedAgain n p).raised = s.raised := State.setPatch_raised _ _ _

/-- Settles O10. -/
theorem glitchFilterTakesTheInput : Obligations.GlitchFilterTakesTheInput := by
  unfold Obligations.GlitchFilterTakesTheInput
  intro s p run none r edge fall
  have ports (w : PortRec) : (s.setPort p w).port p = w := State.setPort_port_same _ _ _
  have corrected {l : Level} (h : r.emgPin = l) : (s.port p).correctedEmg = Level.isLow l := congrArg Level.isLow h
  have edgeRaised : edge.raised = [] := (State.offerBoth_raised _ _).trans none
  have edgePort : edge.port p = { r with filteredEmg := true, emgHold := 0, emergency := true } := (State.offerBoth_port _ _ _).trans (ports _)
  have edgePatch (n : SlotId) : edge.patch n = s.patch n := State.offerBoth_patch _ _ _
  have edged (low : r.filteredEmg = false) (clear : r.emergency = false) : s.takeFilteredEmg p true = edge.priorityChanged p true := by
    rw [State.takeFilteredEmg_change (by rw [low]; decide), State.emgChanges_edge (by rw [ports]; exact clear), State.emergencySets_eq]
    unfold State.edged
    rw [State.setPort_setPort, ports]
  have fallen (high : r.filteredEmg = true) (level : r.cfg.emgMode = .level) (set : r.emergency = true) :
      s.takeFilteredEmg p false = fall.priorityChanged p false := by
    rw [State.takeFilteredEmg_change (by rw [high]; decide), State.emgChanges_fall (by rw [ports]; exact level), ports, if_pos set,
      State.emergencyClears_eq, ports, State.setPort_setPort]
  refine ⟨fun runs unpatched unparked => ?_, fun runs asserted low clear => ⟨fun free => ?_, fun n hn listed fails => ?_⟩,
    fun runs off high level set => ⟨fun free => ?_, fun n hn listed => ?_⟩, fun runs asserted low latch set => ?_,
    fun runs off high latch => ?_, fun idle => exec_glitchFilter_idle (decide_eq_false (by rw [idle]; decide)),
    fun idle => exec_glitchFilter_idle (decide_eq_false (by rw [idle]; decide))⟩
  · rw [exec_glitchFilter_cor run runs, State.settle_corTaken none unpatched unparked]
  · refine exec_glitchFilter_emg run runs (((congrArg _ (corrected asserted)).trans (edged low clear)).trans ?_) edgeRaised
    refine State.priorityChanged_unlisted (fun n hn => ?_) _
    rw [edgePatch]
    exact free n (by rw [← hn, edgePort])
  · refine exec_glitchFilter_emg run runs (((congrArg _ (corrected asserted)).trans (edged low clear)).trans ?_) edgeRaised
    rw [State.priorityChanged_listed (n := n) (by rw [edgePort]; exact hn) (by rw [edgePatch]; exact listed), if_pos rfl,
      State.checkEmergency_of_edge (by exact congrArg PortRec.emergency edgePort)]
    · unfold State.placedAgain; rw [edgePatch]
    · unfold State.placedAgain; rw [edgePatch, State.setPatch_patch_same]; exact fails
  · refine exec_glitchFilter_emg run runs (((congrArg _ (corrected off)).trans (fallen high level set)).trans ?_) none
    exact State.priorityChanged_unlisted (s := fall) (fun n hn => free n (by rw [← hn, ports])) _
  · refine exec_glitchFilter_emg run runs (((congrArg _ (corrected off)).trans (fallen high level set)).trans ?_) none
    exact State.priorityChanged_listed (s := fall) (by rw [ports]; exact hn) listed _
  · refine exec_glitchFilter_emg run runs ((congrArg _ (corrected asserted)).trans ?_) ((State.offerBoth_raised _ _).trans none)
    rw [show Level.isLow .low = true from rfl, State.takeFilteredEmg_change (by rw [low]; decide), State.emgChanges_again (by rw [ports]; exact set)]
  · refine exec_glitchFilter_emg run runs ((congrArg _ (corrected off)).trans ?_) none
    rw [show Level.isLow .high = false from rfl, State.takeFilteredEmg_change (by rw [high]; decide),
      State.emgChanges_latched (by rw [ports]; exact latch)]

end Sys2Proof.Machine

/-! SET_CONSOLE and SET_LISTEN, and the refusal tables: the first row that fails. -/

namespace Sys2Proof.Machine

/-! ### The first row that fails (R45) -/

theorem State.checked_refused {s : State} {checks : List (Option Response)} {act : State → State × Response} {r : Response}
    (h : firstRefusal checks = some r) : s.checked checks act = (s, r) := by
  unfold State.checked; rw [h]

theorem State.checked_pass {s : State} {checks : List (Option Response)} {act : State → State × Response}
    (h : firstRefusal checks = none) : s.checked checks act = act s := by
  unfold State.checked; rw [h]

/-- A table of rows and the checks that stand for them refuse alike. -/
theorem firstRefusal_rows (rows : List (Bool × Response)) : firstRefusal (rows.map (fun x => check x.1 x.2)) = firstRow rows := by
  induction rows with
  | nil => rfl
  | cons x rows ih =>
    obtain ⟨fails, r⟩ := x
    cases fails with
    | true => rfl
    | false => exact ih

theorem firstRefusal_of_row {rows : List (Bool × Response)} {checks : List (Option Response)} {r : Response}
    (h : firstRow rows = some r) (same : checks = rows.map (fun x => check x.1 x.2)) : firstRefusal checks = some r := by
  rw [same, firstRefusal_rows, h]

theorem map_refusal_eq_check (o : Option Nat) (f : Nat → Response) : o.map f = check o.isSome (f (o.getD 0)) := by
  cases o <;> rfl

theorem List.find?_congr_mem {α : Type} {l : List α} {f g : α → Bool} (h : ∀ a ∈ l, f a = g a) : l.find? f = l.find? g := by
  induction l with
  | nil => rfl
  | cons a l ih =>
    rw [List.find?_cons, List.find?_cons, h a List.mem_cons_self, ih (fun b hb => h b (List.mem_cons_of_mem _ hb))]

theorem slotOf?_isNone_iff (k : Nat) : (slotOf? k).isNone = true ↔ k = 0 ∨ 12 < k := by
  rcases outOfRange_or_slotNumber k with h | ⟨n, rfl⟩
  · simp [slotOf?_outOfRange h, h]
  · have hn : slotNumber n ≤ 12 := n.isLt
    have pos : 0 < slotNumber n := Nat.succ_pos _
    simp only [slotOf?_slotNumber, Option.isNone_some, Bool.false_eq_true, false_iff]
    omega

theorem slotNumber_injective {m n : SlotId} (h : slotNumber m = slotNumber n) : m = n :=
  Fin.ext (Nat.succ.inj h)

/-! ### SET_LISTEN (R140) -/

theorem mem_listenSet {es : List ListenArg} (once : (es.map ListenArg.patch).Nodup) (n : SlotId) (v : Nat) :
    (⟨n, v⟩ : ListenEntry) ∈ listenSet es ↔ ∃ e ∈ es, e.patch = slotNumber n ∧ v = min e.level 1023 := by
  constructor
  · intro h
    obtain ⟨m, _, hm⟩ := List.mem_filterMap.mp h
    obtain ⟨e, found, same⟩ := Option.map_eq_some_iff.mp hm
    obtain ⟨rfl, rfl⟩ := ListenEntry.mk.inj same
    exact ⟨e, List.mem_of_find?_eq_some found, by simpa using List.find?_some found, rfl⟩
  · rintro ⟨e, he, hn, rfl⟩
    refine List.mem_filterMap.mpr ⟨n, mem_allSlots n, ?_⟩
    have found : es.find? (fun e => e.patch == slotNumber n) = some e := by
      obtain ⟨f, hf⟩ := Option.isSome_iff_exists.mp (List.find?_isSome (p := fun e => e.patch == slotNumber n) |>.mpr ⟨e, he, by simp [hn]⟩)
      rw [hf]
      have numbered : f.patch = slotNumber n := by simpa using List.find?_some hf
      exact congrArg some (List.inj_on_of_nodup_map once (List.mem_of_find?_eq_some hf) he (numbered.trans hn.symm))
    unfold entryFor
    rw [found]; rfl

theorem State.listenChecks_pass {s : State} {es : List ListenArg} (once : (es.map ListenArg.patch).Nodup)
    (used : ∀ e ∈ es, ∃ n : SlotId, e.patch = slotNumber n ∧ (s.patch n).state ≠ .unused) : firstRefusal (s.listenChecks es) = none := by
  have numbered (k : Nat) (hk : k ∈ es.map ListenArg.patch) : ∃ n, k = slotNumber n ∧ (s.patch n).state ≠ .unused := by
    obtain ⟨e, he, rfl⟩ := List.mem_map.mp hk
    exact used e he
  simp only [State.listenChecks, firstRefusal_cons, firstRefusal_nil, Option.map_eq_none_iff, List.find?_eq_none, and_true]
  refine ⟨fun k hk => ?_, fun k hk => ?_⟩ <;> obtain ⟨n, rfl, hn⟩ := numbered k hk
  · have : (es.map ListenArg.patch).count (slotNumber n) ≤ 1 := List.nodup_iff_count_le_one.mp once _
    simp [slotOf?_slotNumber]; omega
  · simp [slotOf?_slotNumber, hn]

theorem State.listenChecks_refuses {s : State} {es : List ListenArg} {r : Response} {bad free : Nat → Bool}
    (hbad : ∀ k, bad k = true ↔ k = 0 ∨ 12 < k ∨ 1 < (es.map ListenArg.patch).count k)
    (hfree : ∀ k, free k = true ↔ ∀ n : SlotId, k = slotNumber n → (s.patch n).state = .unused)
    (h : firstRow [(((es.map ListenArg.patch).find? bad).isSome, refusePatch .badArgument (((es.map ListenArg.patch).find? bad).getD 0)),
      (((es.map ListenArg.patch).find? free).isSome, refusePatch .noSuchPatch (((es.map ListenArg.patch).find? free).getD 0))] = some r) :
    firstRefusal (s.listenChecks es) = some r := by
  have first : (fun k => (slotOf? k).isNone || decide (1 < (es.map ListenArg.patch).count k)) = bad := by
    funext k
    rw [Bool.eq_iff_iff, hbad, Bool.or_eq_true, slotOf?_isNone_iff, decide_eq_true_iff, or_assoc]
  unfold State.listenChecks
  dsimp only
  rw [first]
  simp only [map_refusal_eq_check]
  cases odd : (es.map ListenArg.patch).find? bad with
  | some k => rw [odd] at h; exact h
  | none =>
    have second : (es.map ListenArg.patch).find? (fun k => (slotOf? k).any (fun n => !(s.patch n).inUse)) = (es.map ListenArg.patch).find? free := by
      refine List.find?_congr_mem (fun k hk => ?_)
      have inside : ¬ (k = 0 ∨ 12 < k) := fun out =>
        List.find?_eq_none.mp odd k hk ((hbad k).mpr (out.elim .inl (fun e => .inr (.inl e))))
      obtain ⟨n, rfl⟩ := (outOfRange_or_slotNumber k).resolve_left inside
      rw [Bool.eq_iff_iff, hfree, slotOf?_slotNumber, Option.any_some, PatchRec.not_inUse_iff]
      exact ⟨fun e m hm => slotNumber_injective hm ▸ e, fun e => e n rfl⟩
    rw [odd] at h
    rw [second]
    exact (firstRefusal_rows [_, _]).trans h

theorem doSetListen_refused {s : State} {c : Console} {es : List ListenArg} {r : Response} (h : firstRefusal (s.listenChecks es) = some r) :
    doSetListen c es s = (s, r) := State.checked_refused h

theorem doSetListen_stores {s : State} {c : Console} {es : List ListenArg} (h : firstRefusal (s.listenChecks es) = none) :
    doSetListen c es s = (s.setConsole c { s.console c with listen := listenSet es },
      ⟨if ∃ e ∈ es, 1023 < e.level then .clamped else .ok, byteOf (listenSet es).length ::
        (listenSet es).flatMap (fun e => [byteOf (slotNumber e.patch), byteOf (e.level / 256), byteOf e.level])⟩) := by
  refine (State.checked_pass h).trans (Prod.ext rfl ?_)
  refine (okOrClamped_eq (P := ∃ e ∈ es, 1023 < e.level) ?_ _).trans ?_
  · rw [List.any_eq_true]
    exact exists_congr (fun e => and_congr_right (fun _ => decide_eq_true_iff))
  · rw [State.modConsole, State.setConsole_console_same]; rfl

theorem doSetConsole_eq (s : State) (c : Console) (m t : Option Nat) :
    doSetConsole c m t s = (s.setConsole c { s.console c with
        micTrim := storeUpTo 1023 m (s.console c).micTrim, sidetone := storeUpTo 1023 t (s.console c).sidetone },
      ⟨if (∃ v, m = some v ∧ 1023 < v) ∨ (∃ v, t = some v ∧ 1023 < v) then .clamped else .ok,
        (s.setConsole c { s.console c with
          micTrim := storeUpTo 1023 m (s.console c).micTrim, sidetone := storeUpTo 1023 t (s.console c).sidetone }).consoleImage c⟩) := by
  refine Prod.ext rfl ((okOrClamped_eq (P := (∃ v, m = some v ∧ 1023 < v) ∨ (∃ v, t = some v ∧ 1023 < v)) ?_ _).trans rfl)
  rw [Bool.or_eq_true, clampedBy_iff, clampedBy_iff]
  rfl

/-- Settles O34. -/
theorem consoleSettingsAreStored : Obligations.ConsoleSettingsAreStored := by
  unfold Obligations.ConsoleSettingsAreStored
  intro s c ready h
  refine ⟨fun m t => ⟨_, rfl, ?_⟩, fun es once used => ⟨listenSet es, listenSet_ascends es, mem_listenSet once, ?_⟩, fun es r => ?_⟩
  · have trim : (s.console c).micTrim = (h.console c).micTrim := (congrArg ConsoleRec.micTrim (State.heard_console s c)).symm
    have tone : (s.console c).sidetone = (h.console c).sidetone := (congrArg ConsoleRec.sidetone (State.heard_console s c)).symm
    rw [trim, tone]
    refine (exec_of_ready (q := .setConsole m t) rfl ready (doSetConsole_eq h c m t)).trans ?_
    cases m <;> cases t <;> rfl
  · exact exec_of_ready rfl ready (doSetListen_stores (s := h) (State.listenChecks_pass once used))
  · intro ks odd free row
    exact exec_of_ready rfl ready (doSetListen_refused (s := h) (State.listenChecks_refuses (s := h)
      (fun k => decide_eq_true_iff) (fun k => decide_eq_true_iff) row))

end Sys2Proof.Machine

/-! The millisecond in which no timer runs out (log 1). -/

namespace Sys2Proof.Machine

theorem ranOut_of_ne {before : Nat} (h : before ≠ 1) (now : Nat) : ranOut before now = false := by
  rw [ranOut, beq_false_of_ne h]; rfl

theorem State.due_of_false (s : State) {runs : Bool} (h : runs = false) (f : State → State) : s.due runs f = s :=
  if_neg (by rw [h]; decide)

theorem foldl_id_of_fixed {α : Type} {f : State → α → State} {s : State} (h : ∀ a, f s a = s) (l : List α) : l.foldl f s = s := by
  induction l with
  | nil => rfl
  | cons a l ih => rw [List.foldl_cons, h, ih]

section Idle

variable {old s : State}

theorem carrierTimers_idle {p : PortId} (cor : (old.port p).corHold ≠ 1) (qualify : (old.port p).qualifyLeft ≠ 1)
    (drop : (old.port p).dropLeft ≠ 1) : State.carrierTimers old s p = s := by
  unfold State.carrierTimers
  dsimp only
  rw [s.due_of_false (by rw [ranOut_of_ne cor, Bool.false_and]), s.due_of_false (ranOut_of_ne qualify _), s.due_of_false (ranOut_of_ne drop _)]

theorem guardTimers_idle {p : PortId} (guard : (old.port p).guardLeft ≠ 1) : State.guardTimers old s p = s :=
  s.due_of_false (ranOut_of_ne guard _) _

theorem portTimers_idle {p : PortId} (emg : (old.port p).emgHold ≠ 1) (lockout : (old.port p).lockoutLeft ≠ 1)
    (keyUp : (old.port p).keyUpLeft ≠ 1) (window : (old.port p).startWindow ≠ 1) (loss : (old.port p).lossLeft ≠ 1) :
    State.portTimers old s p = s := by
  unfold State.portTimers
  dsimp only
  rw [s.due_of_false (by rw [ranOut_of_ne emg, Bool.false_and]), s.due_of_false (ranOut_of_ne lockout _), s.due_of_false (ranOut_of_ne keyUp _),
    s.due_of_false (by rw [ranOut_of_ne window, Bool.false_and, Bool.false_and]),
    s.due_of_false (by rw [ranOut_of_ne loss, Bool.false_and, Bool.false_and])]

theorem patchTimers_idle {n : SlotId} (hang : (old.patch n).hangLeft ≠ 1) (limit : (s.patch n).limitReached = false) :
    State.patchTimers old s n = s := by
  unfold State.patchTimers
  dsimp only
  rw [s.due_of_false (ranOut_of_ne hang _)]
  split
  · exact s.due_of_false limit _
  · rfl

theorem consoleTimers_idle {c : Console} (ptt : (old.console c).pttHold ≠ 1) (silence : (old.console c).silence ≠ 1)
    (frame : (old.link c).rx.timeLeft ≠ 1) : State.consoleTimers old s c = s := by
  unfold State.consoleTimers
  dsimp only
  rw [s.due_of_false (ranOut_of_ne ptt _), s.due_of_false (ranOut_of_ne silence _), s.due_of_false (ranOut_of_ne frame _)]

end Idle

theorem PatchRec.tick_limitReached {r : PatchRec} (h : ∀ k, r.limit = some k → k = 0 ∨ r.elapsed + 1 < k) : r.tick.limitReached = false := by
  rw [Bool.eq_false_iff]
  intro reached
  obtain ⟨k, hk, above⟩ := (Option.any_eq_true _ _).mp reached
  obtain ⟨pos, past⟩ := (Bool.and_eq_true_iff.mp above).imp of_decide_eq_true of_decide_eq_true
  have counted : r.tick.elapsed ≤ r.elapsed + 1 := by
    show (if _ then _ else _) ≤ _
    split
    · exact Nat.min_le_left _ _
    · exact Nat.le_succ _
  rcases h k hk with h | h <;> omega

/-- Settles O2. -/
theorem emptyQueueCountsAMillisecond : Obligations.EmptyQueueCountsAMillisecond := by
  unfold Obligations.EmptyQueueCountsAMillisecond
  intro s empty run none ports patches consoles
  have counted : s.tick = s.count := by
    have settled : s.count.settle = s.count := State.settle_of_none (s := s.count) none
    have cor (p : PortId) : State.carrierTimers s s.count p = s.count := by
      obtain ⟨cor, -, qualify, drop, -⟩ := ports p
      exact carrierTimers_idle cor qualify drop
    have rest (p : PortId) : State.portTimers s s.count p = s.count := by
      obtain ⟨-, emg, -, -, -, lockout, keyUp, window, loss⟩ := ports p
      exact portTimers_idle emg lockout keyUp window loss
    have guard (p : PortId) : State.guardTimers s s.count p = s.count := by
      obtain ⟨-, -, -, -, guard, -⟩ := ports p
      exact guardTimers_idle guard
    have patch (n : SlotId) : State.patchTimers s s.count n = s.count :=
      patchTimers_idle (patches n).1 (by rw [State.count_patch]; exact PatchRec.tick_limitReached (patches n).2)
    have console (c : Console) : State.consoleTimers s s.count c = s.count :=
      have ⟨ptt, silence, frame⟩ := consoles c
      consoleTimers_idle ptt silence frame
    unfold State.tick
    rw [if_neg (by rw [run]; decide)]
    dsimp only
    rw [foldl_id_of_fixed cor, settled, foldl_id_of_fixed rest, foldl_id_of_fixed patch, console, console,
      foldl_id_of_fixed guard, settled]
  refine ⟨s.count, ?_, s.count_port, s.count_patch, s.count_console, s.count_link, rfl, rfl⟩
  unfold step
  rw [empty]
  exact congrArg Host.Outcome.next counted

end Sys2Proof.Machine

/-! Ports keyed and unkeyed for a console (R112, R113), and the talk request of a console: PTT_FILTER_EXPIRY, SEIZE, UNSEIZE and
SET_TALK_TARGET. -/

namespace Sys2Proof.Machine

/-! ### A parked port keyed for its console -/

theorem State.keyedFor_iff {s : State} {p : PortId} {c : Console} (h : (s.port p).reservedBy = some c) : s.keyedFor p = true ↔
    (s.console c).target = .port p ∧ (s.console c).request = true ∧ (s.port p).cfg.kind ≠ .listenOnly ∧ (s.port p).fault = false := by
  unfold State.keyedFor
  rw [h]
  simp [and_assoc]

theorem PortRec.consoleKeyed_eq (r : PortRec) : r.consoleKeyed =
    { r.keyInto .parkedKeyUp .parkedRelay with carrier := .clear, qualifyLeft := 0, dropLeft := 0 } := by
  unfold PortRec.consoleKeyed
  cases sense : r.cfg.transmitSense with
  | false => rw [PortRec.keyInto_off sense]; simp
  | true =>
    cases pin : r.txsPin with
    | low => rw [PortRec.keyInto_active sense ((PortRec.txsActive_iff r).mpr pin)]; simp [pin]
    | high => rw [PortRec.keyInto_inactive sense ((PortRec.txsInactive_iff r).mpr pin)]; simp [pin]

theorem PortRec.keyParked_state (r : PortRec) :
    (r.keyInto .parkedKeyUp .parkedRelay).state = .parkedKeyUp ∨ (r.keyInto .parkedKeyUp .parkedRelay).state = .parkedRelay := by
  rw [PortRec.keyInto_state]; split <;> simp

theorem PortRec.keyParked_masked (r : PortRec) : (r.keyInto .parkedKeyUp .parkedRelay).masked = true := by
  unfold PortRec.masked
  rcases r.keyParked_state with e | e <;> simp [PortRec.parkedKeyed, e]

theorem PortRec.keyInto_timers (r : PortRec) (up on : PortState) :
    (r.keyInto up on).qualifyLeft = r.qualifyLeft ∧ (r.keyInto up on).dropLeft = r.dropLeft := by
  unfold PortRec.keyInto; rw [PortRec.startSupervision_frame]; exact ⟨rfl, rfl⟩

theorem PortRec.rested {r : PortRec} (h : r.atRest) : ({ r with carrier := .clear, qualifyLeft := 0, dropLeft := 0 } : PortRec) = r := by
  obtain ⟨carrier, qualify, drop⟩ := h
  cases r
  simp_all

/-- What the carrier machine makes of a port that is keyed for its console (R10, R11). -/
theorem PortRec.remask_consoleKeyed {r : PortRec} (h : r.masked = true → r.atRest) :
    (PortRec.remask r (r.keyInto .parkedKeyUp .parkedRelay)).1 = r.consoleKeyed ∧
      ((PortRec.remask r (r.keyInto .parkedKeyUp .parkedRelay)).2 = [] ∨ (PortRec.remask r (r.keyInto .parkedKeyUp .parkedRelay)).2 = [.lost]) := by
  have keyed := r.keyParked_masked
  rw [PortRec.consoleKeyed_eq]
  cases hm : r.masked with
  | true =>
    obtain ⟨carrier, qualify, drop⟩ := h hm
    obtain ⟨sameQualify, sameDrop⟩ := r.keyInto_timers .parkedKeyUp .parkedRelay
    rw [PortRec.remask_same (keyed.trans hm.symm)]
    exact ⟨(PortRec.rested ⟨(PortRec.keyInto_carrier ..).trans carrier, sameQualify.trans qualify, sameDrop.trans drop⟩).symm, .inl rfl⟩
  | false =>
    unfold PortRec.remask
    rw [hm, keyed]
    refine ⟨rfl, ?_⟩
    show (if _ then _ else _) = _ ∨ (if _ then _ else _) = _
    split <;> simp

/-- A parked port's one write, its carrier event handed on to nobody (R71, R112, R143). -/
theorem State.settle_parkedWrite {s : State} {p : PortId} {rn : PortRec × List CarrierNews} (none : s.raised = [])
    (parked : rn.1.isParked = true) (settled : (s.setPort p rn.1).evalParked p = s.setPort p rn.1)
    (news : rn.2 = [] ∨ rn.2 = [.unmasked] ∨ rn.2 = [.lost] ∧ ∀ n, rn.1.patch = some n → (s.patch n).stands (.port p) = false) :
    (s.writePort p rn).settle = s.setPort p rn.1 := by
  obtain ⟨r, k⟩ := rn
  have same : (s.setPort p r).port p = r := State.setPort_port_same _ _ _
  rcases news with rfl | rfl | ⟨rfl, out⟩
  · exact State.settle_writePort_none none
  · refine State.settle_writePort_one none ?_ none
    have unbidding : (s.setPort p r).bidsOn? p = .none := by
      unfold State.bidsOn?
      rw [same, show r.isParked = true from parked]
      split <;> rfl
    show ((s.setPort p r).portBids p).evalPort p = _
    unfold State.portBids
    rw [unbidding]
    show (s.setPort p r).evalPort p = _
    unfold State.evalPort
    rw [same, if_pos (show r.isParked = true from parked), settled]
  · exact State.settle_writePort_one none (State.handOn_parked ⟨.lost, p⟩ (by rw [same]; exact parked)
      (fun n hn => out n (by rw [same] at hn; exact hn)) settled) none

theorem State.updPort_of_clean {s : State} (none : s.raised = []) (p : PortId) (f : PortRec → PortRec) :
    s.updPort p f = s.writePort p (PortRec.remask (s.port p) (f (s.port p))) := by
  unfold State.updPort State.maskedAgain
  rw [none, if_neg (by simp)]

/-- A port that waits for its console is keyed as the console talks to it (R107, R112). -/
theorem State.evalParked_keys {s : State} {c : Console} {p : PortId} (none : s.raised = []) (h : s.waitsFor c p)
    (target : (s.console c).target = .port p) (request : (s.console c).request = true) :
    (s.evalParked p).settle = s.setPort p (s.port p).consoleKeyed := by
  obtain ⟨state, reserved, kind, fault, out, rest⟩ := h
  obtain ⟨record, news⟩ := PortRec.remask_consoleKeyed (r := s.port p) rest
  have keyed : s.evalParked p = s.keyParked p := by
    unfold State.evalParked
    rw [if_pos state, if_pos ((State.keyedFor_iff reserved).mpr ⟨target, request, kind, fault⟩)]
  have keyedNow : (s.port p).consoleKeyed.parkedKeyed = true := by
    unfold PortRec.parkedKeyed PortRec.consoleKeyed
    dsimp only
    split_ifs <;> rfl
  have parkedNow : (s.port p).consoleKeyed.isParked = true := by
    unfold PortRec.isParked PortRec.consoleKeyed
    dsimp only
    split_ifs <;> rfl
  have stays : (s.setPort p (s.port p).consoleKeyed).evalParked p = s.setPort p (s.port p).consoleKeyed := by
    have same : (s.setPort p (s.port p).consoleKeyed).port p = (s.port p).consoleKeyed := State.setPort_port_same _ _ _
    have still : (s.setPort p (s.port p).consoleKeyed).keyedFor p = true :=
      (State.keyedFor_iff (by rw [same]; exact reserved)).mpr ⟨target, request, by rw [same]; exact kind, by rw [same]; exact fault⟩
    unfold State.evalParked
    rw [still, if_pos rfl, if_pos rfl, same, if_pos keyedNow, if_neg]
    intro e
    simp [PortRec.parkedKeyed, e] at keyedNow
  unfold State.keyParked at keyed
  rw [keyed, State.updPort_of_clean none, ← record]
  rw [← record] at parkedNow stays
  refine State.settle_parkedWrite none parkedNow stays (news.imp_right fun lost => .inr ⟨lost, fun n hn => out n ?_⟩)
  rw [record] at hn
  exact hn

/-- What the carrier machine makes of a port that is unkeyed for its console (R12, R101, R113). -/
theorem PortRec.remask_consoleUnkeyed {r : PortRec} (h : r.parkedKeyed = true) :
    (PortRec.remask r (r.unkeyInto .parked)).1 = r.consoleUnkeyed ∧
      ((PortRec.remask r (r.unkeyInto .parked)).2 = [] ∨ (PortRec.remask r (r.unkeyInto .parked)).2 = [.unmasked]) := by
  have masked : r.masked = true := by unfold PortRec.masked; rw [h]; simp
  have after : (r.unkeyInto .parked).masked = decide (0 < r.cfg.turnaround) := PortRec.masked_of_unkeyed rfl
  unfold PortRec.consoleUnkeyed
  dsimp only
  by_cases guard : 0 < r.cfg.turnaround
  · rw [if_pos (.inl guard), PortRec.remask_same (after.trans ((decide_eq_true guard).trans masked.symm))]
    exact ⟨rfl, .inl rfl⟩
  · have ends : PortRec.remask r (r.unkeyInto .parked) = (r.unkeyInto .parked).maskEnds := by
      unfold PortRec.remask
      rw [masked, after, decide_eq_false guard]; rfl
    rw [ends]
    cases cor : r.filteredCor with
    | false =>
      have stays : (r.unkeyInto .parked).maskEnds = (r.unkeyInto .parked, []) := if_neg (by rw [show (r.unkeyInto .parked).filteredCor = false from cor]; decide)
      rw [if_pos (.inr rfl), stays]
      exact ⟨rfl, .inl rfl⟩
    | true =>
      have asserts : (r.unkeyInto .parked).maskEnds = ((r.unkeyInto .parked).corAsserts.1, (r.unkeyInto .parked).corAsserts.2.map (fun _ => .unmasked)) :=
        if_pos cor
      rw [if_neg (by rintro (e | e); exacts [guard e, nomatch e]), asserts]
      refine ⟨PortRec.corAsserts_table (r.unkeyInto .parked), ?_⟩
      rcases PortRec.corAsserts_news (r.unkeyInto .parked) with e | ⟨k, e⟩
      · exact .inl (congrArg (List.map _) e)
      · exact .inr (congrArg (List.map _) e)

theorem State.evalParked_unkeys {s : State} {c : Console} {p : PortId} (none : s.raised = []) (reserved : (s.port p).reservedBy = some c)
    (keyed : (s.port p).parkedKeyed = true) (quiet : (s.console c).target ≠ .port p ∨ (s.console c).request = false) :
    (s.evalParked p).settle = s.setPort p (s.port p).consoleUnkeyed := by
  obtain ⟨record, news⟩ := PortRec.remask_consoleUnkeyed keyed
  have silent (u : State) (same : (u.port p).reservedBy = some c) (here : u.console c = s.console c) : u.keyedFor p = false := by
    rw [Bool.eq_false_iff]
    intro e
    obtain ⟨target, request, -⟩ := (State.keyedFor_iff same).mp e
    rw [here] at target request
    rcases quiet with q | q
    · exact q target
    · rw [q] at request; cases request
  have unparked : (s.port p).state ≠ .parked := fun e => by simp [PortRec.parkedKeyed, e] at keyed
  have unkeyed : s.evalParked p = s.unkeyParked p := by
    unfold State.evalParked
    rw [if_neg unparked, if_pos keyed, if_neg (by rw [silent s reserved rfl]; decide)]
  have parked : (PortRec.remask (s.port p) ((s.port p).unkeyInto .parked)).1.state = .parked := PortRec.remask_state _ _
  have stays : (s.setPort p (PortRec.remask (s.port p) ((s.port p).unkeyInto .parked)).1).evalParked p =
      s.setPort p (PortRec.remask (s.port p) ((s.port p).unkeyInto .parked)).1 := by
    unfold State.evalParked
    rw [State.setPort_port_same, if_pos parked, if_neg]
    have still := silent (s.setPort p (PortRec.remask (s.port p) ((s.port p).unkeyInto .parked)).1)
      (by rw [State.setPort_port_same, PortRec.remask_reservedBy]; exact reserved) rfl
    rw [still]; decide
  unfold State.unkeyParked at unkeyed
  rw [unkeyed, State.updPort_of_clean none, ← record]
  exact State.settle_parkedWrite none (by unfold PortRec.isParked; rw [parked]) stays (news.imp_right .inl)

end Sys2Proof.Machine

namespace Sys2Proof.Machine

/-! ### The talk request, by its target (R73, R74, R133) -/

theorem State.requestRises_none {s : State} {c : Console} (h : (s.console c).target = .none) : s.requestRises c = s := by
  unfold State.requestRises; rw [h]

theorem State.requestRises_patch {s : State} {c : Console} {n : SlotId} (h : (s.console c).target = .patch n) :
    s.requestRises c = s.consoleBids c n := by
  unfold State.requestRises; rw [h]

theorem State.requestRises_port {s : State} {c : Console} {p : PortId} (h : (s.console c).target = .port p) :
    s.requestRises c = s.evalParked p := by
  unfold State.requestRises; rw [h]

theorem State.requestFalls_none {s : State} {c : Console} (h : (s.console c).target = .none) : s.requestFalls c = s := by
  unfold State.requestFalls; rw [h]

theorem State.requestFalls_patch {s : State} {c : Console} {n : SlotId} (h : (s.console c).target = .patch n) :
    s.requestFalls c = s.consoleLeaves c n := by
  unfold State.requestFalls; rw [h]

theorem State.requestFalls_port {s : State} {c : Console} {p : PortId} (h : (s.console c).target = .port p) :
    s.requestFalls c = s.evalParked p := by
  unfold State.requestFalls; rw [h]

/-- A change of a console's record and what its request then does, told on the state with the record written. -/
theorem State.changeRequest_same {s : State} {c : Console} {f : ConsoleRec → ConsoleRec} (h : (f (s.console c)).request = (s.console c).request) :
    s.changeRequest c f = s.setConsole c (f (s.console c)) :=
  if_pos (h.symm.trans (congrArg ConsoleRec.request (State.setConsole_console_same s c _)).symm)

theorem State.changeRequest_rises {s : State} {c : Console} {f : ConsoleRec → ConsoleRec} (h : (s.console c).request = false)
    (hf : (f (s.console c)).request = true) : s.changeRequest c f = (s.setConsole c (f (s.console c))).requestRises c := by
  unfold State.changeRequest State.modConsole
  dsimp only
  rw [State.setConsole_console_same, h, hf, if_neg (by decide), if_pos rfl]

theorem State.changeRequest_falls {s : State} {c : Console} {f : ConsoleRec → ConsoleRec} (h : (s.console c).request = true)
    (hf : (f (s.console c)).request = false) : s.changeRequest c f = (s.setConsole c (f (s.console c))).requestFalls c := by
  unfold State.changeRequest State.modConsole
  dsimp only
  rw [State.setConsole_console_same, h, hf, if_neg (by decide), if_neg (by decide)]

/-- Without a target, a request is handed to nobody (R133). -/
theorem State.changeRequest_untargeted {s : State} {c : Console} {f : ConsoleRec → ConsoleRec} (h : (f (s.console c)).target = .none) :
    s.changeRequest c f = s.setConsole c (f (s.console c)) := by
  have target : ((s.setConsole c (f (s.console c))).console c).target = .none := by rw [State.setConsole_console_same, h]
  cases before : (s.console c).request <;> cases after : (f (s.console c)).request
  · exact State.changeRequest_same (after.trans before.symm)
  · rw [State.changeRequest_rises before after, State.requestRises_none target]
  · rw [State.changeRequest_falls before after, State.requestFalls_none target]
  · exact State.changeRequest_same (after.trans before.symm)

/-- Whatever the request then does is traffic. -/
theorem kept_changeRequest (s : State) (c : Console) (f : ConsoleRec → ConsoleRec) :
    Kept [] [] (s.setConsole c (f (s.console c))) (s.changeRequest c f) := by
  unfold State.changeRequest State.modConsole
  dsimp only
  split
  · exact Kept.refl _
  · split
    · exact kept_requestRises _ _
    · exact kept_requestFalls _ _

/-- A request that rises with a patch in which nobody talks as target takes its talk right (R73, R75, R77). -/
theorem State.requestRises_granted {s : State} {c : Console} {n : SlotId} (target : (s.console c).target = .patch n)
    (nobody : s.nobodyTalks n) : s.grantedTo (s.requestRises c) n (.console c) ∧ (s.requestRises c).raised = s.raised := by
  have awaits := State.awaits_of_nobodyTalks nobody (.console c)
  obtain ⟨granted, raised, -⟩ := State.grant_awaits awaits (fun p e => nomatch e)
  have bids : s.requestRises c = (s.takeBid n (.console c)).evalPatch n := by
    rw [State.requestRises_patch target]
    exact if_pos (by rw [PatchRec.takesBids_of_silent awaits.state, awaits.stands]; rfl)
  rw [bids]
  exact ⟨granted, raised⟩

/-- A request that falls with the console talking alone releases its patch into HANG (R74, R84, R85). -/
theorem State.requestFalls_released {s : State} {c : Console} {n : SlotId} (target : (s.console c).target = .patch n)
    (alone : s.talksAlone n (.console c)) (hang : 0 < (s.patch n).hangTime) : s.requestFalls c =
      s.setPatch n { s.patch n with state := .hang, talker := none, limit := none, hangLeft := (s.patch n).hangTime } := by
  rw [State.requestFalls_patch target]
  unfold State.consoleLeaves
  dsimp only
  rw [if_pos alone.2.1]
  exact State.release_talksAlone alone hang none

/-! ### The PTT filter (R132) -/

theorem Level.isLow_bne {a b : Level} : (Level.isLow a != Level.isLow b) = false ↔ b = a := by
  cases a <;> cases b <;> decide

theorem exec_pttFilter {s t : State} {c : Console} (run : s.resetLine = false) (h : 0 < (s.console c).pttHold)
    (ht : (s.changeRequest c (fun r => { r with filteredPtt := Level.isLow r.pttPin, pttHold := 0 })).settle = t) :
    exec (.pttFilterExpiry c) s = .next t :=
  exec_running run rfl ((if_pos h).trans ht)

/-- Settles O19. -/
theorem pttIsFilteredAndBids : Obligations.PttIsFilteredAndBids := by
  unfold Obligations.PttIsFilteredAndBids
  intro s c l run none r taken
  have settled (w : ConsoleRec) : (s.setConsole c w).settle = s.setConsole c w := State.settle_of_none none
  have rises (before : r.request = false) (after : taken.request = true) : s.changeRequest c
      (fun r => { r with filteredPtt := Level.isLow r.pttPin, pttHold := 0 }) = (s.setConsole c taken).requestRises c :=
    State.changeRequest_rises before after
  have target {g : Target} (h : r.target = g) : ((s.setConsole c taken).console c).target = g := by
    rw [State.setConsole_console_same]; exact h
  have request : ((s.setConsole c taken).console c).request = taken.request := by rw [State.setConsole_console_same]
  refine ⟨?_, fun idle => exec_running run rfl (if_neg (by rw [idle]; decide)), fun runs quiet => exec_pttFilter run runs ?_,
    fun n runs aims before after nobody => ?_, fun p runs aims => ⟨fun before after waits => exec_pttFilter run runs ?_,
      fun before after reserved keyed => exec_pttFilter run runs ?_⟩⟩
  · refine (congrArg Host.Outcome.next (State.pinEvent_of_running run _ _)).trans (congrArg (fun w => Host.Outcome.next (s.setConsole c w)) ?_)
    show r.pttTo l = _
    unfold ConsoleRec.pttTo
    rw [holdAfter_eq]
    simp only [Level.isLow_bne]
  · rcases quiet with aims | same
    · rw [State.changeRequest_untargeted (by exact aims)]; exact settled _
    · rw [State.changeRequest_same (by exact same)]; exact settled _
  · obtain ⟨granted, raised⟩ := State.requestRises_granted (target aims) nobody
    exact ⟨_, exec_pttFilter run runs ((congrArg State.settle (rises before after)).trans (State.settle_of_none (raised.trans none))), granted,
      (kept_requestRises _ _).frame⟩
  · rw [rises before after, State.requestRises_port (target aims)]
    exact State.evalParked_keys none waits (target aims) (request.trans after)
  · rw [State.changeRequest_falls before (by exact after), State.requestFalls_port (target aims)]
    exact State.evalParked_unkeys none reserved keyed (.inr (request.trans after))

/-! ### SEIZE and UNSEIZE (R135, R136) -/

theorem exec_seize {s u : State} {c : Console} (ready : s.readyFor c)
    (hu : ((s.heard c).changeRequest c (fun r => { r with seize := true })).settle = u) :
    exec (.seize c) s = .next (u.replied c ⟨.ok, u.standingBlock c⟩) :=
  hu ▸ exec_of_ready rfl ready rfl

theorem exec_unseize {s u : State} {c : Console} (ready : s.readyFor c)
    (hu : ((s.heard c).changeRequest c (fun r => { r with seize := false })).settle = u) :
    exec (.unseize c) s = .next (u.replied c ⟨.ok, u.standingBlock c⟩) :=
  hu ▸ exec_of_ready rfl ready rfl

theorem ConsoleRec.request_seized (r : ConsoleRec) : ({ r with seize := true } : ConsoleRec).request = true := by
  simp [ConsoleRec.request]

/-- A LISTEN-ONLY or faulted port that is PARKED stays so (R112). -/
theorem State.evalParked_unfit {s : State} {p : PortId} (parked : (s.port p).state = .parked)
    (h : (s.port p).cfg.kind = .listenOnly ∨ (s.port p).fault = true) : s.evalParked p = s := by
  unfold State.evalParked State.keyedFor
  rw [if_pos parked]
  refine if_neg ?_
  split
  · decide
  · rcases h with h | h <;> simp [h]

/-- Settles O36. -/
theorem seizeMovesTheRequest : Obligations.SeizeMovesTheRequest := by
  unfold Obligations.SeizeMovesTheRequest
  intro s c ready none h on off
  have clean (w : ConsoleRec) : (h.setConsole c w).settle = h.setConsole c w := State.settle_of_none none
  have heard : h.console c = { s.console c with link := .up, silence := (s.console c).supervision * 1000 } := State.heard_console s c
  have aims {g : Target} (e : (s.console c).target = g) : (h.console c).target = g := by rw [heard]; exact e
  have onConsole : on.console c = { h.console c with seize := true } := State.setConsole_console_same _ _ _
  have offConsole : off.console c = { h.console c with seize := false } := State.setConsole_console_same _ _ _
  have onAims {g : Target} (e : (s.console c).target = g) : (on.console c).target = g := by rw [onConsole]; exact aims e
  have offAims {g : Target} (e : (s.console c).target = g) : (off.console c).target = g := by rw [offConsole]; exact aims e
  have onRequest : (on.console c).request = true := by rw [onConsole]; exact ConsoleRec.request_seized _
  have rises (before : (h.console c).request = false) : h.changeRequest c (fun r => { r with seize := true }) = on.requestRises c :=
    State.changeRequest_rises before (ConsoleRec.request_seized _)
  have held (seized : (s.console c).seize = true) : (h.console c).request = true := by
    rw [heard]; simp [ConsoleRec.request, seized]
  have dropped (ptt : (s.console c).filteredPtt = false) : ({ h.console c with seize := false } : ConsoleRec).request = false := by
    rw [heard]; simp [ConsoleRec.request, ptt]
  have falls (seized : (s.console c).seize = true) (ptt : (s.console c).filteredPtt = false) :
      h.changeRequest c (fun r => { r with seize := false }) = off.requestFalls c :=
    State.changeRequest_falls (held seized) (dropped ptt)
  refine ⟨fun quiet => exec_seize ready ?_, fun n before target nobody => ?_,
    fun p before target => ⟨fun waits => exec_seize ready ?_, fun parked unfit => exec_seize ready ?_⟩,
    fun quiet => exec_unseize ready ?_, fun n seized ptt target alone hang => exec_unseize ready ?_,
    fun p seized ptt target reserved keyed => exec_unseize ready ?_,
    ⟨_, exec_seize ready rfl, ((kept_changeRequest _ _ _).trans (kept_settle _)).frame⟩,
    ⟨_, exec_unseize ready rfl, ((kept_changeRequest _ _ _).trans (kept_settle _)).frame⟩⟩
  · rcases quiet with request | target
    · rw [State.changeRequest_same ((ConsoleRec.request_seized _).trans request.symm)]; exact clean _
    · rw [State.changeRequest_untargeted (by exact aims target)]; exact clean _
  · obtain ⟨granted, raised⟩ := State.requestRises_granted (onAims target) nobody
    refine ⟨_, exec_seize ready ?_, granted, (kept_requestRises _ _).frame⟩
    rw [rises before, State.settle_of_none (raised.trans none)]
  · rw [rises before, State.requestRises_port (onAims target)]
    exact State.evalParked_keys none waits (onAims target) onRequest
  · rw [rises before, State.requestRises_port (onAims target), State.evalParked_unfit (by exact parked) (by exact unfit)]
    exact clean _
  · rcases quiet with request | target
    · rw [State.changeRequest_same (by rw [offConsole] at request; exact request)]; exact clean _
    · rw [State.changeRequest_untargeted (by exact aims target)]; exact clean _
  · rw [falls seized ptt, State.requestFalls_released (offAims target) alone hang]
    exact State.settle_of_none none
  · rw [falls seized ptt, State.requestFalls_port (offAims target)]
    exact State.evalParked_unkeys none reserved keyed (.inr (by rw [offConsole]; exact dropped ptt))

end Sys2Proof.Machine

/-! What the traffic of an action is made of: the requests on port records, the writes of a patch's floor, retirements, offers and raised
events, each with the condition under which it is made. A property that each of them keeps is kept by whatever the traffic does. -/

namespace Sys2Proof.Machine

/-! ### Moves -/

/-- Source src may enter the list of patch n: a port that is an unparked member, a console that talks to it (R71, R73). -/
def State.mayBid (s : State) (n : SlotId) : Source → Prop
  | .port p => (s.port p).patch = some n ∧ (s.port p).isParked = false
  | .console c => (s.console c).target = .patch n

/-- A request on the record of port p, and the condition under which traffic makes it; only the ports of W are keyed and unkeyed for their
console. -/
inductive PortMove (W : PortId → Prop) (s : State) (p : PortId) : (PortRec → PortRec) → Prop
  | key (n : SlotId) (home : p ∈ (s.patch n).members ∨ (s.port p).patch = some n) (hold : s.holdable n p = true)
      (live : (s.patch n).state = .talk ∨ (s.patch n).state = .closing) : PortMove W s p (fun r => r.keyInto .keyUp .relay)
  | unkey (relays : (s.port p).inRelaySet = true ∨ (s.port p).state = .idle) : PortMove W s p (fun r => r.unkeyInto .idle)
  | keyParked (mine : W p) (parked : (s.port p).state = .parked) (keyed : s.keyedFor p = true) :
      PortMove W s p (fun r => r.keyInto .parkedKeyUp .parkedRelay)
  | unkeyParked (mine : W p) (parked : (s.port p).parkedKeyed = true) (quiet : s.keyedFor p = false) : PortMove W s p (fun r => r.unkeyInto .parked)
  | talks (n : SlotId) (granted : (s.patch n).talker = some (.port p)) : PortMove W s p (fun r => r.restInto .talker)
  | idles (talker : (s.port p).state = .talker) : PortMove W s p (fun r => r.restInto .idle)
  | leaves (n : SlotId) (closing : (s.patch n).state = .closing) (member : p ∈ (s.patch n).members) : PortMove W s p PortRec.leavePatch

/-- One move of the traffic. -/
inductive Move (W : PortId → Prop) : State → State → Prop
  | port {s : State} {p : PortId} {f : PortRec → PortRec} (h : PortMove W s p f) : Move W s (s.updPort p f)
  | floor {s : State} (n : SlotId) (r : PatchRec) (used : s.patch n ≠ PatchRec.unused) (fixed : r.fixedPart = (s.patch n).fixedPart)
      (closing : r.state = .closing → (s.patch n).state = .closing)
      (stands : ∀ src, r.stands src = true → (s.patch n).stands src = true ∨ s.mayBid n src) : Move W s (s.setPatch n r)
  | retired {s : State} (n : SlotId) (closing : (s.patch n).state = .closing) :
      Move W s (((s.modConsole .A (fun r => r.forgetPatch n)).modConsole .B (fun r => r.forgetPatch n)).setPatch n PatchRec.unused)
  | offer {s : State} (c : Console) (e : Notice) : Move W s (s.offer c e)
  | raised {s : State} (l : List CarrierEvent) (sub : ∀ e ∈ l, e ∈ s.raised) : Move W s { s with raised := l }

/-- Moves one after the other. -/
abbrev Traffic (W : PortId → Prop) : State → State → Prop := Relation.ReflTransGen (Move W)

variable {W : PortId → Prop} {s t : State}

theorem Move.traffic (h : Move W s t) : Traffic W s t := .single h

/-- A property that each move keeps. -/
theorem Traffic.keeps {I : State → Prop} (move : ∀ {s t}, Move W s t → I s → I t) (h : Traffic W s t) (i : I s) : I t := by
  induction h with
  | refl => exact i
  | tail _ m ih => exact move m ih

theorem traffic_foldl {α : Type} {f : State → α → State} (h : ∀ u a, Traffic W u (f u a)) (l : List α) (s : State) :
    Traffic W s (l.foldl f s) := by
  induction l generalizing s with
  | nil => exact .refl
  | cons a l ih => exact (h s a).trans (ih _)

theorem traffic_offerBoth (s : State) (e : Notice) : Traffic W s (s.offerBoth e) :=
  (Move.offer .A e).traffic.trans (Move.offer .B e).traffic

/-! ### The keying unit -/

theorem State.applyKey_patch (s : State) (p : PortId) (d : KeyDecision) (m : SlotId) : (s.applyKey p d).patch m = s.patch m := by
  cases d with
  | key => unfold State.applyKey State.keyMember; simp
  | unkey => unfold State.applyKey State.unkeyMember; simp
  | leave => rfl

theorem foldl_applyKey_patch (D : PortId → KeyDecision) (l : List PortId) (s : State) (m : SlotId) :
    (l.foldl (fun acc p => acc.applyKey p (D p)) s).patch m = s.patch m := by
  induction l generalizing s with
  | nil => rfl
  | cons p l ih => rw [List.foldl_cons, ih, State.applyKey_patch]

/-- One member's decision, taken on a record as it was or as the same decision has left it (R98). -/
theorem traffic_decided {u : State} {n : SlotId} {q : PortId} (member : q ∈ (s.patch n).members ∨ (s.port q).patch = some n)
    (patch : ∀ m, u.patch m = s.patch m) (port : u.port q = s.port q ∨ u.port q = ((s.port q).decided (s.keyDecision n q)).1) :
    Traffic W u (u.applyKey q (s.keyDecision n q)) := by
  cases d : s.keyDecision n q with
  | leave => exact .refl
  | key =>
    obtain ⟨hold, live, -⟩ := State.eligible_iff.mp (State.keyDecision_key d)
    obtain ⟨mode, kind, parked, fault⟩ := State.holdable_iff.mp hold
    rw [d] at port
    have home : (u.port q).patch = (s.port q).patch := by
      rcases port with e | e
      · rw [e]
      · rw [e, PortRec.decided_patch]
    have fit : (u.port q).cfg.kind ≠ .listenOnly ∧ (u.port q).isParked = false ∧ (u.port q).fault = false := by
      rcases port with e | e
      · rw [e]; exact ⟨kind, parked, fault⟩
      · rw [e, PortRec.decided_cfg, PortRec.decided_fault]; exact ⟨kind, PortRec.keyed_unparked _, fault⟩
    exact (Move.port (.key n (by rw [patch, home]; exact member) (State.holdable_iff.mpr ⟨by rw [patch]; exact mode, fit⟩)
      (by rw [patch]; exact live))).traffic
  | unkey =>
    rw [d] at port
    refine (Move.port (.unkey ?_)).traffic
    rcases port with port | port
    · exact .inl (by rw [port]; exact State.keyDecision_unkey_relays d)
    · exact .inr (by rw [port]; exact PortRec.remask_state _ _)

theorem traffic_evalPatch (s : State) (n : SlotId) : Traffic W s (s.evalPatch n) := by
  have step (done todo : List PortId) (all : done ++ todo = (s.patch n).members) :
      Traffic W (done.foldl (fun acc p => acc.applyKey p (s.keyDecision n p)) s)
        (todo.foldl (fun acc p => acc.applyKey p (s.keyDecision n p)) (done.foldl (fun acc p => acc.applyKey p (s.keyDecision n p)) s)) := by
    induction todo generalizing done with
    | nil => exact .refl
    | cons q todo ih =>
      have next := ih (done ++ [q]) (by rw [← all, List.append_assoc]; rfl)
      rw [List.foldl_append] at next
      have member : q ∈ (s.patch n).members := by rw [← all]; simp
      refine Relation.ReflTransGen.trans (traffic_decided (.inl member) (foldl_applyKey_patch _ _ _) ?_) next
      rw [foldl_applyKey_port]
      split
      · exact .inr rfl
      · exact .inl rfl
  exact step [] _ rfl

theorem traffic_evalParked {p : PortId} (h : W p) : Traffic W s (s.evalParked p) := by
  unfold State.evalParked
  split
  · rename_i parked
    split
    · rename_i keyed; exact (Move.port (.keyParked h parked keyed)).traffic
    · exact .refl
  · split
    · rename_i parked
      split
      · exact .refl
      · rename_i quiet; exact (Move.port (.unkeyParked h parked (by simpa using quiet))).traffic
    · exact .refl

theorem traffic_evalPort {p : PortId} (h : W p) : Traffic W s (s.evalPort p) := by
  unfold State.evalPort
  split
  · exact traffic_evalParked h
  · split
    · rename_i n hn; exact traffic_decided (.inr hn) (fun _ => rfl) (.inl rfl)
    · exact .refl

/-! ### Grants and releases -/

theorem PatchRec.ne_unused_of_state {r : PatchRec} (h : r.state ≠ .unused) : r ≠ PatchRec.unused := fun e => h (by rw [e]; rfl)
theorem PatchRec.ne_unused_of_talker {r : PatchRec} {src : Source} (h : r.talker = some src) : r ≠ PatchRec.unused := fun e => by
  rw [e] at h; cases h
theorem PatchRec.ne_unused_of_stands {r : PatchRec} {src : Source} (h : r.stands src = true) : r ≠ PatchRec.unused := fun e => by
  rw [e] at h; cases h

theorem traffic_idleTalker (s : State) (src : Option Source) : Traffic W s (s.idleTalker src) := by
  unfold State.idleTalker
  split
  · split
    · rename_i talker; exact (Move.port (.idles talker)).traffic
    · exact .refl
  · exact .refl

theorem PatchRec.granted_stands' {r : PatchRec} {src x : Source} (h : (r.granted src).stands x = true) : x = src ∨ r.stands x = true := by
  rcases PatchRec.stands_iff.mp h with h | h | h
  · exact .inl (Option.some.inj h).symm
  · refine .inr (PatchRec.stands_iff.mpr (.inr (.inl ?_)))
    have sub : (if r.partner.map Source.console = some src then none else r.partner).map Source.console = some x := h
    split at sub
    · cases sub
    · exact sub
  · exact .inr (PatchRec.stands_iff.mpr (.inr (.inr (List.mem_of_mem_erase h))))

/-- A grant, its floor written and its port asked for TALKER (R77). -/
theorem traffic_grant {n : SlotId} {src : Source} (used : s.patch n ≠ PatchRec.unused)
    (h : (s.patch n).stands src = true ∨ s.mayBid n src) : Traffic W s (s.grant n src) := by
  have floor : Move W s (s.setPatch n ((s.patch n).granted src)) := .floor n _ used rfl nofun fun x hx => by
    rcases PatchRec.granted_stands' hx with rfl | e
    · exact h
    · exact .inl e
  cases src with
  | port p =>
    have asked : Move W (s.setPatch n ((s.patch n).granted (.port p))) _ := .port (p := p) (.talks n (by rw [State.setPatch_patch_same]; rfl))
    exact (floor.traffic.tail asked).trans (traffic_offerBoth _ _)
  | console c => exact floor.traffic.trans (traffic_offerBoth _ _)

theorem traffic_dropTalker {n : SlotId} (used : s.patch n ≠ PatchRec.unused) : Traffic W s (s.dropTalker n) :=
  (Move.floor n (s.patch n).dropped used rfl id fun x hx => .inl (by
    rcases PatchRec.stands_iff.mp hx with h | h | h
    · cases h
    · exact PatchRec.stands_iff.mpr (.inr (.inl h))
    · exact PatchRec.stands_iff.mpr (.inr (.inr h)))).traffic.trans (traffic_idleTalker _ _)

/-- A withdrawal (R83). -/
theorem traffic_withdraw (s : State) (n : SlotId) (src : Source) : Traffic W s (s.withdraw n src) := by
  by_cases h : src ∈ (s.patch n).bids
  · refine (Move.floor n { s.patch n with bids := (s.patch n).bids.erase src } (PatchRec.ne_unused_of_stands
      (PatchRec.stands_iff.mpr (.inr (.inr h)))) rfl id fun x hx => .inl (by
      rcases PatchRec.stands_iff.mp hx with h | h | h
      · exact PatchRec.stands_iff.mpr (.inl h)
      · exact PatchRec.stands_iff.mpr (.inr (.inl h))
      · exact PatchRec.stands_iff.mpr (.inr (.inr (List.mem_of_mem_erase h))))).traffic
  · have same : s.withdraw n src = s := by
      unfold State.withdraw State.modPatch
      dsimp only
      rw [List.erase_of_not_mem h]
      exact State.setPatch_self _ _
    rw [same]

/-- A port granted the talk right is asked for TALKER (R78). -/
def State.asked (s : State) : Source → State
  | .port p => s.updPort p (fun r => r.restInto .talker)
  | .console _ => s

theorem State.grant_eq (s : State) (n : SlotId) (src : Source) :
    s.grant n src = ((s.setPatch n ((s.patch n).granted src)).asked src).offerBoth ⟨.floorChange, slotNumber n⟩ := by
  cases src <;> rfl

theorem State.setPatch_asked (s : State) (n : SlotId) (a : PatchRec) (src : Source) :
    (s.setPatch n a).asked src = (s.asked src).setPatch n a := by
  cases src with
  | port p => exact State.setPatch_updPort s n a p (fun r => r.restInto .talker)
  | console c => rfl

theorem State.setPatch_grant (s : State) (n : SlotId) (a : PatchRec) (src : Source) :
    (s.grant n src).setPatch n a = ((s.setPatch n a).asked src).offerBoth ⟨.floorChange, slotNumber n⟩ := by
  rw [State.grant_eq, ← State.setPatch_offerBoth, ← State.setPatch_asked, State.setPatch_setPatch]

theorem State.setPatch_dropTalker (s : State) (n : SlotId) (a : PatchRec) :
    (s.dropTalker n).setPatch n a = (s.setPatch n a).idleTalker (s.patch n).talker := by
  unfold State.dropTalker State.modPatch
  rw [← State.setPatch_idleTalker, State.setPatch_setPatch]

theorem traffic_asked {n : SlotId} {src : Source} (h : (s.patch n).talker = some src) : Traffic W s (s.asked src) := by
  cases src with
  | port p => exact (Move.port (.talks n h)).traffic
  | console c => exact .refl

/-- A pre-emption: the patch's record, the former talker IDLE, a port that bids TALKER, and the two notices (R79, R80). -/
theorem State.preempt_eq (s : State) (n : SlotId) (src : Source) (t : PortId) :
    s.preempt n src t = ((((s.setPatch n ((s.patch n).preempted src (s.insertAhead (.port t) ((s.patch n).bids.erase src)))).idleTalker
      (s.patch n).talker).asked src).offerBoth ⟨.floorChange, slotNumber n⟩).offerBoth ⟨.preempted, portNumber t⟩ := by
  have record := s.preempt_patch n n src t
  rw [if_pos rfl] at record
  unfold State.preempt at record ⊢
  rw [State.offerBoth_patch, State.modPatch_patch, if_pos rfl] at record
  unfold State.modPatch
  dsimp only at record ⊢
  rw [record, State.setPatch_grant, State.setPatch_dropTalker]

theorem PatchRec.preempted_keeps {s : State} {r : PatchRec} {src x : Source} {t : PortId} (ht : r.talker = some (.port t))
    (h : (r.preempted src (s.insertAhead (.port t) (r.bids.erase src))).stands x = true) : x = src ∨ r.stands x = true := by
  rcases PatchRec.stands_iff.mp h with h | h | h
  · exact .inl (Option.some.inj h).symm
  · refine .inr (PatchRec.stands_iff.mpr (.inr (.inl ?_)))
    have sub : (if r.partner.map Source.console = some src then none else r.partner).map Source.console = some x := h
    split at sub
    · cases sub
    · exact sub
  · rcases List.mem_cons.mp ((s.insertAhead_perm _ _).mem_iff.mp h) with rfl | h
    · exact .inr (PatchRec.stands_iff.mpr (.inl ht))
    · exact .inr (PatchRec.stands_iff.mpr (.inr (.inr (List.mem_of_mem_erase h))))

/-- A bidder takes the talk right from the port that has it (R79, R80). -/
theorem traffic_preempt {n : SlotId} {src : Source} {t : PortId} (talker : (s.patch n).talker = some (.port t))
    (h : (s.patch n).stands src = true ∨ s.mayBid n src) : Traffic W s (s.preempt n src t) := by
  have floor : Move W s (s.setPatch n ((s.patch n).preempted src (s.insertAhead (.port t) ((s.patch n).bids.erase src)))) :=
    .floor n _ (PatchRec.ne_unused_of_talker talker) rfl nofun fun x hx => by
      rcases PatchRec.preempted_keeps talker hx with rfl | e
      · exact h
      · exact .inl e
  rw [State.preempt_eq]
  refine ((floor.traffic.trans (traffic_idleTalker _ _)).trans (traffic_asked (n := n) ?_)).trans
    ((traffic_offerBoth _ _).trans (traffic_offerBoth _ _))
  rw [State.setPatch_idleTalker, State.setPatch_patch_same]
  rfl

/-- A bid listed (R70, R76). -/
theorem traffic_listBid {n : SlotId} {src : Source} (used : s.patch n ≠ PatchRec.unused)
    (h : (s.patch n).stands src = true ∨ s.mayBid n src) : Traffic W s (s.listBid n src) :=
  (Move.floor n { s.patch n with bids := s.insertBid src (s.patch n).bids } used rfl id fun x hx => by
    rcases PatchRec.listed_stands hx with e | rfl
    · exact .inl e
    · exact h).traffic

theorem traffic_bidOnTalk {n : SlotId} {src : Source} (used : s.patch n ≠ PatchRec.unused)
    (h : (s.patch n).stands src = true ∨ s.mayBid n src) : Traffic W s (s.bidOnTalk n src) := by
  unfold State.bidOnTalk
  split
  · rename_i talker
    split
    · exact traffic_preempt (PatchRec.portTalker_eq_some.mp talker) h
    · exact traffic_listBid used h
  · exact traffic_listBid used h
  · split
    · rename_i c _
      refine (Move.floor n { s.patch n with partner := some c } used rfl id fun x hx => ?_).traffic
      rcases PatchRec.stands_iff.mp hx with e | e | e
      · exact .inl (PatchRec.stands_iff.mpr (.inl e))
      · obtain rfl := Option.some.inj e; exact h
      · exact .inl (PatchRec.stands_iff.mpr (.inr (.inr e)))
    · exact traffic_listBid used h
  · exact traffic_listBid used h

theorem traffic_takeBid {n : SlotId} {src : Source} (h : (s.patch n).stands src = true ∨ s.mayBid n src) : Traffic W s (s.takeBid n src) := by
  unfold State.takeBid
  split
  · rename_i e; exact traffic_grant (PatchRec.ne_unused_of_state (by rw [e]; decide)) h
  · rename_i e; exact traffic_grant (PatchRec.ne_unused_of_state (by rw [e]; decide)) h
  · rename_i e; exact traffic_bidOnTalk (PatchRec.ne_unused_of_state (by rw [e]; decide)) h
  · exact .refl
  · exact .refl

theorem traffic_portBids (s : State) (p : PortId) : Traffic W s (s.portBids p) := by
  unfold State.portBids
  split
  · rename_i n hn
    obtain ⟨home, unparked, -⟩ := State.bidsOn?_eq_some.mp hn
    exact (traffic_takeBid (src := .port p) (.inr ⟨home, unparked⟩)).trans (traffic_evalPatch _ _)
  · exact .refl

theorem traffic_portBidsIfQualified (s : State) (p : PortId) : Traffic W s (s.portBidsIfQualified p) := by
  unfold State.portBidsIfQualified
  split
  · exact traffic_portBids s p
  · exact .refl

theorem traffic_consoleBids {c : Console} {n : SlotId} (h : (s.console c).target = .patch n) : Traffic W s (s.consoleBids c n) := by
  unfold State.consoleBids
  split
  · exact (traffic_takeBid (src := .console c) (.inr h)).trans (traffic_evalPatch _ _)
  · exact .refl

/-! ### Retirement and release -/

theorem traffic_unkeyIfRelaying (s : State) (p : PortId) : Traffic W s (s.unkeyIfRelaying p) := by
  unfold State.unkeyIfRelaying
  split
  · rename_i relays; exact (Move.port (.unkey (.inl relays))).traffic
  · exact .refl

theorem traffic_offerRetired (s : State) (n : SlotId) (but : Option Console) : Traffic W s (s.offerRetired n but) := by
  have first : Traffic W s (if but = some .A then s else s.offer .A ⟨.patchRetired, slotNumber n⟩) := by
    split
    · exact .refl
    · exact (Move.offer _ _).traffic
  unfold State.offerRetired
  dsimp only
  split
  · exact first
  · exact first.tail (.offer _ _)

/-- The members of a CLOSING patch leave it (R65). -/
theorem traffic_leavePatch {n : SlotId} (l : List PortId) (closing : (s.patch n).state = .closing) (members : ∀ p ∈ l, p ∈ (s.patch n).members) :
    Traffic W s (l.foldl (fun a p => a.updPort p PortRec.leavePatch) s) ∧
      (l.foldl (fun a p => a.updPort p PortRec.leavePatch) s).patch n = s.patch n := by
  induction l generalizing s with
  | nil => exact ⟨.refl, rfl⟩
  | cons p l ih =>
    have patch : (s.updPort p PortRec.leavePatch).patch n = s.patch n := by simp
    obtain ⟨rest, same⟩ := ih (s := s.updPort p PortRec.leavePatch) (by rw [patch]; exact closing)
      (fun q hq => by rw [patch]; exact members q (List.mem_cons_of_mem _ hq))
    exact ⟨.head (.port (.leaves n closing (members p List.mem_cons_self))) rest, same.trans patch⟩

theorem traffic_retire {n : SlotId} (closing : (s.patch n).state = .closing) (but : Option Console) : Traffic W s (s.retire n but) := by
  let emptied := s.setPatch n { s.patch n with bids := [], talker := none, partner := none, limit := none }
  let unkeyed := (s.patch n).members.foldl State.unkeyIfRelaying emptied
  have empties : Move W s emptied := .floor n _ (PatchRec.ne_unused_of_state (by rw [closing]; decide)) rfl (fun _ => closing)
    (fun x hx => by rcases PatchRec.stands_iff.mp hx with e | e | e <;> cases e)
  have unkeys : Traffic W emptied unkeyed := traffic_foldl (fun u p => traffic_unkeyIfRelaying u p) _ _
  have here : unkeyed.patch n = { s.patch n with bids := [], talker := none, partner := none, limit := none } :=
    (foldl_unkeyIfRelaying_patch _ _ _).trans (State.setPatch_patch_same _ _ _)
  obtain ⟨leaves, same⟩ := traffic_leavePatch (W := W) (s := unkeyed) (n := n) (s.patch n).members (by rw [here]; exact closing)
    (fun p hp => by rw [here]; exact hp)
  have gone := Move.retired (W := W) (s := (s.patch n).members.foldl (fun a p => a.updPort p PortRec.leavePatch) unkeyed) n
    (by rw [same, here]; exact closing)
  exact (((empties.traffic.trans unkeys).trans leaves).tail gone).trans (traffic_offerRetired _ _ _)

/-- The talk right is lost, whoever loses it (R84 to R86). -/
theorem traffic_release {n : SlotId} (used : s.patch n ≠ PatchRec.unused) (but : Option Console) : Traffic W s (s.release n but) := by
  have here : (s.dropTalker n).patch n = (s.patch n).dropped := by rw [State.dropTalker_patch_eq, if_pos rfl]
  unfold State.release
  dsimp only
  split
  · rename_i closing
    exact (traffic_dropTalker used).trans (traffic_retire (by rw [here]; exact closing) but)
  · unfold State.releaseOutcome
    rw [here]
    split
    · rename_i c hc
      have stands : ((s.dropTalker n).patch n).stands (.console c) = true := by
        rw [here]; exact PatchRec.stands_iff.mpr (.inr (.inl (by show (s.patch n).dropped.partner.map _ = _; rw [hc]; rfl)))
      exact (traffic_dropTalker used).trans (traffic_grant (PatchRec.ne_unused_of_stands stands) (.inl stands))
    · rename_i b l _ hb
      have stands : ((s.dropTalker n).patch n).stands b = true := by
        rw [here]; exact PatchRec.stands_iff.mpr (.inr (.inr (by rw [hb]; exact List.mem_cons_self)))
      exact (traffic_dropTalker used).trans (traffic_grant (PatchRec.ne_unused_of_stands stands) (.inl stands))
    · unfold State.modPatch
      rw [here, State.setPatch_dropTalker]
      refine Relation.ReflTransGen.trans (Move.floor n _ used ?_ ?_ fun x hx => .inl ?_).traffic (traffic_idleTalker _ _)
      · dsimp only; split_ifs <;> rfl
      · dsimp only; split_ifs <;> nofun
      · have stands : (s.patch n).dropped.stands x = true := by dsimp only at hx; split_ifs at hx <;> exact hx
        rcases PatchRec.stands_iff.mp stands with h | h | h
        · cases h
        · exact PatchRec.stands_iff.mpr (.inr (.inl h))
        · exact PatchRec.stands_iff.mpr (.inr (.inr h))

theorem traffic_vacatePartner {n : SlotId} (used : s.patch n ≠ PatchRec.unused) : Traffic W s (s.modPatch n PatchRec.vacatePartner) := by
  refine (Move.floor n (s.patch n).vacatePartner used ?_ ?_ fun x hx => .inl ?_).traffic
  · unfold PatchRec.vacatePartner; split <;> rfl
  · unfold PatchRec.vacatePartner; split <;> exact id
  · unfold PatchRec.vacatePartner at hx
    split at hx
    · rename_i d hd
      have listed : .console d ∈ (s.patch n).bids := by
        split at hd
        · exact firstConsole_mem hd
        · cases hd
      rcases PatchRec.stands_iff.mp hx with e | e | e
      · exact PatchRec.stands_iff.mpr (.inl e)
      · obtain rfl := Option.some.inj e; exact PatchRec.stands_iff.mpr (.inr (.inr listed))
      · exact PatchRec.stands_iff.mpr (.inr (.inr (List.mem_of_mem_erase e)))
    · rcases PatchRec.stands_iff.mp hx with e | e | e
      · exact PatchRec.stands_iff.mpr (.inl e)
      · cases e
      · exact PatchRec.stands_iff.mpr (.inr (.inr e))

theorem traffic_consoleLeaves (s : State) (c : Console) (n : SlotId) : Traffic W s (s.consoleLeaves c n) := by
  unfold State.consoleLeaves
  refine Relation.ReflTransGen.trans ?_ (traffic_evalPatch _ _)
  split
  · rename_i h; exact traffic_release (PatchRec.ne_unused_of_talker h) none
  · split
    · rename_i h
      exact traffic_vacatePartner (PatchRec.ne_unused_of_stands (src := .console c) (PatchRec.stands_iff.mpr (.inr (.inl (by rw [h]; rfl)))))
    · split
      · exact traffic_withdraw _ _ _
      · exact .refl

/-! ### The end of an action -/

theorem traffic_portLosesPlace (s : State) (p : PortId) : Traffic W s (s.portLosesPlace p) := by
  unfold State.portLosesPlace
  split
  · exact .refl
  · split
    · rename_i h; exact (traffic_release (PatchRec.ne_unused_of_talker h) none).trans (traffic_evalPatch _ _)
    · split
      · exact (traffic_withdraw _ _ _).trans (traffic_evalPatch _ _)
      · exact .refl

theorem traffic_handOn {e : CarrierEvent} (h : W e.port) : Traffic W s (s.handOn e) := by
  rcases s.handOn_cases e with he | he <;> rw [he]
  · exact (traffic_portBids _ _).trans (traffic_evalPort h)
  · exact (traffic_portLosesPlace _ _).trans (traffic_evalPort h)

/-- A property that each move keeps, those of the ports of W alone for a console, and under which only they have events waiting. -/
theorem settle_keeps {I : State → Prop} (move : ∀ {s t}, Move W s t → I s → I t) (mine : ∀ {s}, I s → ∀ e ∈ s.raised, W e.port) (i : I s) :
    I s.settle := by
  unfold State.settle
  generalize Config.carrierEventBound = k
  induction k generalizing s with
  | zero => exact i
  | succ k ih =>
    unfold settleN
    split
    · exact i
    · rename_i e rest h
      have popped : I { s with raised := rest } := move (.raised rest fun x hx => by rw [h]; exact List.mem_cons_of_mem _ hx) i
      exact ih (Traffic.keeps move (traffic_handOn (mine i e (by rw [h]; exact List.mem_cons_self))) popped)

theorem traffic_settle (s : State) : Traffic (fun _ => True) s s.settle :=
  settle_keeps (I := Traffic (fun _ => True) s) (fun m h => h.tail m) (fun _ _ _ => trivial) .refl

/-! ### The talk request and the target -/

theorem traffic_requestRises {c : Console} (h : ∀ p, W p) : Traffic W s (s.requestRises c) := by
  unfold State.requestRises
  split
  · exact .refl
  · rename_i n hn; exact traffic_consoleBids hn
  · exact traffic_evalParked (h _)

theorem traffic_requestFalls {c : Console} (h : ∀ p, W p) : Traffic W s (s.requestFalls c) := by
  unfold State.requestFalls
  split
  · exact .refl
  · exact traffic_consoleLeaves _ _ _
  · exact traffic_evalParked (h _)

/-! ### What one move does to each record -/

theorem Move.patch_cases (h : Move W s t) (m : SlotId) : t.patch m = s.patch m ∨
    (t.patch m = PatchRec.unused ∧ (s.patch m).state = .closing) ∨
    (s.patch m ≠ PatchRec.unused ∧ (t.patch m).fixedPart = (s.patch m).fixedPart ∧
      ((t.patch m).state = .closing → (s.patch m).state = .closing) ∧
      ∀ src, (t.patch m).stands src = true → (s.patch m).stands src = true ∨ s.mayBid m src) := by
  cases h with
  | port h => exact .inl (State.updPort_patch ..)
  | floor n r used fixed closing stands =>
    by_cases e : m = n
    · subst e; rw [State.setPatch_patch_same]; exact .inr (.inr ⟨used, fixed, closing, stands⟩)
    · rw [State.setPatch_patch, if_neg e]; exact .inl rfl
  | retired n closing =>
    by_cases e : m = n
    · subst e; rw [State.setPatch_patch_same]; exact .inr (.inl ⟨rfl, closing⟩)
    · rw [State.setPatch_patch, if_neg e]; exact .inl rfl
  | offer c e => exact .inl (State.offer_patch ..)
  | raised l sub => exact .inl rfl

theorem Move.console_cases (h : Move W s t) (c : Console) : t.console c = s.console c ∨
    ∃ n, (s.patch n).state = .closing ∧ t.patch n = PatchRec.unused ∧ t.console c = (s.console c).forgetPatch n := by
  cases h with
  | port h => exact .inl (State.updPort_console ..)
  | floor n r used fixed closing stands => exact .inl rfl
  | retired n closing =>
    refine .inr ⟨n, closing, State.setPatch_patch_same .., ?_⟩
    rw [State.setPatch_console, State.modConsole_console, State.modConsole_console, State.modConsole_console]
    cases c <;> simp
  | offer d e => exact .inl (State.offer_console ..)
  | raised l sub => exact .inl rfl

theorem Move.port_cases (h : Move W s t) (p : PortId) : t.port p = s.port p ∨
    ∃ f, PortMove W s p f ∧ t.port p = (PortRec.remask (s.port p) (f (s.port p))).1 := by
  cases h with
  | @port q f h =>
    rw [State.updPort_port]
    by_cases e : p = q
    · subst e; rw [if_pos rfl]; exact .inr ⟨f, h, rfl⟩
    · rw [if_neg e]; exact .inl rfl
  | floor n r used fixed closing stands => exact .inl rfl
  | retired n closing => exact .inl rfl
  | offer d e => exact .inl (State.offer_port ..)
  | raised l sub => exact .inl rfl

theorem Move.notice_cases (h : Move W s t) (c : Console) : t.notice c = s.notice c ∨ ∃ e, t.notice c = (s.notice c).offer e := by
  cases h with
  | port h => exact .inl (State.updPort_notice ..)
  | floor n r used fixed closing stands => exact .inl rfl
  | retired n closing => exact .inl rfl
  | offer d e =>
    rw [State.offer_notice]
    by_cases same : c = d
    · subst same; rw [if_pos rfl]; exact .inr ⟨e, rfl⟩
    · rw [if_neg same]; exact .inl rfl
  | raised l sub => exact .inl rfl

theorem State.updPort_raised {s : State} {p : PortId} {f : PortRec → PortRec} {e : CarrierEvent} (h : e ∈ (s.updPort p f).raised) :
    e ∈ s.raised ∨ e.port = p := by
  unfold State.updPort at h
  split at h
  · exact .inl (List.mem_of_mem_erase h)
  · rcases List.mem_append.mp h with h | h
    · exact .inl h
    · obtain ⟨k, -, rfl⟩ := List.mem_map.mp h
      exact .inr rfl

/-- An event that a move raises is of the port whose record it writes. -/
theorem Move.raised_cases (h : Move W s t) {e : CarrierEvent} (he : e ∈ t.raised) : e ∈ s.raised ∨ ∃ f, PortMove W s e.port f := by
  cases h with
  | @port q f h =>
    rcases State.updPort_raised he with m | m
    · exact .inl m
    · exact .inr ⟨f, m ▸ h⟩
  | floor n r used fixed closing stands => exact .inl he
  | retired n closing => exact .inl he
  | offer c e => exact .inl (by rw [State.offer_raised] at he; exact he)
  | raised l sub => exact .inl (sub e he)

/-! ### What traffic leaves of patches, targets, standings and notices -/

/-- Each patch keeps its fixed part and does not become CLOSING, or was CLOSING and is retired (R86). -/
def State.keepsPatches (s t : State) : Prop := ∀ n, ((t.patch n).fixedPart = (s.patch n).fixedPart ∧
    ((t.patch n).state = .closing → (s.patch n).state = .closing)) ∨ (t.patch n = PatchRec.unused ∧ (s.patch n).state = .closing)

theorem State.keepsPatches_refl (s : State) : s.keepsPatches s := fun _ => .inl ⟨rfl, id⟩

theorem Move.keepsPatches {r : State} (h : Move W s t) (k : r.keepsPatches s) : r.keepsPatches t := fun n => by
  rcases h.patch_cases n with e | ⟨e, closing⟩ | ⟨used, fixed, closing, -⟩
  · rw [e]; exact k n
  · rcases k n with ⟨-, stays⟩ | ⟨gone, was⟩
    · exact .inr ⟨e, stays closing⟩
    · exact .inr ⟨e, was⟩
  · rcases k n with ⟨same, stays⟩ | ⟨gone, -⟩
    · exact .inl ⟨fixed.trans same, stays ∘ closing⟩
    · exact absurd gone used

theorem Traffic.keepsPatches (h : Traffic W s t) : s.keepsPatches t := h.keeps (fun m k => m.keepsPatches k) s.keepsPatches_refl

/-- A talk target stays, or names a CLOSING patch that is retired (R65). -/
def State.keepsTarget (s : State) (c : Console) (t : State) : Prop := (t.console c).target = (s.console c).target ∨
  ∃ n, (s.console c).target = .patch n ∧ (s.patch n).state = .closing ∧ t.patch n = PatchRec.unused ∧ (t.console c).target = .none

theorem Traffic.keepsTarget (h : Traffic W s t) (c : Console) : s.keepsTarget c t := by
  refine And.right (h.keeps (I := fun u => s.keepsPatches u ∧ s.keepsTarget c u) (fun {u v} m i => ⟨m.keepsPatches i.1, ?_⟩)
    ⟨s.keepsPatches_refl, .inl rfl⟩)
  obtain ⟨patches, target⟩ := i
  have gone {n : SlotId} (e : u.patch n = PatchRec.unused) : v.patch n = PatchRec.unused := by
    rcases m.patch_cases n with f | ⟨f, -⟩ | ⟨used, -⟩
    · exact f.trans e
    · exact f
    · exact absurd e used
  have none (e : (u.console c).target = .none) : (v.console c).target = .none := by
    rcases m.console_cases c with f | ⟨n, -, -, f⟩
    · rw [f, e]
    · rw [f]; unfold ConsoleRec.forgetPatch; simp [e]
  rcases target with same | ⟨n, named, closing, unused, e⟩
  · rcases m.console_cases c with f | ⟨n, closing, unused, f⟩
    · exact .inl (by rw [f]; exact same)
    · by_cases named : (u.console c).target = .patch n
      · refine .inr ⟨n, same ▸ named, ?_, unused, by rw [f]; unfold ConsoleRec.forgetPatch; simp [named]⟩
        rcases patches n with ⟨-, stays⟩ | ⟨-, was⟩
        · exact stays closing
        · exact was
      · refine .inl ?_
        rw [f, ← same]
        unfold ConsoleRec.forgetPatch
        exact if_neg named
  · exact .inr ⟨n, named, closing, gone unused, none e⟩

/-- An offered notice stays offered (R180). -/
theorem Traffic.offered (h : Traffic W s t) {c : Console} {e : Notice} (o : s.offered c e) : t.offered c e :=
  h.keeps (I := fun u => u.offered c e) (fun {u v} m i => by
    rcases m.notice_cases c with f | ⟨x, f⟩
    · unfold State.offered; rw [f]; exact i
    · unfold State.offered; rw [f]; exact NoticeUnit.offered_stays i) o

end Sys2Proof.Machine

/-! SET_TALK_TARGET (R74, R137). -/

namespace Sys2Proof.Machine

/-! ### The target named -/

theorem State.targetNamed_patch {s : State} {c : Console} (n : SlotId) (h : (s.patch n).state ≠ .unused) :
    s.targetNamed c 1 (slotNumber n) = .ok (.patch n) := by
  unfold State.targetNamed
  rw [slotOf?_slotNumber]
  exact if_pos ((PatchRec.inUse_iff _).mpr h)

theorem otherConsole_ne_self (c : Console) : some c ≠ some (otherConsole c) := by cases c <;> decide

theorem State.targetNamed_port {s : State} {c : Console} (p : PortId) (h : (s.port p).reservedBy = some c) :
    s.targetNamed c 2 (portNumber p) = .ok (.port p) := by
  unfold State.targetNamed
  rw [portOf?_portNumber]
  dsimp only
  rw [h, if_neg (otherConsole_ne_self c)]
  exact if_pos rfl

theorem exec_setTalkTarget {s u : State} {c : Console} {k v : Nat} {g : Target} (ready : s.readyFor c)
    (named : s.targetNamed c k v = .ok g) (hu : ((s.heard c).changeTarget c g).settle = u) :
    exec (.setTalkTarget c k v) s = .next (u.replied c ⟨.ok, u.standingBlock c⟩) := by
  refine exec_of_ready (q := .setTalkTarget k v) rfl ready ?_
  subst hu
  show doSetTalkTarget c k v (s.heard c) = _
  unfold doSetTalkTarget
  rw [show (s.heard c).targetNamed c k v = .ok g from named]
  rfl

theorem exec_setTalkTarget_refused {s : State} {c : Console} {k v : Nat} {r : Response} (ready : s.readyFor c)
    (named : s.targetNamed c k v = .error r) : exec (.setTalkTarget c k v) s = .next ((s.heard c).replied c r) := by
  refine exec_of_ready (q := .setTalkTarget k v) rfl ready ?_
  show doSetTalkTarget c k v (s.heard c) = _
  unfold doSetTalkTarget
  rw [show (s.heard c).targetNamed c k v = .error r from named]

/-! ### The old target left, the new one taken -/

theorem State.changeTarget_idle {s : State} {c : Console} {g : Target} (h : (s.console c).request = false) :
    s.changeTarget c g = s.setConsole c { s.console c with target := g } :=
  if_pos (.inr (by rw [h]; rfl))

theorem State.changeTarget_from_none {s : State} {c : Console} {g : Target} (h : (s.console c).request = true) (old : (s.console c).target = .none)
    (new : g ≠ .none) : s.changeTarget c g = (s.setConsole c { s.console c with target := g }).requestRises c := by
  unfold State.changeTarget
  dsimp only
  rw [if_neg (by rw [old, h]; simpa using new.symm), old]
  rfl

theorem State.changeTarget_from_port {s : State} {c : Console} {g : Target} {p : PortId} (h : (s.console c).request = true)
    (old : (s.console c).target = .port p) (new : g ≠ .port p) :
    s.changeTarget c g = ((s.setConsole c { s.console c with target := g }).evalParked p).requestRises c := by
  unfold State.changeTarget
  dsimp only
  rw [if_neg (by rw [old, h]; simpa using new.symm), old]
  rfl

theorem State.changeTarget_from_patch {s : State} {c : Console} {g : Target} {m : SlotId} (h : (s.console c).request = true)
    (old : (s.console c).target = .patch m) (new : g ≠ .patch m) :
    s.changeTarget c g = ((s.setConsole c { s.console c with target := g }).consoleLeaves c m).requestRises c := by
  unfold State.changeTarget
  dsimp only
  rw [if_neg (by rw [old, h]; simpa using new.symm), old]
  rfl

/-- What a change of target does once it is stored is traffic. -/
theorem traffic_changeTarget (s : State) (c : Console) (g : Target) :
    Traffic (fun _ => True) (s.setConsole c { s.console c with target := g }) (s.changeTarget c g) := by
  unfold State.changeTarget
  dsimp only
  split
  · exact .refl
  · refine Relation.ReflTransGen.trans ?_ (traffic_requestRises fun _ => trivial)
    split
    · exact .refl
    · exact traffic_consoleLeaves _ _ _
    · exact traffic_evalParked trivial

/-- Console c has no standing in patch m and does not talk to it. -/
def State.awayFrom (s : State) (c : Console) (m : SlotId) : Prop := (s.patch m).stands (.console c) = false ∧ (s.console c).target ≠ .patch m

theorem Traffic.awayFrom {W : PortId → Prop} {s t : State} {c : Console} {m : SlotId} (h : Traffic W s t) (i : s.awayFrom c m) : t.awayFrom c m :=
  h.keeps (I := fun u => u.awayFrom c m) (fun {u v} mv ⟨out, target⟩ => by
    refine ⟨?_, ?_⟩
    · rcases mv.patch_cases m with e | ⟨e, -⟩ | ⟨-, -, -, stands⟩
      · rw [e]; exact out
      · rw [e]; rfl
      · rw [Bool.eq_false_iff]
        intro x
        rcases stands _ x with y | y
        · rw [out] at y; cases y
        · exact target y
    · rcases mv.console_cases c with e | ⟨n, -, -, e⟩
      · rw [e]; exact target
      · rw [e]
        unfold ConsoleRec.forgetPatch
        dsimp only
        split
        · nofun
        · exact target) i

/-- Whoever is neither partner nor listed has no standing after the release of the talker (R85). -/
theorem PatchRec.released_away {r : PatchRec} {x : Source} (partner : r.partner.map Source.console ≠ some x) (unlisted : x ∉ r.bids) :
    r.released.stands x = false := by
  have dropped : r.dropped.stands x = false := PatchRec.stands_eq_false.mpr ⟨nofun, partner, unlisted⟩
  rw [Bool.eq_false_iff]
  intro h
  unfold PatchRec.released at h
  split at h
  · rename_i d hd
    rcases PatchRec.granted_stands' h with e | e
    · exact partner (by rw [hd, e]; rfl)
    · rw [dropped] at e; cases e
  · rename_i b l _ hb
    rcases PatchRec.granted_stands' h with e | e
    · exact unlisted (by rw [hb, e]; exact List.mem_cons_self)
    · rw [dropped] at e; cases e
  · have e : r.dropped.stands x = true := by split at h <;> exact h
    rw [dropped] at e; cases e

theorem State.release_away {s : State} {m : SlotId} {x : Source} (partner : (s.patch m).partner.map Source.console ≠ some x)
    (unlisted : x ∉ (s.patch m).bids) (but : Option Console) : ((s.release m but).patch m).stands x = false := by
  by_cases closing : (s.patch m).state = .closing
  · have gone : (s.release m but).patch m = PatchRec.unused := by
      unfold State.release
      dsimp only
      rw [if_pos closing, State.retire_patch, if_pos rfl]
    rw [gone]; rfl
  · rw [State.release_patch closing, if_pos rfl]
    exact PatchRec.released_away partner unlisted

theorem PatchRec.vacatePartner_away {r : PatchRec} {c : Console} (talker : r.talker ≠ some (.console c)) (unlisted : .console c ∉ r.bids) :
    r.vacatePartner.stands (.console c) = false := by
  unfold PatchRec.vacatePartner
  split
  · rename_i d hd
    have listed : .console d ∈ r.bids := by
      split at hd
      · exact firstConsole_mem hd
      · cases hd
    exact PatchRec.stands_eq_false.mpr ⟨talker, fun e => unlisted (Option.some.inj e ▸ listed), fun e => unlisted (List.mem_of_mem_erase e)⟩
  · exact PatchRec.stands_eq_false.mpr ⟨talker, nofun, unlisted⟩

/-- A console that stands once in a patch stands there no longer as it leaves (R74). -/
theorem State.consoleLeaves_away {s : State} {c : Console} {m : SlotId} (once : s.standsOnce c m) (target : (s.console c).target ≠ .patch m) :
    (s.consoleLeaves c m).awayFrom c m := by
  obtain ⟨nodup, single, unlisted⟩ := once
  unfold State.consoleLeaves
  refine Traffic.awayFrom (W := fun _ => True) (traffic_evalPatch _ _) ?_
  have targets {t : State} (h : Traffic (fun _ => True) s t) : (t.console c).target ≠ .patch m := by
    rcases h.keepsTarget c with e | ⟨n, -, -, -, e⟩ <;> rw [e]
    · exact target
    · nofun
  by_cases talker : (s.patch m).talker = some (.console c)
  · rw [if_pos talker]
    exact ⟨State.release_away (fun e => single talker (by simpa using e)) (unlisted (.inl talker)) none,
      targets (traffic_release (PatchRec.ne_unused_of_talker talker) none)⟩
  · rw [if_neg talker]
    by_cases partner : (s.patch m).partner = some c
    · rw [if_pos partner]
      refine ⟨?_, target⟩
      rw [State.modPatch_patch, if_pos rfl]
      exact PatchRec.vacatePartner_away talker (unlisted (.inr partner))
    · rw [if_neg partner]
      have partner' : (s.patch m).partner.map Source.console ≠ some (.console c) := fun e => partner (by simpa using e)
      split
      · refine ⟨?_, target⟩
        unfold State.withdraw
        rw [State.modPatch_patch, if_pos rfl]
        exact PatchRec.stands_eq_false.mpr ⟨talker, partner', nodup.not_mem_erase⟩
      · rename_i listed
        exact ⟨PatchRec.stands_eq_false.mpr ⟨talker, partner', fun e => listed (List.contains_iff_mem.mpr e)⟩, target⟩

/-- Settles O35. -/
theorem talkTargetIsSet : Obligations.TalkTargetIsSet := by
  unfold Obligations.TalkTargetIsSet
  intro s c ready none h aimed answered
  have target : (h.console c).target = (s.console c).target := (congrArg ConsoleRec.target (State.heard_console s c)).trans rfl
  have aims (g : Target) : ((aimed g).console c) = { h.console c with target := g } := State.setConsole_console_same _ _ _
  have request (g : Target) : ((aimed g).console c).request = (h.console c).request := by rw [aims]; rfl
  have refuses {k v : Nat} {st : Status} (e : s.targetNamed c k v = .error (refuse st)) :
      exec (.setTalkTarget c k v) s = .next (h.replied c ⟨st, [0#8, 0#8]⟩) := exec_setTalkTarget_refused ready e
  refine ⟨fun k v g valid => ?_, fun n old asks nobody => ?_, fun p asks old waits => ?_, fun p v asks old reserved keyed => ?_,
    fun k v => ⟨?_, ?_, ?_⟩⟩
  · have named : s.targetNamed c k v = .ok g := by
      rcases valid with ⟨rfl, rfl⟩ | ⟨n, rfl, rfl, used, rfl⟩ | ⟨p, rfl, rfl, reserved, rfl⟩
      · rfl
      · exact State.targetNamed_patch n used
      · exact State.targetNamed_port p reserved
    have flow : Traffic (fun _ => True) (aimed g) (h.changeTarget c g).settle := (traffic_changeTarget h c g).trans (traffic_settle _)
    refine ⟨fun idle => exec_setTalkTarget ready named ?_, _, exec_setTalkTarget ready named rfl,
      ((kept_changeTarget h c g).trans (kept_settle _)).frame, ?_, fun m asks old new once => ?_⟩
    · rw [State.changeTarget_idle idle]
      exact State.settle_of_none none
    · rcases flow.keepsTarget c with e | ⟨n, e, closing, gone, untargeted⟩
      · exact .inl (by rw [e, aims])
      · rw [aims] at e
        exact .inr ⟨n, e, closing, gone, untargeted⟩
    · have left := State.consoleLeaves_away (s := aimed g) (c := c) (m := m) once (by rw [aims]; exact new)
      rw [State.changeTarget_from_patch asks (target.trans old) new]
      exact (Traffic.awayFrom ((traffic_requestRises (W := fun _ => True) fun _ => trivial).trans (traffic_settle _)) left).1
  · obtain ⟨granted, raised⟩ := State.requestRises_granted (s := aimed (.patch n)) (c := c) (n := n) (by rw [aims]) nobody
    have used : (s.patch n).state ≠ .unused := by rcases nobody.1 with e | e <;> rw [e] <;> decide
    refine ⟨_, exec_setTalkTarget ready (State.targetNamed_patch n used) ?_, granted, (kept_requestRises _ _).frame⟩
    rw [State.changeTarget_from_none (g := .patch n) asks (target.trans old) nofun]
    exact State.settle_of_none (raised.trans none)
  · refine exec_setTalkTarget ready (State.targetNamed_port p waits.2.1) ?_
    rw [State.changeTarget_from_none (g := .port p) asks (target.trans old) nofun]
    have hp : ((aimed (.port p)).console c).target = .port p := by rw [aims]
    exact (congrArg State.settle (State.requestRises_port hp)).trans
      (State.evalParked_keys none waits hp ((request _).trans asks))
  · refine exec_setTalkTarget (g := .none) ready rfl ?_
    rw [State.changeTarget_from_port (g := .none) asks (target.trans old) nofun]
    have unkeyed := State.evalParked_unkeys (s := aimed .none) (c := c) (p := p) none reserved keyed (.inl (by rw [aims]; nofun))
    refine (congrArg State.settle (State.requestRises_none ?_)).trans unkeyed
    rcases (traffic_evalParked (W := fun _ => True) (s := aimed .none) (p := p) trivial).keepsTarget c with e | ⟨n, e, -⟩
    · rw [e]; exact congrArg ConsoleRec.target (aims _)
    · rw [aims] at e; cases e
  · rintro (big | ⟨rfl, out⟩ | ⟨rfl, out⟩)
    · obtain ⟨j, rfl⟩ : ∃ j, k = j + 3 := ⟨k - 3, by omega⟩
      exact refuses rfl
    · refine refuses ?_
      unfold State.targetNamed
      rw [slotOf?_outOfRange out]
      rfl
    · refine refuses ?_
      unfold State.targetNamed
      rw [portOf?_outOfRange out]
      rfl
  · rintro n rfl rfl free
    refine refuses ?_
    unfold State.targetNamed
    rw [slotOf?_slotNumber]
    exact if_neg (by rw [PatchRec.inUse_iff]; exact fun e => e free)
  · rintro p rfl rfl
    refine ⟨fun other => refuses ?_, fun free => refuses ?_⟩
    · unfold State.targetNamed
      rw [portOf?_portNumber]
      exact if_pos other
    · unfold State.targetNamed
      rw [portOf?_portNumber]
      dsimp only
      rw [free, if_neg nofun, if_neg nofun]
      rfl

end Sys2Proof.Machine

/-! The end of a reservation and the loss of a console's link: SILENCE_EXPIRY (R144 to R146). -/

namespace Sys2Proof.Machine

/-! ### A reservation that ends -/

/-- A request that does not read what was written before it finds the record as it was. -/
theorem State.updPort_setPort_same {s : State} {p : PortId} {r : PortRec} {f : PortRec → PortRec} (hf : f r = f (s.port p))
    (hm : r.masked = (s.port p).masked) : (s.setPort p r).updPort p f = s.updPort p f := by
  have same : (s.setPort p r).port p = r := State.setPort_port_same _ _ _
  have masks : PortRec.remask r (f (s.port p)) = PortRec.remask (s.port p) (f (s.port p)) := by unfold PortRec.remask; rw [hm]
  have again : (s.setPort p r).maskedAgain p r (f (s.port p)) = s.maskedAgain p (s.port p) (f (s.port p)) := by
    unfold State.maskedAgain; rw [hm]; rfl
  unfold State.updPort
  rw [same, hf, again, masks]
  unfold State.writePort
  rw [State.setPort_setPort, State.setPort_setPort]
  rfl

/-- The record of a port whose reservation ends, before the traffic takes it up (R144). -/
def PortRec.freed (r : PortRec) : PortRec := { r.restInto (if r.patch.isSome then .idle else .detached) with reservedBy := none }

/-- The state with port p freed, and what the traffic then does (R144). -/
theorem State.endReservation_eq (s : State) (p : PortId) (b : Bool) :
    s.endReservation p b = (if b then s.updPort p PortRec.freed else (s.updPort p PortRec.freed).portBidsIfQualified p).evalPort p := rfl

theorem traffic_endReservation {W : PortId → Prop} (s : State) (p : PortId) (b : Bool) (h : W p) :
    Traffic W (s.updPort p PortRec.freed) (s.endReservation p b) := by
  rw [State.endReservation_eq]
  refine Relation.ReflTransGen.trans ?_ (traffic_evalPort h)
  split
  · exact .refl
  · exact traffic_portBidsIfQualified _ _

theorem kept_freed (s : State) (p : PortId) : Kept [] [] (s.setPort p { s.port p with reservedBy := none }) (s.updPort p PortRec.freed) := by
  rw [← State.updPort_setPort_same (s := s) (p := p) (r := { s.port p with reservedBy := none }) (f := PortRec.freed) rfl rfl]
  refine kept_updPort ?_ ?_ (.inr (.inl ?_)) <;> rw [State.setPort_port_same] <;> rfl

theorem kept_endReservation (s : State) (p : PortId) (b : Bool) :
    Kept [] [] (s.setPort p { s.port p with reservedBy := none }) (s.endReservation p b) := by
  rw [State.endReservation_eq]
  refine (kept_freed s p).trans (Kept.trans ?_ (kept_evalPort _ _))
  split
  · exact Kept.refl _
  · exact (flow_portBidsIfQualified _ _).toKept

/-- Step 2 to 4 of R144 for one port, unkeyed first where it is keyed for its console. -/
def State.freePort (s : State) (p : PortId) (keyed : Bool) : State :=
  (if (s.port p).parkedKeyed then s.unkeyParked p else s).endReservation p keyed

theorem kept_unkeyIfParkedKeyed (s : State) (p : PortId) : Kept [] [] s (if (s.port p).parkedKeyed then s.unkeyParked p else s) := by
  split
  · exact (flow_unkeyParked s p).toKept
  · exact Kept.refl _

/-- What a console's reservation leaves of the fixed parts as it ends. -/
structure Freed (s t : State) (l : List PortId) : Prop where
  ports : ∀ p, (t.port p).fixedPart = { (s.port p).fixedPart with reservedBy := if p ∈ l then none else (s.port p).reservedBy }
  consoles : ∀ c, (t.console c).fixedPart = (s.console c).fixedPart
  links : ∀ c, (t.link c).fixedPart = (s.link c).fixedPart
  rest : t.fixedPart = s.fixedPart
  patches : s.keepsPatches t
  gone : ∀ n, s.patch n = PatchRec.unused → t.patch n = PatchRec.unused
  target : ∀ c, (s.console c).target = .none → (t.console c).target = .none

theorem State.keepsPatches_trans {s t u : State} (h : s.keepsPatches t) (k : t.keepsPatches u) (gone : ∀ n, t.patch n = PatchRec.unused → u.patch n = PatchRec.unused) :
    s.keepsPatches u := fun n => by
  rcases h n with ⟨same, stays⟩ | ⟨e, closing⟩
  · rcases k n with ⟨same', stays'⟩ | ⟨e, closing⟩
    · exact .inl ⟨same'.trans same, stays ∘ stays'⟩
    · exact .inr ⟨e, stays closing⟩
  · exact .inr ⟨gone n e, closing⟩

theorem Traffic.unused_stays {W : PortId → Prop} {s t : State} (h : Traffic W s t) {n : SlotId} (e : s.patch n = PatchRec.unused) :
    t.patch n = PatchRec.unused :=
  h.keeps (I := fun u => u.patch n = PatchRec.unused) (fun m i => by
    rcases m.patch_cases n with f | ⟨f, -⟩ | ⟨used, -⟩
    · exact f.trans i
    · exact f
    · exact absurd i used) e

theorem freed_freePort (s : State) (p : PortId) (keyed : Bool) : Freed s (s.freePort p keyed) [p] := by
  unfold State.freePort
  have unkeys := kept_unkeyIfParkedKeyed s p
  have patch (n : SlotId) : (if (s.port p).parkedKeyed then s.unkeyParked p else s).patch n = s.patch n := by
    split
    · exact State.updPort_patch _ _ _ _
    · rfl
  have console (c : Console) : (if (s.port p).parkedKeyed then s.unkeyParked p else s).console c = s.console c := by
    split
    · exact State.updPort_console _ _ _ _
    · rfl
  revert unkeys patch console
  generalize (if (s.port p).parkedKeyed then s.unkeyParked p else s) = u
  intro unkeys patch console
  have ends := kept_endReservation u p keyed
  have flow := traffic_endReservation (W := fun _ => True) u p keyed trivial
  have freedPatch (n : SlotId) : (u.updPort p PortRec.freed).patch n = s.patch n := (State.updPort_patch _ _ _ _).trans (patch n)
  refine ⟨fun q => ?_, fun c => (ends.consoles c).trans (unkeys.consoles c), fun c => (ends.links c).trans (unkeys.links c),
    ends.rest.trans unkeys.rest, fun n => ?_, fun n e => flow.unused_stays ((freedPatch n).trans e), fun c none => ?_⟩
  · rw [ends.ports q, State.setPort_port]
    by_cases e : q = p
    · subst e
      rw [if_pos rfl, if_pos (List.mem_singleton.mpr rfl), ← unkeys.ports q]; rfl
    · rw [if_neg e, if_neg (by simpa using e), unkeys.ports q]; rfl
  · rw [← freedPatch n]; exact flow.keepsPatches n
  · have start : ((u.updPort p PortRec.freed).console c).target = .none := by rw [State.updPort_console, console, none]
    rcases flow.keepsTarget c with e | ⟨-, -, -, -, e⟩
    · exact e.trans start
    · exact e

theorem Freed.nil (s : State) : Freed s s [] where
  ports p := by rw [if_neg List.not_mem_nil]; rfl
  consoles _ := rfl
  links _ := rfl
  rest := rfl
  patches := s.keepsPatches_refl
  gone _ := id
  target _ := id

theorem Freed.cons {s t u : State} {p : PortId} {l : List PortId} (h : Freed s t [p]) (k : Freed t u l) : Freed s u (p :: l) where
  ports q := by
    have reserved : (t.port q).reservedBy = if q ∈ [p] then none else (s.port q).reservedBy := congrArg PortRec.reservedBy (h.ports q)
    rw [k.ports q, h.ports q, reserved]
    by_cases e : q = p
    · subst e; simp
    · simp [e]
  consoles c := (k.consoles c).trans (h.consoles c)
  links c := (k.links c).trans (h.links c)
  rest := k.rest.trans h.rest
  patches := State.keepsPatches_trans h.patches k.patches k.gone
  gone n e := k.gone n (h.gone n e)
  target c e := k.target c (h.target c e)

/-- The reservations of several ports end one after the other. -/
theorem freed_foldl (keyed : PortId → Bool) (l : List PortId) (s : State) : Freed s (l.foldl (fun a p => a.freePort p (keyed p)) s) l := by
  induction l generalizing s with
  | nil => exact .nil s
  | cons p l ih => exact .cons (freed_freePort s p (keyed p)) (ih _)

/-! ### The loss of a link (R146) -/

theorem State.shareOwned_patch (s : State) (c : Console) (n : SlotId) : (s.shareOwned c).patch n =
    if (s.patch n).inUse && (s.patch n).owner == some c then { s.patch n with shared := true } else s.patch n := by
  simp [State.shareOwned, State.patch]

theorem traffic_changeRequest (s : State) (c : Console) (f : ConsoleRec → ConsoleRec) :
    Traffic (fun _ => True) (s.setConsole c (f (s.console c))) (s.changeRequest c f) := by
  unfold State.changeRequest State.modConsole
  dsimp only
  split
  · exact .refl
  · split
    · exact traffic_requestRises fun _ => trivial
    · exact traffic_requestFalls fun _ => trivial

/-- The state in which the link of c is LOST and its request and target have fallen (R146, steps 1 and 2). -/
def State.fallen (s : State) (c : Console) : State :=
  (s.changeRequest c (fun r => { r with link := .lost, seize := false })).modConsole c (fun r => { r with target := .none })

theorem State.linkLost_eq (s : State) (c : Console) : s.linkLost c =
    (((s.reservedPorts c).foldl (fun a p => a.freePort p (s.port p).parkedKeyed) (s.fallen c)).shareOwned c).offer (otherConsole c)
      ⟨.linkLost, consoleNumber c⟩ := rfl

theorem kept_fallen (s : State) (c : Console) :
    Kept [] [] (s.setConsole c { s.console c with link := .lost, seize := false }) (s.fallen c) :=
  (kept_changeRequest s c (fun r => { r with link := .lost, seize := false })).trans
    (kept_modConsole (c := c) (f := fun r => { r with target := .none }) rfl)

/-- The link lost, through the fall of the request and the end of the reservations (R146, steps 1 to 3). -/
theorem freed_linkLost (s : State) (c : Console) :
    Freed (s.fallen c) ((s.reservedPorts c).foldl (fun a p => a.freePort p (s.port p).parkedKeyed) (s.fallen c)) (s.reservedPorts c) :=
  freed_foldl (fun p => (s.port p).parkedKeyed) _ _

theorem State.mem_reservedPorts {s : State} {c : Console} {p : PortId} : p ∈ s.reservedPorts c ↔ (s.port p).reservedBy = some c := by
  unfold State.reservedPorts
  rw [List.mem_filter, beq_iff_eq]
  exact and_iff_right (mem_allPorts p)

/-- The agreement of memberships through the loss of a link (R146). -/
theorem agree_freed {s : State} (a : s.membersAgree) (c : Console) :
    ((s.reservedPorts c).foldl (fun a p => a.freePort p (s.port p).parkedKeyed) (s.fallen c)).membersAgree := by
  have fallen : Sound False False noOne [] (s.fallen c) :=
    ((sound_of_agree a).changeRequest c (f := fun r => { r with link := .lost, seize := false }) ⟨fun _ => rfl, fun _ => id⟩).setConsole c _ nofun
  refine (foldl_keeps (I := Sound False False noOne []) (fun {t} p ht => ?_) _ fallen).agree
  refine Sound.endReservation ?_ p _
  split
  · exact ht.unkeyParked p
  · exact ht

theorem keepsPatches_freed (s : State) (c : Console) :
    s.keepsPatches ((s.reservedPorts c).foldl (fun a p => a.freePort p (s.port p).parkedKeyed) (s.fallen c)) := by
  have falls : s.keepsPatches (s.fallen c) := (traffic_changeRequest s c (fun r => { r with link := .lost, seize := false })).keepsPatches
  exact State.keepsPatches_trans falls (freed_linkLost s c).patches (freed_linkLost s c).gone

/-- The loss of the link handed on, from the end of the reservations on (R146, steps 4 and 5). -/
theorem traffic_linkLost (s : State) (c : Console) : Traffic (fun _ => True)
    (((s.reservedPorts c).foldl (fun a p => a.freePort p (s.port p).parkedKeyed) (s.fallen c)).shareOwned c) (s.linkLost c).settle := by
  rw [State.linkLost_eq]
  exact (Move.offer _ _).traffic.trans (traffic_settle _)

/-- What is left of each patch as its owner's link is lost: shared, or, CLOSING, retired (R37, R86). -/
theorem linkLost_patches {s : State} {c : Console} (a : s.membersAgree) (n : SlotId) :
    ((s.patch n).owner = some c → (((s.linkLost c).settle).patch n).fixedPart = { (s.patch n).fixedPart with shared := true } ∨
      (s.patch n).state = .closing ∧ ((s.linkLost c).settle).patch n = PatchRec.unused) ∧
    ((s.patch n).owner ≠ some c → (((s.linkLost c).settle).patch n).fixedPart = (s.patch n).fixedPart ∨
      (s.patch n).state = .closing ∧ ((s.linkLost c).settle).patch n = PatchRec.unused) := by
  have first := keepsPatches_freed s c n
  have unused := (agree_freed a c).2.2 n
  have last := traffic_linkLost s c
  revert first unused last
  generalize (s.reservedPorts c).foldl (fun a p => a.freePort p (s.port p).parkedKeyed) (s.fallen c) = u
  intro first unused last
  have share := u.shareOwned_patch c n
  rcases first with ⟨same, stays⟩ | ⟨gone, closing⟩
  · have owner : (u.patch n).owner = (s.patch n).owner := (congrArg PatchRec.owner same).trans rfl
    have state : ((u.shareOwned c).patch n).state = (u.patch n).state := by rw [share]; split <;> rfl
    have finish {r : PatchRec} (h : ((u.shareOwned c).patch n).fixedPart = r) : (((s.linkLost c).settle).patch n).fixedPart = r ∨
        (s.patch n).state = .closing ∧ ((s.linkLost c).settle).patch n = PatchRec.unused := by
      rcases last.keepsPatches n with ⟨e, -⟩ | ⟨e, closing⟩
      · exact .inl (e.trans h)
      · exact .inr ⟨stays (by rw [← state]; exact closing), e⟩
    refine ⟨fun mine => finish ?_, fun other => finish ?_⟩
    · have used : (u.patch n).inUse = true := by
        rw [PatchRec.inUse_iff]
        intro e
        rw [unused e] at owner
        rw [mine] at owner
        cases owner
      rw [share, if_pos (by rw [used, owner, mine]; simp), ← same]
      rfl
    · rw [share, if_neg (by rw [owner]; simp [other]), same]
  · have stays : ((s.linkLost c).settle).patch n = PatchRec.unused := by
      refine last.unused_stays ?_
      rw [share, if_neg (by rw [gone]; simp [PatchRec.unused]), gone]
    exact ⟨fun _ => .inr ⟨closing, stays⟩, fun _ => .inr ⟨closing, stays⟩⟩

/-! ### SILENCE_EXPIRY -/

theorem State.silenceRunsOut_stays {s : State} {c : Console}
    (h : (s.console c).link = .lost ∨ (s.console c).supervision * 1000 ≤ (s.console c).silence) : s.silenceRunsOut c = s :=
  if_neg fun ⟨up, short⟩ => h.elim (fun e => by rw [e] at up; cases up) (fun e => Nat.not_lt.mpr e short)

theorem exec_silence {s : State} {c : Console} (run : s.resetLine = false) :
    exec (.silenceExpiry c) s = .next (s.silenceRunsOut c).settle :=
  congrArg Host.Outcome.next (State.whenRunning_of_running run _)

theorem State.keepsTarget_none {W : PortId → Prop} {s t : State} {c : Console} (h : Traffic W s t) (e : (s.console c).target = .none) :
    (t.console c).target = .none := by
  rcases h.keepsTarget c with f | ⟨-, -, -, -, f⟩
  · exact f.trans e
  · exact f

theorem otherConsole_ne_own (c : Console) : otherConsole c ≠ c := by cases c <;> decide

/-- Settles O20. -/
theorem silenceLosesTheLink : Obligations.SilenceLosesTheLink := by
  unfold Obligations.SilenceLosesTheLink
  intro s c run a
  refine ⟨fun none stays => ?_, fun k ready none t queried => ?_, fun up short => ?_⟩
  · rw [exec_silence run, State.silenceRunsOut_stays stays, State.settle_of_none none]
  · obtain ⟨r, asked⟩ : ∃ r, runRequest c (.queryPort k) (s.heard c) = (s.heard c, r) := by
      refine ⟨(doQueryPort k (s.heard c)).2, Prod.ext ?_ rfl⟩
      show (doQueryPort k (s.heard c)).1 = s.heard c
      unfold doQueryPort State.onPort
      split <;> rfl
    rw [exec_of_ready (q := .queryPort k) rfl ready asked] at queried
    obtain rfl := Host.Outcome.next.inj queried
    have heard : ((s.heard c).replied c r).console c = { s.console c with link := .up, silence := (s.console c).supervision * 1000 } :=
      State.heard_console s c
    rw [exec_silence (by exact run), State.silenceRunsOut_stays (.inr (by rw [heard])), State.settle_of_none (by exact none)]
  · let quiet : State := s.setConsole c { s.console c with silence := 0 }
    have quietConsole : quiet.console c = { s.console c with silence := 0 } := State.setConsole_console_same _ _ _
    have lost : s.silenceRunsOut c = quiet.linkLost c := if_pos ⟨up, short⟩
    have agree : quiet.membersAgree := a
    have free := freed_linkLost quiet c
    have last := traffic_linkLost quiet c
    have falls := kept_fallen quiet c
    have fallenTarget : ((quiet.fallen c).console c).target = .none := by
      unfold State.fallen
      rw [State.modConsole_console, if_pos rfl]
    have patches := fun n => linkLost_patches (s := quiet) (c := c) agree n
    have keeps : Kept [] [] (((quiet.reservedPorts c).foldl (fun a p => a.freePort p (quiet.port p).parkedKeyed) (quiet.fallen c)).shareOwned c)
        (quiet.linkLost c).settle := by
      rw [State.linkLost_eq]
      exact (kept_offer _ _ _).trans (kept_settle _)
    have offered : ((quiet.linkLost c).settle).offered (otherConsole c) ⟨.linkLost, consoleNumber c⟩ := by
      refine (traffic_settle _).offered ?_
      rw [State.linkLost_eq]
      unfold State.offered
      rw [State.offer_notice, if_pos rfl]
      exact NoticeUnit.offered_offer _ _
    have other : otherConsole c ≠ c := otherConsole_ne_own c
    have consoles (d : Console) : (((quiet.linkLost c).settle).console d).fixedPart =
        ((quiet.setConsole c { quiet.console c with link := .lost, seize := false }).console d).fixedPart :=
      (keeps.consoles d).trans ((free.consoles d).trans (falls.consoles d))
    have mine : (((quiet.linkLost c).settle).console c).fixedPart = { (s.console c).fixedPart with link := .lost, seize := false, silence := 0 } := by
      rw [consoles, State.setConsole_console_same, quietConsole]; rfl
    have silent : (((quiet.linkLost c).settle).console c).request = false := by
      have link : (((quiet.linkLost c).settle).console c).link = .lost := (congrArg ConsoleRec.link mine).trans rfl
      have seize : (((quiet.linkLost c).settle).console c).seize = false := (congrArg ConsoleRec.seize mine).trans rfl
      unfold ConsoleRec.request
      rw [link, seize]; rfl
    refine ⟨(quiet.linkLost c).settle, by rw [exec_silence run, lost], mine, State.keepsTarget_none last (free.target c fallenTarget), silent, ?_,
      fun p => ?_, fun n => (patches n).1, fun n => (patches n).2, offered, fun d => ?_, ?_⟩
    · rw [consoles, State.setConsole_console, if_neg other, State.setConsole_console, if_neg other]
    · rw [keeps.ports p]
      refine (free.ports p).trans ?_
      have port : ((quiet.fallen c).port p).fixedPart = (s.port p).fixedPart := falls.ports p
      have reserved : ((quiet.fallen c).port p).reservedBy = (s.port p).reservedBy := (congrArg PortRec.reservedBy port).trans rfl
      rw [port, reserved]
      exact congrArg (fun o => ({ (s.port p).fixedPart with reservedBy := o } : PortRec)) (if_congr State.mem_reservedPorts rfl rfl)
    · exact (keeps.links d).trans ((free.links d).trans (falls.links d))
    · exact keeps.rest.trans (free.rest.trans falls.rest)

end Sys2Proof.Machine

/-! Bid lists in order, and CLEAR_PORT_CONDITIONS (R23, R70, R81). -/

namespace Sys2Proof.Machine

/-! ### Where a bid enters (R70, R76, R80) -/

theorem takeWhile_all {α : Type} {f : α → Bool} {l : List α} : ∀ e ∈ l.takeWhile f, f e = true := fun _ he => List.mem_takeWhile_imp he

/-- In a list in falling order, what stands behind the first entry that fails a lower bound fails it too. -/
theorem dropWhile_below {f : Source → Nat} {k : Nat} {l : List Source} (h : l.Pairwise (fun a b => f b ≤ f a)) :
    ∀ e ∈ l.dropWhile (fun e => decide (k ≤ f e)), f e < k := by
  induction l with
  | nil => intro e he; cases he
  | cons a l ih =>
    obtain ⟨head, tail⟩ := List.pairwise_cons.mp h
    rw [List.dropWhile_cons]
    split
    · exact ih tail
    · rename_i fails
      have low : f a < k := by simpa using fails
      intro e he
      rcases List.mem_cons.mp he with rfl | he
      · exact low
      · exact lt_of_le_of_lt (head e he) low

theorem State.insertBid_splits {s : State} {src : Source} {l : List Source} (h : l.Pairwise (fun a b => s.priority b ≤ s.priority a)) :
    ∃ a b, l = a ++ b ∧ s.insertBid src l = a ++ src :: b ∧ (∀ e ∈ a, s.priority src ≤ s.priority e) ∧ ∀ e ∈ b, s.priority e < s.priority src :=
  ⟨_, _, List.takeWhile_append_dropWhile.symm, rfl, fun e he => of_decide_eq_true (takeWhile_all (f := fun e => decide (s.priority src ≤ s.priority e)) e he),
    dropWhile_below h⟩

theorem State.insertAhead_splits {s : State} {src : Source} {l : List Source} (h : l.Pairwise (fun a b => s.priority b ≤ s.priority a)) :
    ∃ a b, l = a ++ b ∧ s.insertAhead src l = a ++ src :: b ∧ (∀ e ∈ a, s.priority src < s.priority e) ∧ ∀ e ∈ b, s.priority e ≤ s.priority src :=
  ⟨_, _, List.takeWhile_append_dropWhile.symm, rfl, fun e he => of_decide_eq_true (takeWhile_all (f := fun e => decide (s.priority src < s.priority e)) e he),
    fun e he => Nat.lt_succ_iff.mp (dropWhile_below (k := s.priority src + 1) h e he)⟩

/-! ### SET_PORT of the base priority (R21) -/

theorem State.settingsChange_base {s u : State} {p : PortId} {old : PortRec}
    (h : (s.port p).cfg = { old.cfg with basePriority := (s.port p).cfg.basePriority })
    (hu : s.baseChanges p old.cfg.basePriority = u) (hc : (u.port p).cfg = (s.port p).cfg) : s.settingsChange p old = u := by
  unfold State.settingsChange
  rw [hu, State.kindChanges_same (by rw [hc, h]), State.inputsChange_same (by rw [hc, h]) (by rw [hc, h]), State.updPort_sense,
    PortRec.senseChanges_same (by rw [hc, h]), State.setPort_self, State.emgModeChanges_same (by rw [hc, h])]

/-! ### CLEAR_PORT_CONDITIONS (R23) -/

theorem exec_clearConditions {s u : State} {c : Console} {p : PortId} {sel : ConditionSelection} (ready : s.readyFor c)
    (hu : (((s.heard c).setPort p ((s.port p).clearConditions sel)).conditionsClear p (s.port p)).settle = u) :
    exec (.clearPortConditions c (portNumber p) sel) s = .next (u.replied c ⟨.ok, u.conditionsImage p⟩) := by
  refine exec_of_ready (q := .clearPortConditions (portNumber p) sel) rfl ready ?_
  show doClearPortConditions (portNumber p) sel (s.heard c) = _
  unfold doClearPortConditions
  rw [State.onPort_portNumber, State.updPort_of_masked (by rfl)]
  subst hu
  rfl

theorem PortRec.clearConditions_eq (r : PortRec) (sel : ConditionSelection) : r.clearConditions sel = { r with
    fault := r.fault && !sel.fault
    emergency := if sel.emergency = true ∧ r.cfg.emgMode = .latch then false else r.emergency
    lockoutLeft := if sel.lockout = true then 0 else r.lockoutLeft } := by
  have flag : (r.emergency && !(sel.emergency && r.cfg.emgMode == .latch)) = if sel.emergency = true ∧ r.cfg.emgMode = .latch then false else r.emergency := by
    cases sel.emergency <;> cases r.cfg.emgMode <;> simp
  unfold PortRec.clearConditions
  rw [flag]

/-- Only an emergency cleared: the report of a fall (R23). -/
theorem State.conditionsClear_emergency {s : State} {p : PortId} {old : PortRec} (set : old.emergency = true) (clear : (s.port p).emergency = false)
    (lockout : (s.port p).lockoutLeft = old.lockoutLeft) (fault : (s.port p).fault = old.fault) :
    s.conditionsClear p old = s.priorityChanged p false := by
  unfold State.conditionsClear
  dsimp only
  rw [set, clear, lockout, fault, Bool.and_not_self, if_neg Bool.false_ne_true, if_neg, if_pos (by rfl)]
  simp only [Bool.and_eq_true, decide_eq_true_eq, beq_iff_eq, not_and]
  omega

/-- Settles O49. -/
theorem bidListsStayInOrder : Obligations.BidListsStayInOrder := by
  unfold Obligations.BidListsStayInOrder
  refine ⟨fun s src l sorted => ⟨State.insertBid_sorted src sorted, State.insertAhead_sorted src sorted, State.insertBid_splits sorted,
    State.insertAhead_splits sorted⟩, ?_⟩
  intro s c p v ready none r based calmed again rebased cleared
  have ports (w : PortRec) : ((s.heard c).setPort p w).port p = w := State.setPort_port_same _ _ _
  have storeEq : r.cfg.store { noPortItem with basePriority := some v } = { r.cfg with basePriority := min v 7 } := rfl
  have stores {u : State} (hu : (based.baseChanges p r.cfg.basePriority) = u) (hc : u.port p = based.port p) (quiet : u.raised = []) :
      rebased u := by
    have clamps : okOrClamped (PortSelection.clamped { noPortItem with basePriority := some v }) (u.settingsImage p) =
        ⟨if 7 < v then .clamped else .ok, u.settingsImage p⟩ := okOrClamped_eq (by simp [PortSelection.clamped, noPortItem, clampedBy]) _
    refine (exec_setPort (u := u) ready rfl ?_).trans (congrArg (fun a => Host.Outcome.next (u.replied c a)) clamps)
    rw [State.updPort_store (by rfl), State.heard_port, storeEq]
    refine (congrArg State.settle (State.settingsChange_base (by rw [ports]) hu ?_)).trans (State.settle_of_none quiet)
    rw [hc]
  have clears {u : State} (latch : r.cfg.emgMode = .latch) (set : r.emergency = true) (hu : calmed.priorityChanged p false = u)
      (quiet : u.raised = []) : cleared u := by
    have record : r.clearConditions ⟨false, true, false⟩ = { r with emergency := false } := by simp [PortRec.clearConditions, latch]
    refine exec_clearConditions ready ?_
    rw [record, State.conditionsClear_emergency set (by rw [ports]) (by rw [ports]) (by rw [ports])]
    exact (congrArg State.settle hu).trans (State.settle_of_none quiet)
  have placed (w : PortRec) (n : SlotId) (hp : w.patch = r.patch) (hn : r.patch = some n) (listed : .port p ∈ (s.patch n).bids) :
      ((s.heard c).setPort p w).priorityChanged p false = again ((s.heard c).setPort p w) n :=
    State.priorityChanged_listed (by rw [ports, hp]; exact hn) listed false
  have moves (differs : min v 7 ≠ r.cfg.basePriority) (clear : r.emergency = false) :
      based.baseChanges p r.cfg.basePriority = based.priorityChanged p false := by
    refine if_neg ?_
    rw [ports]
    rintro (e | e)
    · exact differs e
    · rw [show r.emergency = true from e] at clear; cases clear
  refine ⟨fun quiet => stores ?_ rfl none, fun set latch free => clears latch set ?_ none, fun n hn listed => ⟨fun clear differs => ?_,
    fun set latch => clears latch set (placed _ n rfl hn listed) none⟩⟩
  · by_cases same : min v 7 = r.cfg.basePriority ∨ r.emergency = true
    · exact if_pos (by rw [ports]; exact same)
    · obtain ⟨differs, clear⟩ := not_or.mp same
      have free := (quiet.resolve_left clear).resolve_left differs
      rw [moves differs (by simpa using clear)]
      exact State.priorityChanged_unlisted (by rw [ports]; exact free) _
  · exact State.priorityChanged_unlisted (by rw [ports]; exact free) _
  · exact stores ((moves differs clear).trans (placed _ n rfl hn listed)) rfl none

end Sys2Proof.Machine

/-! A port's bid on a patch in TALK that raises nothing, and CLEAR_PORT_CONDITIONS (R23). -/

namespace Sys2Proof.Machine

/-! ### A bid taken, port by port (R75) -/

/-- What a bid makes of a port's record: nothing, TALKER for the bidder, IDLE for the former talker (R78, R79). -/
def bidLeaves (src : Source) (q : PortId) (r r' : PortRec) : Prop :=
  r' = r ∨ (src = .port q ∧ r' = r.restInto .talker) ∨ (r.state = .talker ∧ r' = { r.unsupervised with state := .idle })

theorem State.idleTalker_plain (s : State) (src : Option Source) : (s.idleTalker src).raised = s.raised ∧
    ∀ q, (s.idleTalker src).port q = s.port q ∨
      (src = some (.port q) ∧ (s.port q).state = .talker ∧ (s.idleTalker src).port q = { (s.port q).unsupervised with state := .idle }) := by
  cases src with
  | none => exact ⟨rfl, fun q => .inl rfl⟩
  | some x =>
    cases x with
    | console c => exact ⟨rfl, fun q => .inl rfl⟩
    | port t =>
      by_cases talker : (s.port t).state = .talker
      · rw [State.idleTalker_of_talker talker]
        refine ⟨rfl, fun q => ?_⟩
        rw [State.setPort_port]
        by_cases e : q = t
        · subst e; rw [if_pos rfl]; exact .inr ⟨rfl, talker, rfl⟩
        · rw [if_neg e]; exact .inl rfl
      · rw [show s.idleTalker (some (.port t)) = s from if_neg talker]
        exact ⟨rfl, fun q => .inl rfl⟩

theorem State.preempt_ports {s : State} {n : SlotId} {src : Source} {t : PortId} (hsrc : ∀ p, src = .port p → (s.port p).masked = false)
    (out : (s.patch n).talker ≠ some src) : (s.preempt n src t).raised = s.raised ∧ ∀ q, bidLeaves src q (s.port q) ((s.preempt n src t).port q) := by
  obtain ⟨raised, ports⟩ := State.idleTalker_plain (s.setPatch n (s.patch n).dropped) (s.patch n).talker
  have same (q : PortId) (e : src = .port q) : (s.dropTalker n).port q = s.port q :=
    (ports q).resolve_right fun ⟨talker, _⟩ => out (talker.trans (congrArg some e.symm))
  obtain ⟨-, port, -, -, raises⟩ := State.grant_parts (s := s.dropTalker n) (n := n) (src := src) fun p e => by rw [same p e]; exact hsrc p e
  have dropped : (s.dropTalker n).raised = s.raised := raised
  unfold State.preempt
  dsimp only
  refine ⟨by rw [State.offerBoth_raised, State.modPatch_raised, raises, dropped], fun q => ?_⟩
  rw [State.offerBoth_port, State.modPatch_port, port]
  by_cases e : src = .port q
  · rw [if_pos e, same q e]; exact .inr (.inl ⟨e, rfl⟩)
  · rw [if_neg e]
    rcases ports q with h | ⟨-, talker, h⟩
    · exact .inl h
    · exact .inr (.inr ⟨talker, h⟩)

theorem State.takeBid_ports {s : State} {n : SlotId} {src : Source} (hsrc : ∀ p, src = .port p → (s.port p).masked = false)
    (out : (s.patch n).talker ≠ some src) : (s.takeBid n src).raised = s.raised ∧ ∀ q, bidLeaves src q (s.port q) ((s.takeBid n src).port q) := by
  have grants : (s.grant n src).raised = s.raised ∧ ∀ q, bidLeaves src q (s.port q) ((s.grant n src).port q) := by
    obtain ⟨-, port, -, -, raises⟩ := State.grant_parts (s := s) (n := n) hsrc
    refine ⟨raises, fun q => ?_⟩
    rw [port]
    by_cases e : src = .port q
    · rw [if_pos e]; exact .inr (.inl ⟨e, rfl⟩)
    · rw [if_neg e]; exact .inl rfl
  have plain (r : PatchRec) : (s.setPatch n r).raised = s.raised ∧ ∀ q, bidLeaves src q (s.port q) ((s.setPatch n r).port q) :=
    ⟨rfl, fun q => .inl rfl⟩
  unfold State.takeBid State.bidOnTalk State.listBid State.modPatch
  split
  · exact grants
  · exact grants
  · split
    · split
      · exact State.preempt_ports hsrc out
      · exact plain _
    · exact plain _
    · split
      · exact plain _
      · exact plain _
    · exact plain _
  · exact ⟨rfl, fun q => .inl rfl⟩
  · exact ⟨rfl, fun q => .inl rfl⟩

theorem bidLeaves.cfg {src : Source} {q : PortId} {r r' : PortRec} (h : bidLeaves src q r r') : r'.cfg = r.cfg ∧ r'.patch = r.patch := by
  rcases h with h | ⟨-, h⟩ | ⟨-, h⟩ <;> rw [h] <;> exact ⟨rfl, rfl⟩

/-- Whoever is keyed after a bid is taken was so before, on the same record. -/
theorem bidLeaves.keyed {src : Source} {q : PortId} {r r' : PortRec} (h : bidLeaves src q r r') (k : r'.inRelaySet = true) : r' = r := by
  rcases h with h | ⟨-, h⟩ | ⟨-, h⟩
  · exact h
  · rw [h] at k; cases k
  · rw [h] at k; cases k

/-- A bid leaves a patch its members. -/
theorem State.takeBid_members (s : State) (n : SlotId) (src : Source) : ((s.takeBid n src).patch n).members = (s.patch n).members := by
  have granted : ((s.grant n src).patch n).members = (s.patch n).members := by rw [State.grant_patch_eq, if_pos rfl]; rfl
  have listed : ((s.listBid n src).patch n).members = (s.patch n).members :=
    (congrArg PatchRec.members (State.setPatch_patch_same ..)).trans rfl
  unfold State.takeBid State.bidOnTalk
  split
  · exact granted
  · exact granted
  · split
    · split
      · rw [State.preempt_patch, if_pos rfl]; rfl
      · exact listed
    · exact listed
    · split
      · exact (congrArg PatchRec.members (State.setPatch_patch_same ..)).trans rfl
      · exact listed
    · exact listed
  · rfl
  · rfl

/-- Members that are keyed and unkeyed without an event are so after a bid. -/
theorem State.takeBid_quietly {s : State} {n : SlotId} {src : Source}
    (ports : ∀ q, bidLeaves src q (s.port q) ((s.takeBid n src).port q)) (quiet : s.keyedQuietly n) : (s.takeBid n src).keyedQuietly n := by
  intro q hq hr
  have same := (ports q).keyed hr
  rw [same] at hr ⊢
  exact quiet q (by rw [← State.takeBid_members s n src]; exact hq) hr

/-! ### The evaluation of one port -/

theorem State.evalPort_patch (s : State) (p : PortId) (m : SlotId) : (s.evalPort p).patch m = s.patch m := by
  unfold State.evalPort State.evalParked
  split
  · split
    · split
      · exact State.updPort_patch ..
      · rfl
    · split
      · split
        · rfl
        · exact State.updPort_patch ..
      · rfl
  · split
    · exact State.applyKey_patch _ _ _ _
    · rfl

/-- A port that is not keyed raises nothing as it is evaluated: it is keyed, or it stays as it is (R97, R99). -/
theorem State.evalPort_unkeyed {s : State} {p : PortId} {n : SlotId} (hk : (s.port p).isParked = false) (hr : (s.port p).inRelaySet = false)
    (hp : (s.port p).patch = some n) :
    s.evalPort p = s.setPort p (if s.eligible n p then ((s.port p).decided .key).1 else s.port p) := by
  rw [State.evalPort_member hk hp, State.keyDecision_of_out hr]
  cases e : s.eligible n p with
  | false => exact (State.setPort_self s p).symm
  | true =>
    exact State.applyKey_silent (PortRec.decided_key_silent (fun half => ((State.eligible_iff.mp e).2.2.2 half).2) (PortRec.ptt_of_rests hr hk))

/-! ### A port's bid in TALK -/

/-- The bid of an idle, unmasked member where keying and unkeying raise nothing: the arbiter takes it, and no carrier event comes of it. -/
theorem State.portBids_onTalk {s : State} {n : SlotId} {p : PortId} (talk : (s.patch n).state = .talk) (hp : (s.port p).patch = some n)
    (idle : (s.port p).state = .idle) (lockout : (s.port p).lockoutLeft = 0) (out : (s.patch n).stands (.port p) = false)
    (unmasked : (s.port p).masked = false) (quiet : s.keyedQuietly n) :
    (s.portBids p).patch n = (s.takeBid n (.port p)).patch n ∧ (s.portBids p).raised = s.raised ∧
      ((s.portBids p).evalPort p).patch n = (s.takeBid n (.port p)).patch n ∧ ((s.portBids p).evalPort p).raised = s.raised := by
  have parked : (s.port p).isParked = false := PortRec.unparked_of (.inl idle)
  have bids : s.portBids p = (s.takeBid n (.port p)).evalPatch n := by
    have on : s.bidsOn? p = some n := State.bidsOn?_eq_some.mpr ⟨hp, parked, lockout, out, by simp [PatchRec.takesBids, talk]⟩
    unfold State.portBids
    rw [on]
  obtain ⟨apart, -, -⟩ := PatchRec.stands_eq_false.mp out
  obtain ⟨raised, ports⟩ := State.takeBid_ports (s := s) (n := n) (src := .port p) (fun q e => by cases e; exact unmasked) apart
  have still := State.takeBid_quietly ports quiet
  rw [bids]
  generalize s.takeBid n (.port p) = u at *
  have eval := State.evalPatch_quiet still
  have rests : (u.port p).inRelaySet = false ∧ (u.port p).isParked = false := by
    rcases ports p with h | ⟨-, h⟩ | ⟨-, h⟩
    · rw [h]; exact ⟨by simp [PortRec.inRelaySet, idle], parked⟩
    · rw [h]; exact ⟨rfl, rfl⟩
    · rw [h]; exact ⟨rfl, rfl⟩
  have home : (u.port p).patch = some n := (ports p).cfg.2.trans hp
  refine ⟨eval.patch n, eval.raised.trans raised, (State.evalPort_patch _ _ _).trans (eval.patch n), ?_⟩
  have port := eval.port p
  by_cases member : p ∈ (u.patch n).members
  · rw [State.evalPort_settled (eval.patch n) rests.2 home (port.trans (if_pos member)) fun d => ?_]
    · exact eval.raised.trans raised
    · have keyed := State.keyDecision_unkey_relays d
      rw [rests.1] at keyed; cases keyed
  · have same : (u.evalPatch n).port p = u.port p := port.trans (if_neg member)
    rw [State.evalPort_unkeyed (n := n) (by rw [same]; exact rests.2) (by rw [same]; exact rests.1) (by rw [same]; exact home)]
    exact eval.raised.trans raised

/-! ### CLEAR_PORT_CONDITIONS (R23) -/

theorem kept_conditionsClear (s : State) (p : PortId) (old : PortRec) : Kept [] [] s (s.conditionsClear p old) := by
  unfold State.conditionsClear
  have fallen : Kept [] [] s (if old.emergency && !(s.port p).emergency then s.priorityChanged p false else s) := by
    split
    · exact kept_priorityChanged _ _ _
    · exact Kept.refl s
  revert fallen
  dsimp only
  generalize (if old.emergency && !(s.port p).emergency then s.priorityChanged p false else s) = u
  intro fallen
  have expired : Kept [] [] s (if decide (0 < old.lockoutLeft) && (s.port p).lockoutLeft == 0 then u.portBidsIfQualified p else u) := by
    split
    · exact fallen.trans (flow_portBidsIfQualified _ _).toKept
    · exact fallen
  split
  · exact expired.trans (kept_evalPort _ _)
  · exact expired

theorem State.bidsOn?_eq_none {s : State} {p : PortId} (h : (s.port p).isParked = true ∨ (s.port p).patch = none ∨ 0 < (s.port p).lockoutLeft) :
    s.bidsOn? p = none := by
  rw [Option.eq_none_iff_forall_ne_some]
  intro n hn
  obtain ⟨home, unparked, lockout, -⟩ := State.bidsOn?_eq_some.mp hn
  rcases h with h | h | h
  · rw [h] at unparked; cases unparked
  · rw [h] at home; cases home
  · omega

/-- A port that does not bid, or is not qualified, stays (R71, R72). -/
theorem State.portBidsIfQualified_stays {s : State} {p : PortId} (h : s.bidsOn? p = none ∨ (s.port p).qualified = false) : s.portBidsIfQualified p = s := by
  unfold State.portBidsIfQualified State.portBids
  split
  · rename_i q
    rw [h.resolve_right (by rw [q]; decide)]
  · rfl

/-- The report of a fall, made only where the flag has cleared (R23). -/
theorem State.conditionsClear_unlisted {s : State} {p : PortId} {old : PortRec} (h : s.unlisted p) : s.conditionsClear p old =
    (if old.fault && !(s.port p).fault then
      (if decide (0 < old.lockoutLeft) && (s.port p).lockoutLeft == 0 then s.portBidsIfQualified p else s).evalPort p
    else if decide (0 < old.lockoutLeft) && (s.port p).lockoutLeft == 0 then s.portBidsIfQualified p else s) := by
  unfold State.conditionsClear
  rw [State.priorityChanged_unlisted h, ite_self]

theorem State.evalPort_unpatched {s : State} {p : PortId} (hp : (s.port p).patch = none) (hk : (s.port p).isParked = false) : s.evalPort p = s := by
  unfold State.evalPort
  rw [if_neg (by rw [hk]; decide), hp]

/-- A fall of priority only orders the list anew (R81). -/
theorem State.priorityChanged_fall (s : State) (p : PortId) : (∀ q, (s.priorityChanged p false).port q = s.port q) ∧
    (s.priorityChanged p false).raised = s.raised ∧ ∀ m, ∃ l, (s.priorityChanged p false).patch m = { s.patch m with bids := l } ∧
      ∀ x, x ∈ l → x ∈ (s.patch m).bids := by
  by_cases free : s.unlisted p
  · rw [State.priorityChanged_unlisted free]
    exact ⟨fun _ => rfl, rfl, fun m => ⟨_, rfl, fun _ => id⟩⟩
  · unfold State.unlisted at free
    push Not at free
    obtain ⟨n, hn, listed⟩ := free
    rw [State.priorityChanged_listed hn listed, if_neg Bool.false_ne_true]
    refine ⟨fun _ => rfl, rfl, fun m => ?_⟩
    unfold State.placedAgain
    rw [State.setPatch_patch]
    by_cases e : m = n
    · subst e
      rw [if_pos rfl]
      refine ⟨_, rfl, fun x hx => ?_⟩
      rcases List.mem_cons.mp ((s.insertBid_perm _ _).mem_iff.mp hx) with rfl | hx
      · exact listed
      · exact List.mem_of_mem_erase hx
    · rw [if_neg e]
      exact ⟨_, rfl, fun _ => id⟩

theorem State.heard_target (s : State) (c d : Console) : ((s.heard c).console d).target = (s.console d).target := by
  by_cases e : d = c
  · subst e; exact (congrArg ConsoleRec.target (State.heard_console s d)).trans rfl
  · rw [State.heard_console_of_ne s e]

/-- Settles O38. -/
theorem conditionsAreCleared : Obligations.ConditionsAreCleared := by
  unfold Obligations.ConditionsAreCleared
  intro s c p sel ready r cleared
  have isCleared : r.clearConditions sel = cleared := PortRec.clearConditions_eq r sel
  let u := (s.heard c).setPort p cleared
  have port : u.port p = cleared := State.setPort_port_same _ _ _
  have answers {w : State} (hw : (u.conditionsClear p r).settle = w) :
      exec (.clearPortConditions c (portNumber p) sel) s = .next (w.replied c ⟨.ok, w.conditionsImage p⟩) :=
    exec_clearConditions ready (by rw [show (s.port p).clearConditions sel = cleared from isCleared]; exact hw)
  have faults (clears : sel.fault = true) (set : r.fault = true) : (r.fault && !(u.port p).fault) = true := by
    rw [port]; simp [cleared, clears, set]
  refine ⟨⟨_, answers rfl, ((kept_conditionsClear _ _ _).trans (kept_settle _)).frame⟩, fun none unpatched unparked => ?_,
    fun n none clears locked qualified unmasked idle home out => ?_, fun n none clears set idle home quiet relays => ?_,
    fun d none clears set target request waits => ?_, fun k outside => ?_⟩
  · refine (answers (w := u) ?_).trans ?_
    · rw [State.conditionsClear_unlisted (fun n hn => by rw [port] at hn; rw [show cleared.patch = .none from unpatched] at hn; cases hn),
        State.portBidsIfQualified_stays (.inl (State.bidsOn?_eq_none (.inr (.inl (by rw [port]; exact unpatched))))), ite_self,
        State.evalPort_unpatched (by rw [port]; exact unpatched) (by rw [port]; exact unparked), ite_self]
      exact State.settle_of_none none
    · have image : u.conditionsImage p = [byteOf (if cleared.emergency then 1 else 0), byteOf (if cleared.fault then 1 else 0),
          byteOf (cleared.lockoutLeft / 65536), byteOf (cleared.lockoutLeft / 256), byteOf cleared.lockoutLeft] := by
        unfold State.conditionsImage
        rw [port]; rfl
      rw [image]
  · have free : u.unlisted p := fun m hm => by
      have e : m = n := Option.some.inj ((hm.symm.trans (congrArg PortRec.patch port)).trans home)
      rw [e]
      exact (PatchRec.stands_eq_false.mp out).2.2
    have unlocked : cleared.lockoutLeft = 0 := if_pos clears
    have clear : u.conditionsClear p r = if r.fault && !(u.port p).fault then (u.portBids p).evalPort p else u.portBids p := by
      have bids : u.portBidsIfQualified p = u.portBids p := if_pos (by rw [port]; exact qualified)
      have ended : (decide (0 < r.lockoutLeft) && (u.port p).lockoutLeft == 0) = true := by
        rw [port, unlocked, decide_eq_true locked]; rfl
      rw [State.conditionsClear_unlisted free, bids, ended, if_pos rfl]
    have ends {w : State} (settled : (u.portBids p).raised = [] ∧ ((u.portBids p).evalPort p).raised = [])
        (hw : (if r.fault && !(u.port p).fault then (u.portBids p).evalPort p else u.portBids p) = w) : (u.conditionsClear p r).settle = w := by
      rw [clear]
      subst hw
      exact State.settle_of_none (by split; exacts [settled.2, settled.1])
    refine ⟨fun talk quiet => ?_, fun nobody => ?_⟩
    · obtain ⟨patch, raised, patch', raised'⟩ := State.portBids_onTalk (s := u) (p := p) (n := n) talk (by rw [port]; exact home)
        (by rw [port]; exact idle) (by rw [port]; exact unlocked) out (by rw [port]; exact unmasked) (fun q hq hr => by
          by_cases e : q = p
          · subst e
            rw [port] at hr
            have idles : cleared.inRelaySet = false := by simp [PortRec.inRelaySet, cleared, idle]
            rw [idles] at hr; cases hr
          · have same : u.port q = s.port q := (State.setPort_port _ _ _ _).trans (if_neg e)
            rw [same] at hr ⊢
            exact quiet q hq hr)
      refine ⟨_, answers (ends ⟨raised.trans none, raised'.trans none⟩ rfl), ?_⟩
      split
      · exact patch'
      · exact patch
    · have same := SameButBidder.setPort (s.heard c) p cleared
      obtain ⟨granted, raised, bidder, settled⟩ := State.portBids_granted (s := u) (p := p)
        (same.awaits (State.awaits_of_nobodyTalks (s := s.heard c) nobody (.port p))) (by rw [port]; exact home)
        (by rw [port]; exact PortRec.unparked_of (.inl idle)) (by rw [port]; exact unlocked) (by rw [port]; exact unmasked)
      refine ⟨u.portBids p, answers (ends ⟨raised.trans none, by rw [settled]; exact raised.trans none⟩ (by rw [settled, ite_self])), ?_, granted⟩
      rw [bidder, port]
  · obtain ⟨samePort, sameRaised, samePatch⟩ := u.priorityChanged_fall p
    obtain ⟨v, isV⟩ : ∃ v, v = if r.emergency && !(u.port p).emergency then u.priorityChanged p false else u := ⟨_, rfl⟩
    have vPort : v.port p = cleared := by rw [isV]; split <;> [exact (samePort p).trans port; exact port]
    have vRaised : v.raised = [] := by rw [isV]; split <;> [exact sameRaised.trans none; exact none]
    have vPatch : ∃ l, v.patch n = { u.patch n with bids := l } ∧ ∀ x, x ∈ l → x ∈ (u.patch n).bids := by
      rw [isV]; split
      · exact samePatch n
      · exact ⟨_, rfl, fun _ => id⟩
    obtain ⟨l, patch, sub⟩ := vPatch
    obtain ⟨mode, state, talker, kind, fault, half⟩ := relays
    rw [show ((s.heard c).setPort p cleared).port p = cleared from port] at kind fault half
    have stays : (if decide (0 < r.lockoutLeft) && (u.port p).lockoutLeft == 0 then v.portBidsIfQualified p else v) = v := by
      split
      · rename_i ended
        rw [port] at ended
        refine State.portBidsIfQualified_stays (.inr ?_)
        rw [vPort]
        rcases quiet with off | zero | unqualified
        · simp [cleared, off] at ended; omega
        · simp [zero] at ended
        · exact unqualified
      · rfl
    have clear : u.conditionsClear p r = v.evalPort p := by
      unfold State.conditionsClear
      rw [← isV]
      dsimp only
      rw [stays, if_pos (faults clears set)]
    have unparked : cleared.isParked = false := PortRec.unparked_of (.inl idle)
    have eligible : v.eligible n p = true := by
      rw [State.eligible_iff, State.holdable_iff, patch, vPort]
      exact ⟨⟨mode, kind, unparked, fault⟩, state, talker, fun e => ⟨fun m => (half e).1 (sub _ m), (half e).2⟩⟩
    have keyed := State.evalPort_unkeyed (s := v) (p := p) (n := n) (by rw [vPort]; exact unparked)
      (by rw [vPort]; simp [PortRec.inRelaySet, cleared, idle]) (by rw [vPort]; exact home)
    rw [if_pos eligible, vPort] at keyed
    refine ⟨_, answers (w := v.setPort p (cleared.decided .key).1) ?_, ?_, ?_, ?_⟩
    · rw [clear, keyed]; exact State.settle_of_none vRaised
    · rw [State.setPort_port_same]; exact PortRec.keyed_state _
    · rw [State.setPort_port_same]; exact PortRec.decided_key_keyUpLeft _
    · rw [State.setPort_port_same, PortRec.decided_fault]; exact fault
  · obtain ⟨parked, -, -, -, out, -⟩ := id waits
    have isParked : (u.port p).isParked = true := by simp only [PortRec.isParked, show (u.port p).state = .parked from parked]
    refine answers (w := (s.heard c).setPort p cleared.consoleKeyed) ?_
    rw [State.conditionsClear_unlisted (fun n hn => (PatchRec.stands_eq_false.mp (out n hn)).2.2),
      State.portBidsIfQualified_stays (.inl (State.bidsOn?_eq_none (.inl isParked))), ite_self, if_pos (faults clears set)]
    have evaluates : u.evalPort p = u.evalParked p := by unfold State.evalPort; rw [if_pos isParked]
    rw [evaluates, State.evalParked_keys (s := u) (c := d) none waits ((State.heard_target s c d).trans target) request, port]
    exact State.setPort_setPort _ _ _ _
  · refine exec_of_ready (q := .clearPortConditions k sel) rfl ready ?_
    show doClearPortConditions k sel (s.heard c) = _
    unfold doClearPortConditions State.onPort
    rw [portOf?_outOfRange outside]
    rfl

end Sys2Proof.Machine

/-! What stays of a patch that is retired, and of one that closes (R64 to R66), and DISSOLVE. -/

namespace Sys2Proof.Machine

/-! ### A patch that is gone (R65) -/

/-- Nothing names slot n, which is free. -/
structure State.forgotten (s : State) (n : SlotId) : Prop where
  unused : s.patch n = PatchRec.unused
  target : ∀ d, (s.console d).target ≠ .patch n
  listen : ∀ d, ∀ e ∈ (s.console d).listen, e.patch ≠ n

theorem Move.forgotten {W : PortId → Prop} {s t : State} (m : Move W s t) {n : SlotId} (h : s.forgotten n) : t.forgotten n where
  unused := by
    rcases m.patch_cases n with f | ⟨f, -⟩ | ⟨used, -⟩
    · exact f.trans h.unused
    · exact f
    · exact absurd h.unused used
  target d := by
    rcases m.console_cases d with f | ⟨k, -, -, f⟩ <;> rw [f]
    · exact h.target d
    · rw [ConsoleRec.forgetPatch_target]
      split
      · nofun
      · exact h.target d
  listen d e he := by
    rcases m.console_cases d with f | ⟨k, -, -, f⟩ <;> rw [f] at he
    · exact h.listen d e he
    · exact h.listen d e ((ConsoleRec.mem_forgetPatch_listen _ _ _).mp he).1

theorem Traffic.forgotten {W : PortId → Prop} {s t : State} (h : Traffic W s t) {n : SlotId} (f : s.forgotten n) : t.forgotten n :=
  h.keeps (I := fun u => u.forgotten n) (fun m i => m.forgotten i) f

theorem State.retire_forgotten (s : State) (n : SlotId) (but : Option Console) : (s.retire n but).forgotten n where
  unused := by rw [State.retire_patch, if_pos rfl]
  target d := by rw [State.retire_console]; exact ConsoleRec.forgetPatch_target_ne _ _
  listen d e he := by
    rw [State.retire_console] at he
    exact ((ConsoleRec.mem_forgetPatch_listen _ _ _).mp he).2

theorem State.retire_offered (s : State) (n : SlotId) (but : Option Console) {c : Console} (h : but ≠ some c) :
    (s.retire n but).offered c ⟨.patchRetired, slotNumber n⟩ := by
  rw [State.offered, State.retire_notice, if_neg h]
  exact NoticeUnit.offered_offer _ _

/-- A record that no action gives a patch keeps none. -/
theorem Kept.unpatched {ns : List SlotId} {ps : List PortId} {s t : State} (h : Kept ns ps s t) {p : PortId} (hp : p ∉ ps)
    (none : (s.port p).patch = .none) : (t.port p).patch = .none := by
  rcases h.portPatch p hp with e | e
  · exact e.trans none
  · exact e

/-- A retirement handed on, from the console whose command it is. -/
structure DissolvedBy (s u : State) (c : Console) (n : SlotId) : Prop where
  gone : u.forgotten n
  members : ∀ p ∈ (s.patch n).members, (u.port p).patch = none
  notice : u.offered (otherConsole c) ⟨.patchRetired, slotNumber n⟩
  frame : State.trafficOnly [] [] s u

theorem State.retire_dissolves (s : State) (c : Console) (n : SlotId) : DissolvedBy s (s.retire n (some c)).settle c n where
  gone := (traffic_settle _).forgotten (State.retire_forgotten _ _ _)
  members p hp := (kept_settle (ns := []) (ps := []) _).unpatched List.not_mem_nil (by rw [State.retire_portPatch, if_pos hp])
  notice := (traffic_settle _).offered (State.retire_offered _ _ _ (by simpa using (otherConsole_ne c).symm))
  frame := ((kept_retire s n (some c)).trans (kept_settle _)).frame

/-! ### A patch that stays CLOSING (R64) -/

/-- A set of records of a CLOSING patch that the withdrawal of a bid does not leave. -/
structure ClosingRecords (K : PatchRec → Prop) : Prop where
  closing : ∀ {r}, K r → r.state = .closing
  withdraws : ∀ {r}, K r → ∀ src, K { r with bids := r.bids.erase src }

/-- Patch n is CLOSING, its record in K, its talker unkeyed, and only members that do not talk have events waiting. -/
structure State.heldClosing (s : State) (K : PatchRec → Prop) (n : SlotId) : Prop where
  record : K (s.patch n)
  members : ∀ q ∈ (s.patch n).members, (s.port q).patch = some n
  talker : ∀ q, (s.patch n).talker = some (.port q) → (s.port q).patch = some n → (s.port q).inRelaySet = false
  events : ∀ e ∈ s.raised, (s.port e.port).patch = some n ∧ (s.patch n).talker ≠ some (.port e.port)

/-- An evaluation leaves every port in its patch. -/
theorem State.evalPatch_home (s : State) (n : SlotId) (q : PortId) : ((s.evalPatch n).port q).patch = (s.port q).patch := by
  unfold State.evalPatch
  rw [foldl_applyKey_port]
  split
  · exact PortRec.decided_patch _ _
  · rfl

namespace State.heldClosing

variable {K : PatchRec → Prop} {n : SlotId} {s : State}

/-- A request on a member that does not talk. -/
theorem updPort (h : s.heldClosing K n) {q : PortId} {f : PortRec → PortRec} (home : (s.port q).patch = some n)
    (other : (s.patch n).talker ≠ some (.port q)) (keeps : (f (s.port q)).patch = (s.port q).patch) : (s.updPort q f).heldClosing K n := by
  have patch : (s.updPort q f).patch n = s.patch n := State.updPort_patch ..
  have homes (p : PortId) : ((s.updPort q f).port p).patch = (s.port p).patch := by
    rw [State.updPort_port]
    split
    · rename_i e; subst e; rw [PortRec.remask_patch, keeps]
    · rfl
  refine ⟨by rw [patch]; exact h.record, fun p hp => ?_, fun p hp member => ?_, fun e he => ?_⟩
  · rw [homes]; exact h.members p (by rwa [patch] at hp)
  · rw [patch] at hp
    rw [State.updPort_port, if_neg fun e => other (by rw [← e]; exact hp)]
    exact h.talker p hp (by rw [← homes]; exact member)
  · rw [homes, patch]
    rcases State.updPort_raised he with m | m
    · exact h.events e m
    · rw [m]; exact ⟨home, other⟩

theorem applyKey (h : s.heldClosing K n) {q : PortId} {d : KeyDecision} (home : (s.port q).patch = some n)
    (other : d ≠ .leave → (s.patch n).talker ≠ some (.port q)) : (s.applyKey q d).heldClosing K n := by
  cases d with
  | key => exact h.updPort (f := fun r => r.keyInto .keyUp .relay) home (other nofun) (PortRec.keyInto_patch _ _ _)
  | unkey => exact h.updPort (f := fun r => r.unkeyInto .idle) home (other nofun) rfl
  | leave => exact h

/-- The talker of a CLOSING patch that stands unkeyed is left by the keying unit (R97). -/
theorem decides (h : s.heldClosing K n) {q : PortId} (home : (s.port q).patch = some n) (d : s.keyDecision n q ≠ .leave) : (s.patch n).talker ≠ some (.port q) := by
  intro talker
  cases e : s.keyDecision n q with
  | key => exact (State.eligible_iff.mp (State.keyDecision_key e)).2.2.1 talker
  | unkey =>
    have relays := State.keyDecision_unkey_relays e
    rw [h.talker q talker home] at relays
    cases relays
  | leave => exact d e

theorem evalPatch (h : s.heldClosing K n) : (s.evalPatch n).heldClosing K n := by
  have all (l : List PortId) (hl : ∀ q ∈ l, q ∈ (s.patch n).members) (u : State) (i : u.heldClosing K n) (same : u.patch n = s.patch n) :
      (l.foldl (fun acc p => acc.applyKey p (s.keyDecision n p)) u).heldClosing K n := by
    induction l generalizing u with
    | nil => exact i
    | cons q l ih =>
      have member := hl q List.mem_cons_self
      refine ih (fun x hx => hl x (List.mem_cons_of_mem _ hx)) _ (i.applyKey (i.members q (same ▸ member)) fun d => ?_) ?_
      · rw [same]; exact h.decides (h.members q member) d
      · rw [State.applyKey_patch, same]
  exact all _ (fun _ => id) s h rfl

theorem evalPort (h : s.heldClosing K n) {q : PortId} (home : (s.port q).patch = some n) (other : (s.patch n).talker ≠ some (.port q)) :
    (s.evalPort q).heldClosing K n := by
  unfold State.evalPort
  split
  · unfold State.evalParked
    split
    · split
      · exact h.updPort (f := fun r => r.keyInto .parkedKeyUp .parkedRelay) home other (PortRec.keyInto_patch _ _ _)
      · exact h
    · split
      · split
        · exact h
        · exact h.updPort (f := fun r => r.unkeyInto .parked) home other rfl
      · exact h
  · rw [home]
    exact h.applyKey home fun _ => other

theorem withdraw (closed : ClosingRecords K) (h : s.heldClosing K n) (src : Source) : (s.withdraw n src).heldClosing K n := by
  have patch : (s.withdraw n src).patch n = { s.patch n with bids := (s.patch n).bids.erase src } := State.setPatch_patch_same ..
  refine ⟨by rw [patch]; exact closed.withdraws h.record src, ?_, ?_, ?_⟩ <;> rw [patch]
  · exact h.members
  · exact h.talker
  · exact h.events

/-- A carrier event of a member that does not talk, handed on. -/
theorem handOn (closed : ClosingRecords K) (h : s.heldClosing K n) {e : CarrierEvent} (home : (s.port e.port).patch = some n)
    (other : (s.patch n).talker ≠ some (.port e.port)) : (s.handOn e).heldClosing K n := by
  have evaluated {t : State} (i : t.heldClosing K n) (homes : (t.port e.port).patch = some n)
      (others : (t.patch n).talker ≠ some (.port e.port)) : ((t.evalPatch n).evalPort e.port).heldClosing K n := by
    refine i.evalPatch.evalPort ?_ ?_
    · rw [State.evalPatch_home]; exact homes
    · rw [show (t.evalPatch n).patch n = t.patch n from foldl_applyKey_patch _ _ _ _]; exact others
  rcases s.handOn_cases e with he | he <;> rw [he]
  · unfold State.carrierQualified State.portBids
    split
    · rename_i m hm
      obtain rfl : m = n := Option.some.inj ((State.bidsOn?_eq_some.mp hm).1.symm.trans home)
      rw [show s.takeBid m (.port e.port) = s by unfold State.takeBid; rw [closed.closing h.record]]
      exact evaluated h home other
    · exact h.evalPort home other
  · unfold State.carrierLost State.portLosesPlace
    rw [home]
    dsimp only
    rw [if_neg other]
    split
    · refine evaluated (h.withdraw closed _) home ?_
      rw [show (s.withdraw n (.port e.port)).patch n = _ from State.setPatch_patch_same ..]; exact other
    · exact h.evalPort home other

theorem settle (closed : ClosingRecords K) (h : s.heldClosing K n) : s.settle.heldClosing K n := by
  unfold State.settle
  generalize Config.carrierEventBound = k
  induction k generalizing s with
  | zero => exact h
  | succ k ih =>
    unfold settleN
    split
    · exact h
    · rename_i e rest raised
      have popped : ({ s with raised := rest } : State).heldClosing K n :=
        ⟨h.record, h.members, h.talker, fun x hx => h.events x (by rw [raised]; exact List.mem_cons_of_mem _ hx)⟩
      obtain ⟨home, other⟩ := h.events e (by rw [raised]; exact List.mem_cons_self)
      exact ih (popped.handOn closed home other)

end State.heldClosing

/-! ### A CLOSING patch in any state -/

theorem still_takeBid (s : State) (n : SlotId) (src : Source) : Still [n] s (s.takeBid n src) := by
  have listed : Still [n] s (s.listBid n src) := still_modPatch s n _
  unfold State.takeBid
  split
  · exact still_grant _ _ _
  · exact still_grant _ _ _
  · unfold State.bidOnTalk
    split
    · split
      · exact still_preempt _ _ _ _
      · exact listed
    · exact listed
    · split
      · exact still_modPatch s n _
      · exact listed
    · exact listed
  · exact .refl s
  · exact .refl s

theorem State.dropTalker_elsewhere (s : State) {n m : SlotId} (h : m ≠ n) : (s.dropTalker n).patch m = s.patch m :=
  (still_dropTalker s n).patch m (by simpa using h)

theorem State.release_elsewhere (s : State) {n m : SlotId} (but : Option Console) (h : m ≠ n) : (s.release n but).patch m = s.patch m := by
  by_cases closing : (s.patch n).state = .closing
  · rw [State.release_closing closing, State.retire_patch, if_neg h, State.dropTalker_elsewhere s h]
  · exact (still_release closing but).patch m (by simpa using h)

/-- A CLOSING patch keeps its record in K, or is retired, whatever is handed on. -/
theorem ClosingRecords.handOn {K : PatchRec → Prop} (closed : ClosingRecords K) {s : State} {n : SlotId} (e : CarrierEvent)
    (h : K (s.patch n) ∨ s.patch n = PatchRec.unused) : K ((s.handOn e).patch n) ∨ (s.handOn e).patch n = PatchRec.unused := by
  have evaluated {t : State} (i : K (t.patch n) ∨ t.patch n = PatchRec.unused) (m : SlotId) :
      K (((t.evalPatch m).evalPort e.port).patch n) ∨ ((t.evalPatch m).evalPort e.port).patch n = PatchRec.unused := by
    rw [State.evalPort_patch, show (t.evalPatch m).patch n = t.patch n from foldl_applyKey_patch _ _ _ _]; exact i
  have port : K ((s.evalPort e.port).patch n) ∨ (s.evalPort e.port).patch n = PatchRec.unused := by rw [State.evalPort_patch]; exact h
  have same {t : State} (k : t.patch n = s.patch n) : K (t.patch n) ∨ t.patch n = PatchRec.unused := by rw [k]; exact h
  rcases s.handOn_cases e with he | he <;> rw [he]
  · unfold State.carrierQualified State.portBids
    split
    · rename_i m hm
      refine evaluated (same ?_) m
      by_cases here : n = m
      · subst here
        have takes := (State.bidsOn?_eq_some.mp hm).2.2.2.2
        rcases h with k | k
        · unfold State.takeBid; rw [closed.closing k]
        · rw [k] at takes; cases takes
      · exact (still_takeBid s m _).patch n (by simpa using here)
    · exact port
  · unfold State.carrierLost State.portLosesPlace
    split
    · exact port
    · rename_i m hm
      split
      · rename_i talker
        refine evaluated ?_ m
        by_cases here : n = m
        · subst here
          rcases h with k | k
          · exact .inr (by
              rw [State.release_closing (closed.closing k), State.retire_patch, if_pos rfl])
          · rw [k] at talker; cases talker
        · rw [State.release_elsewhere s none here]; exact h
      · split
        · refine evaluated ?_ m
          by_cases here : n = m
          · subst here
            have patch : (s.withdraw n (.port e.port)).patch n = { s.patch n with bids := (s.patch n).bids.erase (.port e.port) } :=
              State.setPatch_patch_same ..
            rw [patch]
            rcases h with k | k
            · exact .inl (closed.withdraws k _)
            · exact .inr (by rw [k]; rfl)
          · exact same ((State.setPatch_patch ..).trans (if_neg here))
        · exact port

theorem ClosingRecords.settle {K : PatchRec → Prop} (closed : ClosingRecords K) {s : State} {n : SlotId}
    (h : K (s.patch n) ∨ s.patch n = PatchRec.unused) : K (s.settle.patch n) ∨ s.settle.patch n = PatchRec.unused := by
  unfold State.settle
  generalize Config.carrierEventBound = k
  induction k generalizing s with
  | zero => exact h
  | succ k ih =>
    unfold settleN
    split
    · exact h
    · rename_i e rest _
      exact ih (closed.handOn (s := { s with raised := rest }) e h)

/-! ### DISSOLVE (R63 to R66) -/

/-- A patch in use on which console c may act passes the two checks that stand in every table (R34, R63). -/
theorem State.inUse_checks {s : State} {c : Console} {n : SlotId} (used : (s.patch n).state ≠ .unused)
    (edits : (s.patch n).owner = some c ∨ (s.patch n).shared = true) : s.notInUse n = none ∧ s.notOwner c n = none :=
  ⟨State.notInUse_eq_none.mpr used, by unfold State.notOwner; rw [(PatchRec.mayEdit_iff _ _).mpr edits]; rfl⟩

theorem exec_dissolve {s : State} {c : Console} {n : SlotId} {i : Instr} {kind : Nat} (hi : i.request? = some (c, .dissolve (slotNumber n) kind))
    (ready : s.readyFor c) (checks : firstRefusal (s.dissolveChecks c n kind) = none) :
    exec i s = .next ((((s.heard c).dissolve c n kind).settle).replied c (ok (((s.heard c).dissolve c n kind).settle.patchList [n]))) := by
  refine exec_of_ready hi ready ?_
  show doDissolve c (slotNumber n) kind (s.heard c) = _
  unfold doDissolve
  rw [State.onPatch_slotNumber]
  exact State.checked_pass (s := s.heard c) checks

theorem State.patchList_one (s : State) (n : SlotId) :
    s.patchList [n] = [1#8, byteOf (slotNumber n), byteOf (s.patch n).state.code, byteOf (s.patch n).members.length] := rfl

theorem State.beginClosing_patch (s : State) (n : SlotId) : (s.beginClosing n).patch n = { s.patch n with state := .closing, bids := [] } :=
  (foldl_applyKey_patch _ _ _ _).trans (State.setPatch_patch_same ..)

/-- The record of a patch as it begins to close (R64). -/
theorem closingRecords_begun (r : PatchRec) : ClosingRecords (fun x => x = { r with state := .closing, bids := [] }) where
  closing h := by rw [h]
  withdraws h src := by rw [h]; rfl

/-- Where the relay set is fit, the talker of a patch is not in it (R97). -/
theorem State.relayFit.talker {s : State} (fit : s.relayFit) {n : SlotId} {q : PortId}
    (talker : (s.patch n).talker = some (.port q)) (home : (s.port q).patch = some n) : (s.port q).inRelaySet = false := by
  cases relays : (s.port q).inRelaySet with
  | false => rfl
  | true =>
    obtain ⟨-, -, m, hm, -, other, -⟩ := fit q relays
    obtain rfl : m = n := Option.some.inj (hm.symm.trans home)
    exact absurd talker other

/-- DISSOLVE WHEN-CLEAR in TALK, with a fit relay set: the patch closes with its talker (R64). -/
theorem State.beginClosing_held {s : State} {n : SlotId} (agree : s.membersAgree) (fit : s.relayFit) (none : s.raised = []) :
    (s.beginClosing n).settle.patch n = { s.patch n with state := .closing, bids := [] } := by
  have held : (s.modPatch n (fun r => { r with state := .closing, bids := [] })).heldClosing
      (fun x => x = { s.patch n with state := .closing, bids := [] }) n := by
    have patch : (s.modPatch n (fun r => { r with state := .closing, bids := [] })).patch n = { s.patch n with state := .closing, bids := [] } :=
      State.setPatch_patch_same ..
    refine ⟨patch, fun q hq => ?_, fun q talker home => ?_, fun e he => ?_⟩
    · rw [patch] at hq; exact (agree.1 n q).mp hq
    · rw [patch] at talker; exact State.relayFit.talker fit talker home
    · exact absurd (none ▸ he : e ∈ []) List.not_mem_nil
  exact (held.evalPatch.settle (closingRecords_begun _)).record

/-- Settles O45. -/
theorem patchIsDissolved : Obligations.PatchIsDissolved := by
  unfold Obligations.PatchIsDissolved
  intro s c n ready agree used edits gone
  let h := s.heard c
  obtain ⟨inUse, mine⟩ := State.inUse_checks (s := h) used edits
  have checks (kind : Nat) (low : kind ≤ 1) (state : kind = 1 → (s.patch n).state ≠ .closing) :
      firstRefusal (h.dissolveChecks c n kind) = none := by
    simp only [State.dissolveChecks, firstRefusal_cons, check_eq_none, inUse, mine, decide_eq_false_iff_not, firstRefusal_nil, and_true, true_and]
    refine ⟨by omega, ?_⟩
    split
    · exact check_eq_none.mpr (beq_eq_false_iff_ne.mpr (state ‹_›))
    · rfl
  have retires (i : Instr) (kind : Nat) (hi : i.request? = some (c, .dissolve (slotNumber n) kind)) (low : kind ≤ 1)
      (state : kind = 1 → (s.patch n).state = .quiet ∨ (s.patch n).state = .hang) :
      ∃ u : State, exec i s = .next (u.replied c ⟨.ok, [1#8, byteOf (slotNumber n), 0#8, 0#8]⟩) ∧ gone u := by
    have dissolved : h.dissolve c n kind = h.retire n (some c) := if_neg fun ⟨one, talk⟩ => by
      rcases state one with e | e <;> rw [show (s.patch n).state = _ from talk] at e <;> cases e
    have done := State.retire_dissolves h c n
    refine ⟨(h.retire n (some c)).settle, ?_, done.gone.unused, done.members, fun d => ⟨done.gone.target d, done.gone.listen d⟩, done.notice,
      done.frame⟩
    rw [exec_dissolve hi ready (checks kind low fun one e => by rcases state one with f | f <;> rw [f] at e <;> cases e), dissolved,
      State.patchList_one, done.gone.unused]
    rfl
  refine ⟨retires _ 0 rfl (by omega) nofun, fun state => retires _ 1 rfl (by omega) fun _ => state, fun closing => ?_, fun talk => ?_⟩
  · refine exec_of_ready (q := .dissolve (slotNumber n) 1) rfl ready ?_
    show doDissolve c (slotNumber n) 1 h = _
    unfold doDissolve
    rw [State.onPatch_slotNumber]
    refine State.checked_refused (r := refusePatch .patchClosing (slotNumber n)) ?_
    have closes : h.isClosing n = some (refusePatch .patchClosing (slotNumber n)) := by
      unfold State.isClosing; rw [show (h.patch n).state = .closing from closing]; rfl
    simp only [State.dissolveChecks, inUse, mine, closes]; rfl
  · have dissolved : h.dissolve c n 1 = h.beginClosing n := if_pos ⟨rfl, talk⟩
    refine ⟨(h.beginClosing n).settle, ?_, ?_, fun none fit => State.beginClosing_held (s := h) agree fit none, ?_⟩
    · rw [exec_dissolve (kind := 1) rfl ready (checks 1 (by omega) fun _ e => by rw [talk] at e; cases e), dissolved]; rfl
    · exact ((closingRecords_begun _).settle (.inl (h.beginClosing_patch n))).imp (fun e => by rw [e]; exact ⟨rfl, rfl⟩) id
    · rw [← dissolved]; exact ((kept_dissolve h c n 1).trans (kept_settle _)).frame

end Sys2Proof.Machine

/-! A bid on a patch in TALK: pre-emption, the list, the MIX partner; and the change of style (R75, R79, R80, R82, R90). -/

namespace Sys2Proof.Machine

/-! ### A bid in TALK, by style (R75) -/

theorem State.takeBid_onTalk {s : State} {n : SlotId} {src : Source} (h : (s.patch n).state = .talk) : s.takeBid n src = s.bidOnTalk n src := by
  unfold State.takeBid; rw [h]

theorem State.bidOnTalk_preempts {s : State} {n : SlotId} {src : Source} {t : PortId} (style : (s.patch n).style = .preempt)
    (talker : (s.patch n).talker = some (.port t)) (outranks : s.outranks n src t = true) : s.bidOnTalk n src = s.preempt n src t := by
  unfold State.bidOnTalk
  rw [style, PatchRec.portTalker_eq_some.mpr talker]
  exact if_pos outranks

/-- Whom a bid neither pre-empts nor joins lists it (R75, R76). -/
theorem State.bidOnTalk_lists {s : State} {n : SlotId} {src : Source}
    (h : ((s.patch n).style = .preempt ∧ ∀ t, (s.patch n).talker = some (.port t) → s.outranks n src t = false) ∨
      ((s.patch n).style = .mix ∧ ((∀ t, (s.patch n).talker ≠ some (.port t)) ∨ (s.patch n).partner ≠ none ∨ ∃ p, src = .port p))) :
    s.bidOnTalk n src = s.setPatch n { s.patch n with bids := s.insertBid src (s.patch n).bids } := by
  unfold State.bidOnTalk
  rcases h with ⟨style, lower⟩ | ⟨style, alone⟩
  · cases talker : (s.patch n).portTalker with
    | none => rw [style]; rfl
    | some t =>
      rw [style]
      exact if_neg (by rw [lower t (PatchRec.portTalker_eq_some.mp talker)]; decide)
  · cases talker : (s.patch n).portTalker with
    | none => rw [style]; rfl
    | some t =>
      rw [style]
      rcases alone with none | taken | ⟨p, rfl⟩
      · exact absurd (PatchRec.portTalker_eq_some.mp talker) (none t)
      · cases partner : (s.patch n).partner with
        | none => exact absurd partner taken
        | some d => cases src <;> rfl
      · rfl

theorem State.bidOnTalk_joins {s : State} {n : SlotId} {c : Console} {t : PortId} (style : (s.patch n).style = .mix)
    (talker : (s.patch n).talker = some (.port t)) (empty : (s.patch n).partner = none) :
    s.bidOnTalk n (.console c) = s.setPatch n { s.patch n with partner := some c } := by
  unfold State.bidOnTalk
  rw [style, PatchRec.portTalker_eq_some.mpr talker, empty]
  rfl

/-! ### Pre-emption, record by record (R79, R80) -/

theorem State.asked_talks (s : State) (p : PortId) : ((s.asked (.port p)).port p).state = .talker := by
  show ((s.updPort p (fun r => r.restInto .talker)).port p).state = _
  rw [State.updPort_port, if_pos rfl, PortRec.remask_state]; rfl

theorem State.asked_other {s : State} {src : Source} {q : PortId} (h : src ≠ .port q) : (s.asked src).port q = s.port q := by
  cases src with
  | console c => rfl
  | port p =>
    show (s.updPort p (fun r => r.restInto .talker)).port q = _
    rw [State.updPort_port, if_neg fun e => h (by rw [e])]

theorem State.preempt_asked (s : State) (n : SlotId) (p t : PortId) : ((s.preempt n (.port p) t).port p).state = .talker := by
  rw [State.preempt_eq, State.offerBoth_port, State.offerBoth_port]
  exact State.asked_talks _ _

theorem State.preempt_idles {s : State} {n : SlotId} {src : Source} {t : PortId} (talker : (s.patch n).talker = some (.port t))
    (other : src ≠ .port t) (talks : (s.port t).state = .talker) : ((s.preempt n src t).port t).state = .idle := by
  rw [State.preempt_eq, State.offerBoth_port, State.offerBoth_port, State.asked_other other, talker, State.setPatch_idleTalker,
    State.idleTalker_of_talker talks, State.setPatch_port, State.setPort_port_same]

theorem State.offered_offer {s : State} {c : Console} {e : Notice} : (s.offer c e).offered c e := by
  rw [State.offered, State.offer_notice, if_pos rfl]; exact NoticeUnit.offered_offer _ _

theorem State.offerBoth_offered (s : State) (e : Notice) (c : Console) : (s.offerBoth e).offered c e := by
  rw [State.offered, State.offerBoth_notice]; exact NoticeUnit.offered_offer _ _

theorem State.preempt_offers (s : State) (n : SlotId) (src : Source) (t : PortId) (c : Console) :
    (s.preempt n src t).offered c ⟨.preempted, portNumber t⟩ ∧ (s.preempt n src t).offered c ⟨.floorChange, slotNumber n⟩ := by
  rw [State.preempt_eq]
  exact ⟨State.offerBoth_offered _ _ _, (traffic_offerBoth (W := fun _ => True) _ _).offered (State.offerBoth_offered _ _ _)⟩

theorem State.preempt_record (s : State) (n : SlotId) (src : Source) (t : PortId) : (s.preempt n src t).patch n =
    { s.patch n with
      state := .talk, talker := some src
      partner := if (s.patch n).partner.map Source.console = some src then none else (s.patch n).partner
      bids := s.insertAhead (.port t) ((s.patch n).bids.erase src), hangLeft := 0, elapsed := 0
      limit := if isConsole src then none else some ((s.patch n).timeOutLimit * 1000) } := by
  rw [State.preempt_patch, if_pos rfl]; rfl

/-! ### A listed port whose emergency sets (R82) -/

/-- A port placed again leaves the rest of its list as it was. -/
theorem State.placedAgain_erase {s : State} {n : SlotId} {p : PortId} (nodup : (s.patch n).bids.Nodup) :
    (s.insertBid (.port p) ((s.patch n).bids.erase (.port p))).erase (.port p) = (s.patch n).bids.erase (.port p) := by
  have out : Source.port p ∉ (s.patch n).bids.erase (.port p) := fun h => (nodup.mem_erase_iff.mp h).1 rfl
  unfold State.insertBid
  rw [List.erase_append_right _ (fun h => out ((List.takeWhile_sublist _).subset h)), List.erase_cons_head, List.takeWhile_append_dropWhile]

theorem State.checkEmergency_preempts {s : State} {n : SlotId} {p t : PortId} (talk : (s.patch n).state = .talk)
    (style : (s.patch n).style = .preempt) (talker : (s.patch n).talker = some (.port t)) (outranks : s.outranks n (.port p) t = true) :
    s.checkEmergency n p = (s.preempt n (.port p) t).evalPatch n := by
  unfold State.checkEmergency
  rw [style, PatchRec.portTalker_eq_some.mpr talker]
  exact if_pos (by rw [talk, outranks]; rfl)

/-- The talker of a patch is left as it stands by the keying unit (R97). -/
theorem State.evalPatch_talker {s : State} {n : SlotId} {p : PortId} (talker : (s.patch n).talker = some (.port p))
    (talks : (s.port p).state = .talker) : (s.evalPatch n).port p = s.port p := by
  have leave : s.keyDecision n p = .leave := by
    rw [State.keyDecision_of_out (by rw [PortRec.inRelaySet, talks])]
    exact if_neg fun e => (State.eligible_iff.mp e).2.2.1 talker
  unfold State.evalPatch
  rw [foldl_applyKey_port, leave, ite_eq_right_iff]
  exact fun _ => rfl

/-! ### SET_PATCH, stage by stage (R61, R62) -/

/-- The settings stored, and what a change of mode and of style makes of the traffic. -/
def State.patchStored (s : State) (n : SlotId) (sel : PatchSelection) : State :=
  ((s.setPatch n ((s.patch n).store sel)).modeChanges n (s.patch n).mode).styleChanges n (s.patch n).style

theorem exec_setPatch {s : State} {c : Console} {n : SlotId} {sel : PatchSelection} (ready : s.readyFor c)
    (checks : firstRefusal ((s.heard c).setPatchChecks c n sel) = none) {u : State} (hu : ((s.heard c).patchStored n sel).settle = u) :
    exec (.setPatch c (slotNumber n) sel) s = .next (u.replied c
      (okOrClamped (PatchSelection.clamped sel) (u.patchList [n] ++ (u.patch n).settingsBlock))) := by
  refine exec_of_ready (q := .setPatch (slotNumber n) sel) rfl ready ?_
  show doSetPatch c (slotNumber n) sel (s.heard c) = _
  unfold doSetPatch
  rw [State.onPatch_slotNumber, State.checked_pass checks, ← hu]
  rfl

/-- The checks of SET_PATCH, where the selection is admitted, on a patch in use that the console may edit. -/
theorem setPatchChecks_none {s : State} {c : Console} {n : SlotId} {sel : PatchSelection} (used : (s.patch n).state ≠ .unused)
    (edits : (s.patch n).owner = some c ∨ (s.patch n).shared = true) (mode : outside modeOf? sel.mode = false)
    (style : outside styleOf? sel.style = false) (label : sel.label.any (fun l => !labelAdmitted l) = false) :
    firstRefusal (s.setPatchChecks c n sel) = none := by
  obtain ⟨inUse, mine⟩ := State.inUse_checks used edits
  simp [State.setPatchChecks, inUse, mine, mode, style, label]

theorem State.modeChanges_same {s : State} {n : SlotId} {old : PatchMode} (h : (s.patch n).mode = old) : s.modeChanges n old = s := if_pos h

theorem State.styleChanges_vacates {s : State} {n : SlotId} {d : Console} (style : (s.patch n).style = .preempt)
    (partner : (s.patch n).partner = some d) : s.styleChanges n .mix =
      if (s.patch n).state = .talk then ((s.setPatch n { s.patch n with partner := none }).takeBid n (.console d)).evalPatch n
      else s.setPatch n { s.patch n with partner := none } := by
  unfold State.styleChanges
  rw [style, partner]
  rfl

/-- A bid that raises nothing, and the evaluation after it, which raises nothing either. -/
theorem State.takeBid_evaluated {s : State} {n : SlotId} {src : Source} (hsrc : ∀ p, src = .port p → (s.port p).masked = false)
    (out : (s.patch n).talker ≠ some src) (quiet : s.keyedQuietly n) (none : s.raised = []) :
    ((s.takeBid n src).evalPatch n).settle.patch n = (s.takeBid n src).patch n ∧
      ∀ c e, (s.takeBid n src).offered c e → ((s.takeBid n src).evalPatch n).settle.offered c e := by
  obtain ⟨raised, ports⟩ := State.takeBid_ports hsrc out
  have eval := State.evalPatch_quiet (State.takeBid_quietly ports quiet)
  rw [State.settle_of_none (eval.raised.trans (raised.trans none))]
  exact ⟨eval.patch n, fun c e h => (traffic_evalPatch (W := fun _ => True) _ n).offered h⟩

/-- Settles O50. -/
theorem higherBidsPreempt : Obligations.HigherBidsPreempt := by
  unfold Obligations.HigherBidsPreempt
  refine ⟨fun s n src talk style => ⟨fun t talker other => ⟨fun reaches above => ?_, fun lower => ?_⟩, fun c talker => ?_⟩,
    ?_,
    fun s n talk style => ⟨fun c t talker empty => ?_, fun src alone => ?_⟩,
    ?_⟩
  · have taken : s.takeBid n src = s.preempt n src t := (State.takeBid_onTalk talk).trans
      (State.bidOnTalk_preempts style talker ((State.outranks_iff _ _ _ _).mpr ⟨reaches, above⟩))
    have record := State.preempt_record s n src t
    rw [taken, record]
    refine ⟨rfl, rfl, rfl, rfl, State.preempt_idles talker other, fun p e => ?_, State.preempt_offers s n src t⟩
    subst e; exact State.preempt_asked s n p t
  · rw [State.takeBid_onTalk talk, State.bidOnTalk_lists (.inl ⟨style, fun x hx => ?_⟩)]
    obtain rfl : x = t := by rw [talker] at hx; cases hx; rfl
    refine Bool.eq_false_iff.mpr fun up => ?_
    obtain ⟨reaches, above⟩ := (State.outranks_iff _ _ _ _).mp up
    have mine : s.priority (.port x) = (s.port x).priority := rfl
    omega
  · rw [State.takeBid_onTalk talk, State.bidOnTalk_lists (.inl ⟨style, fun x hx => ?_⟩)]
    rw [talker] at hx; cases hx
  · intro s n p t talk style home listed nodup talker other reaches above u
    have placed : (s.placedAgain n p).patch n = { s.patch n with bids := s.insertBid (.port p) ((s.patch n).bids.erase (.port p)) } :=
      State.setPatch_patch_same ..
    have checked : u = ((s.placedAgain n p).preempt n (.port p) t).evalPatch n := by
      refine (State.priorityChanged_listed home listed true).trans ((if_pos rfl).trans ?_)
      refine State.checkEmergency_preempts (by rw [placed]; exact talk) (by rw [placed]; exact style) (by rw [placed]; exact talker) ?_
      exact (State.outranks_iff _ _ _ _).mpr ⟨by rw [placed]; exact reaches, above⟩
    have record := State.preempt_record (s.placedAgain n p) n (.port p) t
    rw [placed] at record
    have talks := State.preempt_asked (s.placedAgain n p) n p t
    refine ⟨?_, ?_, fun c => ?_⟩
    · rw [checked, show ∀ v : State, (v.evalPatch n).patch n = v.patch n from fun v => foldl_applyKey_patch _ _ _ _, record]
      dsimp only
      rw [State.placedAgain_erase nodup, if_neg (by cases (s.patch n).partner <;> nofun), talk]
      rfl
    · rw [checked, State.evalPatch_talker (by rw [record]) talks]; exact talks
    · rw [checked]
      exact (State.preempt_offers _ _ _ _ c).imp (traffic_evalPatch (W := fun _ => True) _ n).offered
        (traffic_evalPatch (W := fun _ => True) _ n).offered
  · rw [State.takeBid_onTalk talk, State.bidOnTalk_joins style talker empty]
  · rw [State.takeBid_onTalk talk, State.bidOnTalk_lists (.inr ⟨style, alone⟩)]
  · intro s c d n ready calm quiet edits style partner P answered
    let h := s.heard c
    let vacated := h.setPatch n { P with style := .preempt, partner := none }
    have here : vacated.patch n = { P with style := .preempt, partner := none } := State.setPatch_patch_same ..
    have answers (used : P.state ≠ .unused) {u : State} (hu : (if P.state = .talk then (vacated.takeBid n (.console d)).evalPatch n else vacated).settle = u) :
        answered u := by
      refine (exec_setPatch ready (setPatchChecks_none (s := h) used edits rfl rfl rfl) ?_).trans rfl
      refine (congrArg State.settle ?_).trans hu
      have stored : (h.patch n).store { noPatchItem with style := some 0 } = { P with style := .preempt } := rfl
      have now : (h.setPatch n { P with style := .preempt }).patch n = { P with style := .preempt } := State.setPatch_patch_same ..
      unfold State.patchStored
      rw [stored, State.modeChanges_same (by rw [now]; rfl), show (h.patch n).style = .mix from style,
        State.styleChanges_vacates (d := d) (by rw [now]) (by rw [now]; exact partner), now, State.setPatch_setPatch]
    have evaluated (talker : ∃ t, P.talker = some (.port t)) := State.takeBid_evaluated (s := vacated) (n := n) (src := .console d) nofun
      (by obtain ⟨t, talker⟩ := talker; rw [here]; show P.talker ≠ _; rw [talker]; nofun) (fun q hq hr => quiet q (by rw [here] at hq; exact hq) hr) calm
    refine ⟨fun t talk talker => ?_, fun closing => answers (by rw [closing]; nofun) ?_⟩
    · obtain ⟨patch, offered⟩ := evaluated ⟨t, talker⟩
      have bids : vacated.takeBid n (.console d) = vacated.bidOnTalk n (.console d) := State.takeBid_onTalk (by rw [here]; exact talk)
      refine ⟨fun reaches above => ⟨_, answers (by rw [talk]; nofun) rfl, ?_⟩, fun high => ⟨_, answers (by rw [talk]; nofun) rfl, ?_⟩⟩ <;> rw [if_pos talk]
      · rw [State.bidOnTalk_preempts (by rw [here]) (by rw [here]; exact talker)
          ((State.outranks_iff vacated n (.console d) t).mpr ⟨by rw [here]; exact reaches, above⟩)] at bids
        rw [bids] at patch offered
        rw [bids, patch, State.preempt_record, here]
        refine ⟨?_, fun e => (State.preempt_offers _ _ _ _ e).imp (offered e _) (offered e _)⟩
        dsimp only
        rw [if_neg (by nofun), talk]
        rfl
      · rw [State.bidOnTalk_lists (.inl ⟨by rw [here], fun x _ => Bool.eq_false_iff.mpr fun up => ?_⟩)] at bids
        · rw [patch, bids, here, State.setPatch_patch_same]; rfl
        · obtain ⟨reaches, -⟩ := (State.outranks_iff _ _ _ _).mp up
          rw [here] at reaches
          exact absurd (show P.threshold ≤ 9 from reaches) (by omega)
    · rw [if_neg (by rw [closing]; nofun)]
      exact State.settle_of_none (s := vacated) calm

end Sys2Proof.Machine

/-! Commands refused: nothing but the answer, and the tables of the patch commands, row by row (R45, R49 to R63, R168, R172). -/

namespace Sys2Proof.Machine

/-! ### A refusal leaves the records (R168) -/

/-- A command's outcome x from s: answered OK or CLAMPED, or s as it was. -/
def refusalKeeps (s : State) (x : State × Response) : Prop := x.2.status = .ok ∨ x.2.status = .clamped ∨ x.1 = s

theorem refusalKeeps_answers (s t : State) (r : List Byte) : refusalKeeps s (t, ok r) := .inl rfl

theorem refusalKeeps_stays (s : State) (r : Response) : refusalKeeps s (s, r) := .inr (.inr rfl)

theorem refusalKeeps_clamps (s t : State) (b : Bool) (r : List Byte) : refusalKeeps s (t, okOrClamped b r) := by
  cases b
  · exact .inl rfl
  · exact .inr (.inl rfl)

variable {s : State} {r : Response}

theorem refusalKeeps_checked {checks : List (Option Response)} {act : State → State × Response} (h : refusalKeeps s (act s)) :
    refusalKeeps s (s.checked checks act) := by
  unfold State.checked
  split
  · exact refusalKeeps_stays _ _
  · exact h

theorem refusalKeeps_onPort {k : Nat} {act : PortId → State × Response} (h : ∀ p, refusalKeeps s (act p)) : refusalKeeps s (s.onPort k r act) := by
  unfold State.onPort
  split
  · exact h _
  · exact refusalKeeps_stays _ _

theorem refusalKeeps_onPatch {k : Nat} {act : SlotId → State × Response} (h : ∀ n, refusalKeeps s (act n)) :
    refusalKeeps s (s.onPatch k r act) := by
  unfold State.onPatch
  split
  · exact h _
  · exact refusalKeeps_stays _ _

theorem refusalKeeps_runRequest (c : Console) (q : Request) (s : State) : refusalKeeps s (runRequest c q s) := by
  have answered (t : State) (r : List Byte) := refusalKeeps_answers s t r
  have clamped (t : State) (b : Bool) (r : List Byte) := refusalKeeps_clamps s t b r
  have stays (r : Response) := refusalKeeps_stays s r
  cases q with
  | queryUnit => exact answered _ _
  | restart =>
    show refusalKeeps s (doRestart c s)
    unfold doRestart
    split
    · exact stays _
    · exact answered _ _
  | setLink t m => exact clamped _ _ _
  | readNotice => exact answered _ _
  | setPort p sel => exact refusalKeeps_onPort fun p => refusalKeeps_checked (clamped _ _ _)
  | queryPort p => exact refusalKeeps_onPort fun p => answered _ _
  | clearPortConditions p sel => exact refusalKeeps_onPort fun p => answered _ _
  | reservePort p =>
    refine refusalKeeps_onPort fun p => ?_
    split
    · exact stays _
    · split
      · exact stays _
      · split
        · exact stays _
        · exact answered _ _
  | releasePort p =>
    refine refusalKeeps_onPort fun p => ?_
    split
    · exact stays _
    · split
      · exact answered _ _
      · exact stays _
  | createPatch n l ps =>
    refine refusalKeeps_checked ?_
    split
    · exact answered _ _
    · exact stays _
  | addMembers n ps => exact refusalKeeps_onPatch fun n => refusalKeeps_checked (answered _ _)
  | removeMembers n ps => exact refusalKeeps_onPatch fun n => refusalKeeps_checked (answered _ _)
  | moveMember p n =>
    refine refusalKeeps_onPort fun p => refusalKeeps_onPatch fun n => ?_
    split
    · exact stays _
    · exact refusalKeeps_checked (answered _ _)
  | mergePatches a b => exact refusalKeeps_onPatch fun a => refusalKeeps_onPatch fun b => refusalKeeps_checked (answered _ _)
  | setPatch n sel => exact refusalKeeps_onPatch fun n => refusalKeeps_checked (clamped _ _ _)
  | dissolve n k => exact refusalKeeps_onPatch fun n => refusalKeeps_checked (answered _ _)
  | queryPatch n => exact refusalKeeps_onPatch fun n => refusalKeeps_checked (answered _ _)
  | listPatches => exact answered _ _
  | setSharing n v => exact refusalKeeps_onPatch fun n => refusalKeeps_checked (answered _ _)
  | takeOver n => exact refusalKeeps_onPatch fun n => refusalKeeps_checked (answered _ _)
  | setConsole m t => exact clamped _ _ _
  | setListen es => exact refusalKeeps_checked (clamped _ _ _)
  | setTalkTarget k n =>
    show refusalKeeps s (doSetTalkTarget c k n s)
    unfold doSetTalkTarget
    split
    · exact stays _
    · exact answered _ _
  | seize => exact answered _ _
  | unseize => exact answered _ _

/-! ### The rows of the check tables (R34, R45) -/

theorem outOfRange_or_portNumber (k : Nat) : (k = 0 ∨ 16 < k) ∨ ∃ p, k = portNumber p := by
  by_cases h : k = 0 ∨ 16 < k
  · exact .inl h
  · exact .inr ⟨⟨k - 1, by omega⟩, by simp only [portNumber]; omega⟩

theorem portNumber_inRange (p : PortId) : 0 < portNumber p ∧ portNumber p ≤ 16 := ⟨Nat.succ_pos _, p.isLt⟩

theorem slotNumber_inRange (n : SlotId) : 0 < slotNumber n ∧ slotNumber n ≤ 12 := ⟨Nat.succ_pos _, n.isLt⟩

theorem portNumber_injective {p q : PortId} (h : portNumber p = portNumber q) : p = q := Fin.ext (Nat.succ.inj h)

theorem portOf?_isNone (k : Nat) : (portOf? k).isNone = decide (k = 0 ∨ 16 < k) := by
  rcases outOfRange_or_portNumber k with h | ⟨p, rfl⟩
  · simp [portOf?_outOfRange h, h]
  · obtain ⟨pos, le⟩ := portNumber_inRange p
    rw [portOf?_portNumber]
    exact (decide_eq_false (by omega)).symm

/-- A check on the port that a number names. -/
theorem portOf?_any (k : Nat) (f : PortId → Bool) : (portOf? k).any f = decide (∃ p : PortId, k = portNumber p ∧ f p = true) := by
  rcases outOfRange_or_portNumber k with h | ⟨p, rfl⟩
  · rw [portOf?_outOfRange h]
    refine (decide_eq_false ?_).symm
    rintro ⟨p, rfl, -⟩
    obtain ⟨pos, le⟩ := portNumber_inRange p
    omega
  · rw [portOf?_portNumber, Option.any_some, Bool.eq_iff_iff, decide_eq_true_iff]
    exact ⟨fun h => ⟨p, rfl, h⟩, fun ⟨q, e, h⟩ => portNumber_injective e ▸ h⟩

theorem State.memberOf_eq (s : State) (n : SlotId) (k : Nat) :
    s.memberOf n k = decide (∃ p : PortId, k = portNumber p ∧ (s.port p).patch = some n) := by
  unfold State.memberOf
  rw [portOf?_any]
  simp only [beq_iff_eq]

theorem State.notInUse_row (s : State) (n : SlotId) :
    s.notInUse n = check (decide ((s.patch n).state = .unused)) (refusePatch .noSuchPatch (slotNumber n)) := by
  unfold State.notInUse
  congr 1
  rw [Bool.eq_iff_iff, PatchRec.not_inUse_iff, decide_eq_true_iff]

theorem State.notOwner_row (s : State) (c : Console) (n : SlotId) : s.notOwner c n =
    check (decide ((s.patch n).owner ≠ some c ∧ (s.patch n).shared = false)) (refusePatch .notOwner (slotNumber n)) := by
  unfold State.notOwner
  congr 1
  rw [Bool.eq_iff_iff, decide_eq_true_iff, Bool.not_eq_true', ← Bool.not_eq_true, PatchRec.mayEdit_iff, not_or, Bool.not_eq_true]

theorem State.isClosing_row (s : State) (n : SlotId) :
    s.isClosing n = check (decide ((s.patch n).state = .closing)) (refusePatch .patchClosing (slotNumber n)) := by
  unfold State.isClosing
  congr 1

theorem labelAdmitted_row (l : List Byte) : (!labelAdmitted l) = decide (8 < l.length ∨ ∃ b ∈ l, b.toNat < 0x20 ∨ 0x7E < b.toNat) := by
  unfold labelAdmitted
  rw [Bool.eq_iff_iff, decide_eq_true_iff, Bool.not_and, Bool.or_eq_true, Bool.not_eq_true', decide_eq_false_iff_not, Bool.not_eq_true',
    List.all_eq_false, Nat.not_le]
  refine or_congr_right ⟨fun ⟨b, hb, h⟩ => ⟨b, hb, ?_⟩, fun ⟨b, hb, h⟩ => ⟨b, hb, ?_⟩⟩
  · simp only [Bool.and_eq_true, decide_eq_true_eq] at h; omega
  · simp only [Bool.and_eq_true, decide_eq_true_eq]; omega

theorem firstNoPort_row (ks : List Nat) : firstNoPort ks = ks.find? (fun k => decide (k = 0 ∨ 16 < k)) := by
  unfold firstNoPort
  rw [funext portOf?_isNone]

theorem State.firstInUse_row (s : State) (ks : List Nat) : firstPort ks (fun p => (s.port p).patch.isSome) =
    ks.find? (fun k => decide (∃ p : PortId, k = portNumber p ∧ (s.port p).patch ≠ none)) := by
  unfold firstPort
  simp only [portOf?_any, Option.isSome_iff_ne_none]

theorem outside_row {α : Type} {code? : Nat → Option α} {limit : Nat} (h : ∀ v, (code? v).isNone = decide (limit < v)) (sel : Option Nat) :
    outside code? sel = sel.any (fun v => decide (limit < v)) := by
  unfold outside; rw [funext h]

theorem modeOf?_isNone (v : Nat) : (modeOf? v).isNone = decide (1 < v) := by
  rcases v with _ | _ | v
  · rfl
  · rfl
  · exact (decide_eq_true (by omega)).symm

theorem styleOf?_isNone (v : Nat) : (styleOf? v).isNone = decide (1 < v) := by
  rcases v with _ | _ | v
  · rfl
  · rfl
  · exact (decide_eq_true (by omega)).symm

theorem firstRefusal_none_end (l : List (Option Response)) : firstRefusal (l ++ [none]) = firstRefusal l := by
  simp [firstRefusal, List.findSome?_append]

/-- A command that its table refuses. -/
theorem exec_refused {s : State} {c : Console} {i : Instr} {q : Request} {r : Response} (hi : i.request? = some (c, q)) (ready : s.readyFor c)
    (h : runRequest c q (s.heard c) = (s.heard c, r)) : exec i s = .next ((s.heard c).replied c r) := exec_of_ready hi ready h

/-- The slot that CREATE_PATCH names, or the lowest free one for 0, is missing exactly where its rows of the table say so (R49). -/
theorem State.freeSlot_zero (s : State) : (s.freeSlot 0).isNone = decide (∀ n, (s.patch n).state ≠ .unused) := by
  unfold State.freeSlot
  rw [if_pos rfl, Bool.eq_iff_iff, decide_eq_true_iff, Option.isNone_iff_eq_none, List.find?_eq_none]
  exact ⟨fun h n e => h n (mem_allSlots n) ((PatchRec.not_inUse_iff _).mpr e), fun h n _ e => h n ((PatchRec.not_inUse_iff _).mp e)⟩

theorem State.freeSlot_named (s : State) (n : SlotId) : (s.freeSlot (slotNumber n)).isNone = decide ((s.patch n).state ≠ .unused) := by
  unfold State.freeSlot
  rw [if_neg (show slotNumber n ≠ 0 from Nat.succ_ne_zero _), slotOf?_slotNumber]
  by_cases free : (s.patch n).state = .unused
  · rw [Option.filter_some, if_pos ((PatchRec.not_inUse_iff _).mpr free), decide_eq_false (by simp [free])]; rfl
  · rw [Option.filter_some, if_neg (by simpa [PatchRec.not_inUse_iff] using free), decide_eq_true free]; rfl

theorem createChecks_rows {s : State} {slot : Nat} (label : List Byte) (ks : List Nat) (low : slot ≤ 12) :
    s.createChecks slot label ks = [(decide (12 < slot), refusePatch .badArgument slot),
      (decide (8 < label.length ∨ ∃ b ∈ label, b.toNat < 0x20 ∨ 0x7E < b.toNat), refuse .badArgument),
      ((ks.find? (fun k => decide (k = 0 ∨ 16 < k))).isSome, refusePort .badArgument ((ks.find? (fun k => decide (k = 0 ∨ 16 < k))).getD 0)),
      (decide (16 < ks.length), refuse .patchFull),
      ((ks.find? (fun k => decide (1 < ks.count k))).isSome, refusePort .badArgument ((ks.find? (fun k => decide (1 < ks.count k))).getD 0)),
      (decide (slot = 0 ∧ ∀ n, (s.patch n).state ≠ .unused), refuse .tableFull),
      (decide (∃ n, slot = slotNumber n ∧ (s.patch n).state ≠ .unused), refusePatch .tableFull slot),
      ((ks.find? (fun k => decide (∃ p : PortId, k = portNumber p ∧ (s.port p).patch ≠ none))).isSome, refusePort .portInUse
        ((ks.find? (fun k => decide (∃ p : PortId, k = portNumber p ∧ (s.port p).patch ≠ none))).getD 0))].map (fun x => check x.1 x.2) := by
  have lowest : (slot == 0 && (s.freeSlot 0).isNone) = decide (slot = 0 ∧ ∀ n, (s.patch n).state ≠ .unused) := by
    rw [State.freeSlot_zero, Bool.decide_and]; rfl
  have named : (slot != 0 && (s.freeSlot slot).isNone) = decide (∃ n, slot = slotNumber n ∧ (s.patch n).state ≠ .unused) := by
    rcases outOfRange_or_slotNumber slot with h | ⟨n, rfl⟩
    · obtain rfl : slot = 0 := by omega
      exact (decide_eq_false (by rintro ⟨n, e, -⟩; exact Nat.succ_ne_zero _ e.symm)).symm
    · rw [State.freeSlot_named, Bool.eq_iff_iff, decide_eq_true_iff, Bool.and_eq_true, decide_eq_true_iff]
      exact ⟨fun h => ⟨n, rfl, h.2⟩, fun ⟨m, e, h⟩ => ⟨by simp [slotNumber], slotNumber_injective e ▸ h⟩⟩
  unfold State.createChecks
  rw [lowest, named, labelAdmitted_row, firstNoPort_row, State.firstInUse_row]
  simp only [map_refusal_eq_check]
  rfl

/-- Settles O48. -/
theorem refusedCommandsChangeNothing : Obligations.RefusedCommandsChangeNothing := by
  unfold Obligations.RefusedCommandsChangeNothing
  refine ⟨fun i c q s hi ready notOk notClamped => ?_, ?_⟩
  · have keeps := ((refusalKeeps_runRequest c q (s.heard c)).resolve_left notOk).resolve_left notClamped
    exact exec_refused hi ready (Prod.ext keeps rfl)
  intro s c ks label r ready refused nothing port patch noSlot free closing barred badLabel noPort twice oddPort member
  let h := s.heard c
  have outside (k : Nat) (hk : noSlot k = true) (act : SlotId → State × Response) : h.onPatch k (refusePatch .badArgument k) act = (h, patch .badArgument k) :=
    State.onPatch_outOfRange (of_decide_eq_true hk) _ _ _
  have onPatch (n : SlotId) {x : Response} {checks : SlotId → List (Option Response)} {act : SlotId → State → State × Response}
      (row : firstRefusal (checks n) = some r) : h.onPatch (slotNumber n) x (fun n => h.checked (checks n) (act n)) = (h, r) := by
    rw [State.onPatch_slotNumber]; exact State.checked_refused row
  refine ⟨fun slot row => ?_, fun k hk hr => ?_, ?_, fun j d => ⟨fun hj hr => ?_, fun pos le hd hr => ?_⟩,
    fun p d => ⟨fun none hr => ?_, fun n hn row => ?_⟩, fun j k row => ?_, fun a b row => ?_⟩
  · refine exec_refused (q := .createPatch slot label ks) rfl ready (show doCreatePatch c slot label ks h = (h, r) from State.checked_refused ?_)
    by_cases low : slot ≤ 12
    · exact firstRefusal_of_row row (createChecks_rows label ks low)
    · have high : decide (12 < slot) = true := decide_eq_true (by omega)
      rw [high] at row
      unfold State.createChecks
      rw [high]
      exact row
  · subst hr
    exact ⟨exec_refused (q := .addMembers k ks) rfl ready (outside k hk _), exec_refused (q := .removeMembers k ks) rfl ready (outside k hk _),
      fun sel => exec_refused (q := .setPatch k sel) rfl ready (outside k hk _), exec_refused (q := .dissolve k 0) rfl ready (outside k hk _),
      exec_refused (q := .dissolve k 1) rfl ready (outside k hk _)⟩
  · intro n k outsider again
    refine ⟨fun row => ?_, fun row => ?_, fun sel row => ?_, fun row => ?_, fun row => ?_⟩
    · refine exec_refused (q := .addMembers (slotNumber n) ks) rfl ready
        (onPatch n (checks := fun n => h.addChecks c n ks) (firstRefusal_of_row row ?_))
      have twice : (fun j => decide (1 < ks.count j) || h.memberOf n j) =
          fun j => decide (1 < ks.count j ∨ ∃ p : PortId, j = portNumber p ∧ (s.port p).patch = some n) :=
        funext fun j => by rw [State.memberOf_eq, Bool.decide_or]; rfl
      unfold State.addChecks
      rw [twice, firstNoPort_row, State.notInUse_row, State.notOwner_row, State.isClosing_row, State.firstInUse_row]
      simp only [map_refusal_eq_check]
      rfl
    · refine exec_refused (q := .removeMembers (slotNumber n) ks) rfl ready
        (onPatch n (checks := fun n => h.removeChecks c n ks) (firstRefusal_of_row row ?_))
      have odd : (fun j => (portOf? j).isNone || decide (1 < ks.count j)) = fun j => decide (j = 0 ∨ 16 < j ∨ 1 < ks.count j) :=
        funext fun j => by rw [portOf?_isNone, ← Bool.decide_or]; exact decide_eq_decide.mpr or_assoc
      have outside : (fun j => !h.memberOf n j) = fun j => decide (∀ p : PortId, j = portNumber p → (s.port p).patch ≠ some n) :=
        funext fun j => by
          rw [State.memberOf_eq, ← decide_not]
          exact decide_eq_decide.mpr ⟨fun e p hj home => e ⟨p, hj, home⟩, fun e ⟨p, hj, home⟩ => e p hj home⟩
      unfold State.removeChecks
      rw [odd, outside, State.notInUse_row, State.notOwner_row]
      simp only [map_refusal_eq_check]
      rfl
    · refine exec_refused (q := .setPatch (slotNumber n) sel) rfl ready
        (onPatch n (checks := fun n => h.setPatchChecks c n sel) (firstRefusal_of_row row ?_))
      unfold State.setPatchChecks
      rw [funext labelAdmitted_row, State.notInUse_row, State.notOwner_row, outside_row modeOf?_isNone, outside_row styleOf?_isNone]
      rfl
    · refine exec_refused (q := .dissolve (slotNumber n) 0) rfl ready (onPatch n (checks := fun n => h.dissolveChecks c n 0) ?_)
      refine (firstRefusal_none_end [h.notInUse n, h.notOwner c n]).trans (firstRefusal_of_row row ?_)
      rw [State.notInUse_row, State.notOwner_row]; rfl
    · refine exec_refused (q := .dissolve (slotNumber n) 1) rfl ready (onPatch n (checks := fun n => h.dissolveChecks c n 1) ?_)
      refine firstRefusal_of_row (checks := [h.notInUse n, h.notOwner c n, h.isClosing n]) row ?_
      rw [State.notInUse_row, State.notOwner_row, State.isClosing_row]; rfl
  · subst hr
    exact exec_refused (q := .moveMember j d) rfl ready (State.onPort_outOfRange hj _ _ _)
  · subst hr
    obtain ⟨p, rfl⟩ := (outOfRange_or_portNumber j).resolve_left (by omega)
    exact exec_refused (q := .moveMember (portNumber p) d) rfl ready ((State.onPort_portNumber _ _ _ _).trans (outside d hd _))
  · subst hr
    refine exec_refused (q := .moveMember (portNumber p) (slotNumber d)) rfl ready
      ((State.onPort_portNumber _ _ _ _).trans ((State.onPatch_slotNumber _ _ _ _).trans ?_))
    rw [show (h.port p).patch = Option.none from none]
    rfl
  · refine exec_refused (q := .moveMember (portNumber p) (slotNumber d)) rfl ready
      ((State.onPort_portNumber _ _ _ _).trans ((State.onPatch_slotNumber _ _ _ _).trans ?_))
    rw [show (h.port p).patch = some n from hn]
    refine State.checked_refused (s := h) (firstRefusal_of_row row ?_)
    unfold State.moveChecks
    rw [State.notInUse_row, State.notOwner_row, State.notOwner_row, State.isClosing_row]
    rfl
  · refine exec_refused (q := .mergePatches j k) rfl ready ?_
    show h.onPatch j (refusePatch .badArgument j) _ = _
    rcases outOfRange_or_slotNumber j with hj | ⟨a, rfl⟩
    · rw [show noSlot j = true from decide_eq_true hj] at row
      exact (State.onPatch_outOfRange hj _ _ _).trans (congrArg (h, ·) (Option.some.inj row))
    · rw [State.onPatch_slotNumber]
      obtain ⟨pos, le⟩ := slotNumber_inRange a
      rw [show noSlot (slotNumber a) = false from decide_eq_false (by omega)] at row
      rcases outOfRange_or_slotNumber k with hk | ⟨b, rfl⟩
      · rw [show noSlot k = true from decide_eq_true hk] at row
        exact (State.onPatch_outOfRange hk _ _ _).trans (congrArg (h, ·) (Option.some.inj row))
      · obtain ⟨pos, le⟩ := slotNumber_inRange b
        rw [show noSlot (slotNumber b) = false from decide_eq_false (by omega)] at row
        cases row
  · refine exec_refused (q := .mergePatches (slotNumber a) (slotNumber b)) rfl ready ((State.onPatch_slotNumber _ _ _ _).trans ?_)
    refine onPatch b (checks := fun b => h.mergeChecks c a b) (firstRefusal_of_row row ?_)
    unfold State.mergeChecks
    rw [State.notInUse_row, State.notInUse_row, State.notOwner_row, State.notOwner_row, State.isClosing_row, State.isClosing_row]
    have equal : (a == b) = decide (a = b) := rfl
    have both : ((h.patch a).talker.isSome && (h.patch b).talker.isSome) =
        decide ((s.patch a).talker.isSome = true ∧ (s.patch b).talker.isSome = true) := by rw [Bool.decide_and, Bool.decide_eq_true, Bool.decide_eq_true]; rfl
    rw [equal, both]
    rfl

end Sys2Proof.Machine

/-! SET_PORT: what it stores and leaves, a change of kind, and its refusals (R20 to R22, R106, R113). -/

namespace Sys2Proof.Machine

/-! ### What an action on port p leaves of its record, and of the rest -/

/-- The settings, the conditions of a clearing, the reservation and the pins stay; the patch stays, or the port leaves it. -/
structure PortRec.Steady (r r' : PortRec) : Prop where
  cfg : r'.cfg = r.cfg
  fault : r'.fault = r.fault
  lockoutLeft : r'.lockoutLeft = r.lockoutLeft
  reservedBy : r'.reservedBy = r.reservedBy
  corPin : r'.corPin = r.corPin
  emgPin : r'.emgPin = r.emgPin
  txsPin : r'.txsPin = r.txsPin
  patch : r'.patch = r.patch ∨ r'.patch = none

theorem PortRec.Steady.refl (r : PortRec) : r.Steady r := ⟨rfl, rfl, rfl, rfl, rfl, rfl, rfl, .inl rfl⟩

theorem PortRec.Steady.trans {a b c : PortRec} (h : a.Steady b) (k : b.Steady c) : a.Steady c where
  cfg := k.cfg.trans h.cfg
  fault := k.fault.trans h.fault
  lockoutLeft := k.lockoutLeft.trans h.lockoutLeft
  reservedBy := k.reservedBy.trans h.reservedBy
  corPin := k.corPin.trans h.corPin
  emgPin := k.emgPin.trans h.emgPin
  txsPin := k.txsPin.trans h.txsPin
  patch := by
    rcases k.patch with e | e
    · rw [e]; exact h.patch
    · exact .inr e

theorem PortRec.Steady.of_fixed {r r' : PortRec} (h : r'.fixedPart = r.fixedPart) (patch : r'.patch = r.patch ∨ r'.patch = none) : r.Steady r' :=
  ⟨(congrArg PortRec.cfg h :), (congrArg PortRec.fault h :), (congrArg PortRec.lockoutLeft h :), (congrArg PortRec.reservedBy h :),
    (congrArg PortRec.corPin h :), (congrArg PortRec.emgPin h :), (congrArg PortRec.txsPin h :), patch⟩

theorem PortRec.corAsserts_patch (r : PortRec) : r.corAsserts.1.patch = r.patch := by
  unfold PortRec.corAsserts
  split
  · split <;> rfl
  · rfl
  · rfl
  · rfl

theorem PortRec.corDeasserts_patch (r : PortRec) : r.corDeasserts.1.patch = r.patch := by rw [PortRec.corDeasserts_frame]

theorem PortRec.steady_conditionCor (r : PortRec) (old : Bool) : r.Steady (r.conditionCor old).1 := by
  have taken (v : Bool) (h : Nat) : r.Steady { r with filteredCor := v, corHold := h } := ⟨rfl, rfl, rfl, rfl, rfl, rfl, rfl, .inl rfl⟩
  unfold PortRec.conditionCor
  split
  · exact ⟨rfl, rfl, rfl, rfl, rfl, rfl, rfl, .inl rfl⟩
  · unfold PortRec.takeFilteredCor
    dsimp only
    split
    · exact taken _ _
    · split
      · exact (taken _ _).trans (.of_fixed (PortRec.corAsserts_fixed _) (.inl (PortRec.corAsserts_patch _)))
      · exact (taken _ _).trans (.of_fixed (PortRec.corDeasserts_fixed _) (.inl (PortRec.corDeasserts_patch _)))

/-- What is kept from s to t is kept with one port's record written in both. -/
theorem Kept.setPort {s t : State} (h : Kept [] [] s t) (p : PortId) (x : PortRec) : Kept [] [] (s.setPort p x) (t.setPort p x) where
  ports q := by
    rw [State.setPort_port, State.setPort_port]
    split
    · rfl
    · exact h.ports q
  portPatch q hq := by
    rw [State.setPort_port, State.setPort_port]
    split
    · exact .inl rfl
    · exact h.portPatch q hq
  patches := h.patches
  consoles := h.consoles
  links := h.links
  masks := h.masks
  entries := h.entries
  rest := h.rest
  mask q m := by
    rw [State.setPort_port] at m ⊢
    split
    · rename_i e; rwa [if_pos e] at m
    · rename_i e; rw [if_neg e] at m; exact h.mask q m
  notices := h.notices

/-- From s to t port p is written, and the rest is kept. -/
abbrev keptBut (p : PortId) (s t : State) : Prop := Kept [] [] (s.setPort p (t.port p)) t

theorem keptBut.trans {p : PortId} {s t u : State} (h : keptBut p s t) (k : keptBut p t u) : keptBut p s u := by
  have first := h.setPort p (u.port p)
  rw [State.setPort_setPort] at first
  exact first.trans k

theorem keptBut.of_kept {p : PortId} {s t : State} (h : Kept [] [] s t) : keptBut p s t := by
  have first := h.setPort p (t.port p)
  rwa [State.setPort_self] at first

theorem keptBut_written (s : State) (p : PortId) (x : PortRec) (l : List CarrierEvent) : keptBut p s { s.setPort p x with raised := l } := by
  have port : ({ s.setPort p x with raised := l } : State).port p = x := State.setPort_port_same s p x
  rw [keptBut, port]
  exact kept_raised _ _

theorem keptBut_writePort (s : State) (p : PortId) (rn : PortRec × List CarrierNews) : keptBut p s (s.writePort p rn) :=
  keptBut_written s p rn.1 _

theorem keptBut_updPort (s : State) (p : PortId) (f : PortRec → PortRec) : keptBut p s (s.updPort p f) := by
  rcases s.updPort_cases p f with h | ⟨-, h⟩ <;> rw [h]
  · exact keptBut_writePort _ _ _
  · exact keptBut_written _ _ _ _

/-- Port p is written steadily, and the rest is kept. -/
structure Resettled (p : PortId) (s t : State) : Prop where
  others : keptBut p s t
  port : (s.port p).Steady (t.port p)

namespace Resettled

variable {p : PortId} {s t u : State}

theorem refl (p : PortId) (s : State) : Resettled p s s := ⟨.of_kept (Kept.refl s), .refl _⟩

theorem trans (h : Resettled p s t) (k : Resettled p t u) : Resettled p s u := ⟨h.others.trans k.others, h.port.trans k.port⟩

theorem of_kept (h : Kept [] [] s t) : Resettled p s t :=
  ⟨.of_kept h, .of_fixed (h.ports p) (h.portPatch p List.not_mem_nil)⟩

theorem updPort {f : PortRec → PortRec} (h : (s.port p).Steady (f (s.port p))) : Resettled p s (s.updPort p f) := by
  refine ⟨keptBut_updPort _ _ _, h.trans ?_⟩
  rw [State.updPort_port, if_pos rfl]
  exact .of_fixed (PortRec.remask_fixed _ _) (.inl (PortRec.remask_patch _ _))

theorem writePort {rn : PortRec × List CarrierNews} (h : (s.port p).Steady rn.1) : Resettled p s (s.writePort p rn) := by
  refine ⟨keptBut_writePort _ _ _, ?_⟩
  rw [State.writePort_port, if_pos rfl]
  exact h

theorem priorityChanged (p q : PortId) (s : State) (rise : Bool) : Resettled p s (s.priorityChanged q rise) := .of_kept (kept_priorityChanged _ _ _)

theorem settle (p : PortId) (s : State) : Resettled p s s.settle := .of_kept (kept_settle _)

theorem emergencySets (p : PortId) (s : State) : Resettled p s (s.emergencySets p) :=
  ((updPort (f := fun r => { r with emergency := true }) ⟨rfl, rfl, rfl, rfl, rfl, rfl, rfl, .inl rfl⟩).trans
    (.of_kept (kept_offerBoth _ _))).trans (priorityChanged _ _ _ _)

theorem emergencyClears (p : PortId) (s : State) : Resettled p s (s.emergencyClears p) :=
  (updPort (f := fun r => { r with emergency := false }) ⟨rfl, rfl, rfl, rfl, rfl, rfl, rfl, .inl rfl⟩).trans (priorityChanged _ _ _ _)

theorem emgChanges (p : PortId) (s : State) (v : Bool) : Resettled p s (s.emgChanges p v) := by
  unfold State.emgChanges
  split
  · split
    · exact .of_kept (kept_offerBoth _ _)
    · exact emergencySets p s
  · exact refl p s
  · split
    · exact .of_kept (kept_offerBoth _ _)
    · exact emergencySets p s
  · split
    · exact emergencyClears p s
    · exact refl p s

theorem conditionEmg (p : PortId) (s : State) (old : Bool) : Resettled p s (s.conditionEmg p old) := by
  have taken (v : Bool) : Resettled p s (s.updPort p (fun r => { r with filteredEmg := v, emgHold := 0 })) :=
    updPort ⟨rfl, rfl, rfl, rfl, rfl, rfl, rfl, .inl rfl⟩
  unfold State.conditionEmg
  split
  · exact updPort ⟨rfl, rfl, rfl, rfl, rfl, rfl, rfl, .inl rfl⟩
  · unfold State.takeFilteredEmg
    dsimp only
    split
    · exact taken _
    · exact (taken _).trans (emgChanges _ _ _)

theorem inputsChange (p : PortId) (s : State) (old : PortRec) : Resettled p s (s.inputsChange p old) := by
  have cor : Resettled p s (if (s.port p).cfg.corPolarity = old.cfg.corPolarity ∧ (s.port p).cfg.glitchFilter = old.cfg.glitchFilter then s
      else (s.writePort p ((s.port p).conditionCor old.correctedCor)).settle) := by
    split
    · exact refl p s
    · exact (writePort (PortRec.steady_conditionCor _ _)).trans (settle _ _)
  unfold State.inputsChange
  dsimp only
  split
  · exact cor
  · exact cor.trans (conditionEmg _ _ _)

theorem kindChanges (p : PortId) (s : State) (old : PortKind) : Resettled p s (s.kindChanges p old) := by
  unfold State.kindChanges
  split
  · exact refl p s
  · refine Resettled.trans (Resettled.trans ?_ (.of_kept (kept_evalPort _ _))) (settle _ _)
    split
    · exact settle _ _
    · exact refl p s

theorem baseChanges (p : PortId) (s : State) (old : Nat) : Resettled p s (s.baseChanges p old) := by
  unfold State.baseChanges
  split
  · exact refl p s
  · exact priorityChanged _ _ _ _

theorem emgModeChanges (p : PortId) (s : State) (old : EmgMode) : Resettled p s (s.emgModeChanges p old) := by
  unfold State.emgModeChanges
  split
  · split
    · exact refl p s
    · split
      · exact emergencySets p s
      · exact emergencyClears p s
  · exact refl p s

theorem settingsChange (p : PortId) (s : State) (old : PortRec) : Resettled p s (s.settingsChange p old) := by
  refine (((baseChanges p s _).trans (kindChanges _ _ _)).trans (inputsChange _ _ _)).trans (Resettled.trans (updPort ?_) (emgModeChanges _ _ _))
  rw [PortRec.senseChanges_frame]
  exact ⟨rfl, rfl, rfl, rfl, rfl, rfl, rfl, .inl rfl⟩

end Resettled

/-! ### The settings as SET_PORT stores them (R1, R20) -/

theorem kindOf?_isNone (v : Nat) : (kindOf? v).isNone = decide (2 < v) := by
  rcases v with _ | _ | _ | v
  · rfl
  · rfl
  · rfl
  · exact (decide_eq_true (by omega)).symm

theorem polarityOf?_isNone (v : Nat) : (polarityOf? v).isNone = decide (1 < v) := by
  rcases v with _ | _ | v
  · rfl
  · rfl
  · exact (decide_eq_true (by omega)).symm

theorem onOff?_isNone (v : Nat) : (onOff? v).isNone = decide (1 < v) := by
  rcases v with _ | _ | v
  · rfl
  · rfl
  · exact (decide_eq_true (by omega)).symm

theorem emgModeOf?_isNone (v : Nat) : (emgModeOf? v).isNone = decide (1 < v) := by
  rcases v with _ | _ | v
  · rfl
  · rfl
  · exact (decide_eq_true (by omega)).symm

/-- The checks of SET_PORT behind its port number, as a table. -/
theorem setPortChecks_rows (sel : PortSelection) : setPortChecks sel =
    [(sel.kind.any (fun v => decide (2 < v)), refuseItem .badArgument 1), (sel.corPolarity.any (fun v => decide (1 < v)), refuseItem .badArgument 2),
      (sel.glitchFilter.any (fun v => decide (1 < v)), refuseItem .badArgument 3),
      (sel.transmitSense.any (fun v => decide (1 < v)), refuseItem .badArgument 9),
      (sel.emgMode.any (fun v => decide (1 < v)), refuseItem .badArgument 10)].map (fun x => check x.1 x.2) := by
  unfold setPortChecks
  rw [outside_row kindOf?_isNone, outside_row polarityOf?_isNone, outside_row onOff?_isNone, outside_row onOff?_isNone,
    outside_row emgModeOf?_isNone]
  rfl

theorem storeUpTo_eq (limit : Nat) (sel : Option Nat) (present : Nat) :
    storeUpTo limit sel present = (sel.map (fun v => min v limit)).getD present := by cases sel <;> rfl

/-- The settings that an admitted selection stores, item by item. -/
theorem PortSettings.store_eq {c : PortSettings} {sel : PortSelection} (kind : ∀ v, sel.kind = some v → v ≤ 2)
    (polarity : ∀ v, sel.corPolarity = some v → v ≤ 1) (filter : ∀ v, sel.glitchFilter = some v → v ≤ 1)
    (sense : ∀ v, sel.transmitSense = some v → v ≤ 1) (mode : ∀ v, sel.emgMode = some v → v ≤ 1) :
    c.store sel = {
      kind := match sel.kind with
        | some 0 => .half
        | some 1 => .full
        | some _ => .listenOnly
        | none => c.kind
      corPolarity := match sel.corPolarity with
        | some 0 => .activeLow
        | some _ => .activeHigh
        | none => c.corPolarity
      glitchFilter := match sel.glitchFilter with
        | some v => v == 1
        | none => c.glitchFilter
      qualifyTime := (sel.qualifyTime.map (fun v => min v 500)).getD c.qualifyTime
      dropTime := (sel.dropTime.map (fun v => min v 1000)).getD c.dropTime
      keyUpDelay := (sel.keyUpDelay.map (fun v => min v 1000)).getD c.keyUpDelay
      turnaround := (sel.turnaround.map (fun v => min v 500)).getD c.turnaround
      basePriority := (sel.basePriority.map (fun v => min v 7)).getD c.basePriority
      transmitSense := match sel.transmitSense with
        | some v => v == 1
        | none => c.transmitSense
      emgMode := match sel.emgMode with
        | some 0 => .latch
        | some _ => .level
        | none => c.emgMode
      receiveTrim := (sel.receiveTrim.map (fun v => min v 1023)).getD c.receiveTrim
      transmitTrim := (sel.transmitTrim.map (fun v => min v 1023)).getD c.transmitTrim } := by
  obtain ⟨k, cor, glitch, qualify, drop, keyUp, turn, base, tx, emg, receive, transmit⟩ := sel
  unfold PortSettings.store
  simp only [storeUpTo_eq]
  congr 1
  · rcases k with _ | _ | _ | _ | v
    · rfl
    · rfl
    · rfl
    · rfl
    · exact absurd (kind _ rfl) (by omega)
  · rcases cor with _ | _ | _ | v
    · rfl
    · rfl
    · rfl
    · exact absurd (polarity _ rfl) (by omega)
  · rcases glitch with _ | _ | _ | v
    · rfl
    · rfl
    · rfl
    · exact absurd (filter _ rfl) (by omega)
  · rcases tx with _ | _ | _ | v
    · rfl
    · rfl
    · rfl
    · exact absurd (sense _ rfl) (by omega)
  · rcases emg with _ | _ | _ | v
    · rfl
    · rfl
    · rfl
    · exact absurd (mode _ rfl) (by omega)

/-- An admitted selection passes the checks of SET_PORT. -/
theorem setPortChecks_none {sel : PortSelection} (kind : ∀ v, sel.kind = some v → v ≤ 2)
    (polarity : ∀ v, sel.corPolarity = some v → v ≤ 1) (filter : ∀ v, sel.glitchFilter = some v → v ≤ 1)
    (sense : ∀ v, sel.transmitSense = some v → v ≤ 1) (mode : ∀ v, sel.emgMode = some v → v ≤ 1) : firstRefusal (setPortChecks sel) = none := by
  have inside {o : Option Nat} {limit : Nat} (h : ∀ v, o = some v → v ≤ limit) : o.any (fun v => decide (limit < v)) = false := by
    cases o with
    | none => rfl
    | some v => exact decide_eq_false (Nat.not_lt.mpr (h v rfl))
  rw [setPortChecks_rows, firstRefusal_rows, inside kind, inside polarity, inside filter, inside sense, inside mode]
  rfl

/-! ### A change of kind alone (R106, R113) -/

/-- Stored settings that change the kind at most. -/
theorem State.settingsChange_kind {s u : State} {p : PortId} {old : PortRec}
    (h : (s.port p).cfg = { old.cfg with kind := (s.port p).cfg.kind }) (hu : s.kindChanges p old.cfg.kind = u)
    (hc : (u.port p).cfg = (s.port p).cfg) : s.settingsChange p old = u := by
  unfold State.settingsChange
  rw [State.baseChanges_same (by rw [h]), hu, State.inputsChange_same (by rw [hc, h]) (by rw [hc, h]), State.updPort_sense,
    PortRec.senseChanges_same (by rw [hc, h]), State.setPort_self, State.emgModeChanges_same (by rw [hc, h])]

/-- A change of kind that leaves no carrier event behind: the record stored, and the keying unit's evaluation of the port. -/
theorem State.kindChanges_of {s t : State} {p : PortId} {old : PortKind} (differs : (s.port p).cfg.kind ≠ old)
    (settled : (s.port p).masked = true → s.raised = []) (evaluated : (s.evalPort p).settle = t) : s.kindChanges p old = t := by
  unfold State.kindChanges
  rw [if_neg differs]
  split
  · rename_i masked
    rw [State.settle_of_none (settled masked), evaluated]
  · exact evaluated

/-- A record with another kind (R21). -/
def PortRec.ofKind (r : PortRec) (k : PortKind) : PortRec := { r with cfg := { r.cfg with kind := k } }

/-- SET_PORT of the kind alone, told on the port's record q that comes of it. -/
theorem exec_setKind {s : State} {c : Console} {p : PortId} {v : Nat} {k : PortKind} {q : PortRec} (ready : s.readyFor c) (code : kindOf? v = some k)
    (none : s.raised = []) (differs : k ≠ (s.port p).cfg.kind) (cfg : q.cfg = { (s.port p).cfg with kind := k })
    (stored : State) (written : (s.heard c).updPort p (fun r => r.ofKind k) = stored)
    (settled : (stored.port p).masked = true → stored.raised = []) (evaluated : (stored.evalPort p).settle = (s.heard c).setPort p q) :
    exec (.setPort c (portNumber p) { noPortItem with kind := some v }) s =
      .next (((s.heard c).setPort p q).replied c ⟨.ok, ((s.heard c).setPort p q).settingsImage p⟩) := by
  have store (x : PortSettings) : x.store { noPortItem with kind := some v } = { x with kind := k } := by
    unfold PortSettings.store storeCode
    dsimp only
    rw [code]; rfl
  have checks : firstRefusal (setPortChecks { noPortItem with kind := some v }) = .none := by
    have inside : outside kindOf? (some v) = false := by unfold outside; rw [Option.any_some, code]; rfl
    unfold setPortChecks
    rw [inside]; rfl
  refine (exec_setPort ready checks (u := (s.heard c).setPort p q) ?_).trans rfl
  have record : (stored.port p).cfg = { (s.port p).cfg with kind := k } := by
    rw [← written, State.updPort_port, if_pos rfl, PortRec.remask_cfg]; rfl
  have put : (s.heard c).updPort p (fun r => { r with cfg := r.cfg.store { noPortItem with kind := some v } }) = stored := by
    rw [← written]; simp only [store, PortRec.ofKind]
  rw [put]
  refine (congrArg State.settle (State.settingsChange_kind (u := (s.heard c).setPort p q) ?_ (State.kindChanges_of ?_ settled evaluated) ?_)).trans
    (State.settle_of_none none)
  · rw [record]
  · rw [record]; exact differs
  · rw [State.setPort_port_same, cfg, record]

/-- Port p written, with the carrier-qualified of the end of its masking marked where it is qualified (R12, R13). -/
def State.marked (s : State) (p : PortId) (x : PortRec) : State :=
  { s.setPort p x with raised := if x.qualified then [⟨.unmasked, p⟩] else [] }

@[simp] theorem State.marked_port (s : State) (p : PortId) (x : PortRec) : (s.marked p x).port p = x := State.setPort_port_same s p x

theorem State.writePort_marked {s : State} {p : PortId} {x : PortRec} {l : List CarrierNews} (none : s.raised = [])
    (news : l = if x.qualified then [.unmasked] else []) : s.writePort p (x, l) = s.marked p x := by
  subst news
  unfold State.writePort State.raise State.marked
  dsimp only
  rw [State.setPort_raised, none]
  cases x.qualified <;> rfl

theorem State.marked_unqualified {s : State} {p : PortId} {x : PortRec} (none : s.raised = []) (h : x.qualified = false) :
    s.marked p x = s.setPort p x := by
  unfold State.marked
  rw [h, if_neg Bool.false_ne_true, ← none]; rfl

/-- A machine at rest whose masking may end: what it is left with, and the carrier-qualified that is marked (R12, R13). -/
theorem State.updPort_unmasks {s : State} {p : PortId} {f : PortRec → PortRec} (none : s.raised = []) (rest : (f (s.port p)).atRest)
    (unmasked : (f (s.port p)).masked = false) : ∃ c q, s.updPort p f = s.marked p { f (s.port p) with carrier := c, qualifyLeft := q } := by
  rw [State.updPort_of_clean none]
  obtain ⟨carrier, qualify, drop⟩ := rest
  generalize f (s.port p) = r at *
  by_cases ends : (s.port p).masked = true ∧ r.filteredCor = true
  · have asserts : PortRec.remask (s.port p) r = (r.corAsserts.1, r.corAsserts.2.map (fun _ => .unmasked)) := by
      unfold PortRec.remask PortRec.maskEnds
      rw [ends.1, unmasked, ends.2]; rfl
    rw [asserts]
    unfold PortRec.corAsserts
    rw [carrier]
    dsimp only
    split
    · exact ⟨.present, _, State.writePort_marked none rfl⟩
    · exact ⟨.qualifying, _, State.writePort_marked none rfl⟩
  · have still : PortRec.remask (s.port p) r = (r, []) := by
      unfold PortRec.remask PortRec.maskEnds
      rw [unmasked]
      cases hm : (s.port p).masked with
      | false => rfl
      | true =>
        have low : r.filteredCor = false := by rw [hm] at ends; simpa using ends
        rw [low]; rfl
    rw [still]
    exact ⟨r.carrier, r.qualifyLeft, State.writePort_marked none (by rw [PortRec.qualified, carrier]; rfl)⟩

/-- Masking that begins again before the carrier-qualified of its end is handed on: the machine is CLEAR, and nothing is reported (R13). -/
theorem State.marked_masks {s : State} {p : PortId} {f : PortRec → PortRec} {x : PortRec} (none : s.raised = []) (unmasked : x.masked = false)
    (masked : (f x).masked = true) (same : (f x).qualified = x.qualified) :
    (s.marked p x).updPort p f = s.setPort p { f x with carrier := .clear, qualifyLeft := 0, dropLeft := 0 } := by
  cases hq : x.qualified with
  | true =>
    unfold State.updPort State.maskedAgain
    rw [State.marked_port, unmasked, masked, same, hq]
    refine (if_pos (by simp [State.marked, hq])).trans ?_
    unfold State.marked
    rw [hq, if_pos rfl, List.erase_cons_head, ← none]
    exact congrArg (fun u : State => { u with raised := s.raised }) (State.setPort_setPort s p x _)
  | false =>
    rw [State.marked_unqualified none hq, State.updPort_silent (s := s.setPort p x)] <;> rw [State.setPort_port_same, PortRec.remask_of_unqualified (same.trans hq) masked unmasked]
    rw [State.setPort_setPort]

/-- A keyed member that becomes LISTEN-ONLY: its masking ends with the kind and begins again with the guard, and nothing is
reported (R11 to R13, R106). -/
theorem State.listenOnly_unkeys {s : State} {p : PortId} {n : SlotId} (none : s.raised = []) (relays : (s.port p).inRelaySet = true)
    (home : (s.port p).patch = some n) (rest : (s.port p).atRest) (time : 0 < (s.port p).cfg.turnaround) {stored : State}
    (written : s.updPort p (fun r => r.ofKind .listenOnly) = stored) :
    ((stored.port p).masked = true → stored.raised = []) ∧
      (stored.evalPort p).settle = s.setPort p { ((s.port p).ofKind .listenOnly).unsupervised with
        state := .idle, guardLeft := (s.port p).cfg.turnaround } := by
  have parkedNot : (s.port p).isParked = false ∧ (s.port p).parkedKeyed = false := by
    unfold PortRec.inRelaySet at relays
    unfold PortRec.isParked PortRec.parkedKeyed
    split at relays <;> simp_all
  have guardOnly : ((s.port p).ofKind .listenOnly).masked = decide (0 < (s.port p).guardLeft) := by
    unfold PortRec.masked
    rw [show ((s.port p).ofKind .listenOnly).parkedKeyed = false from parkedNot.2]
    rfl
  have unkeys {t : State} {x : PortRec} (hx : t.port p = x) (kind : x.cfg.kind = .listenOnly) (state : x.state = (s.port p).state)
      (patch : x.patch = (s.port p).patch) : t.evalPort p = t.updPort p (fun r => r.unkeyInto .idle) := by
    have unfit : t.staysKeyed n p = false := by
      have low : t.holdable n p = false := Bool.eq_false_iff.mpr fun e => (State.holdable_iff.mp e).2.1 (by rw [hx]; exact kind)
      unfold State.staysKeyed
      split
      · exact low
      · exact Bool.eq_false_iff.mpr fun e => by rw [(State.eligible_iff.mp e).1] at low; cases low
    rw [State.evalPort_member (n := n) (by rw [hx, PortRec.isParked, state]; exact parkedNot.1) (by rw [hx, patch]; exact home),
      State.keyDecision_of_in (by rw [hx, PortRec.inRelaySet, state]; exact relays), unfit]
    rfl
  by_cases guard : 0 < (s.port p).guardLeft
  · have plain : stored = s.setPort p ((s.port p).ofKind .listenOnly) := by
      rw [← written]
      have before : (s.port p).masked = true := by simp [PortRec.masked, guard]
      exact State.updPort_of_masked (guardOnly.trans ((decide_eq_true guard).trans before.symm))
    have port : stored.port p = (s.port p).ofKind .listenOnly := by rw [plain, State.setPort_port_same]
    have decided := PortRec.decided_unkey (r := (s.port p).ofKind .listenOnly) rest time
    refine ⟨fun _ => by rw [plain]; exact none, ?_⟩
    have unkeyed := State.updPort_silent (s := stored) (p := p) (f := fun r => r.unkeyInto .idle) (by rw [port]; exact congrArg Prod.snd decided)
    rw [unkeys port rfl rfl rfl, unkeyed, port, plain, State.setPort_setPort]
    exact (State.settle_of_none (s := s.setPort p _) none).trans (congrArg (s.setPort p) (congrArg Prod.fst decided))
  · have unmasked := guardOnly.trans (decide_eq_false guard)
    obtain ⟨c, q, marked⟩ := State.updPort_unmasks (f := fun r => r.ofKind .listenOnly) none rest unmasked
    rw [written] at marked
    have port := (congrArg (fun u : State => u.port p) marked).trans (State.marked_port _ _ _)
    refine ⟨fun m => ?_, ?_⟩
    · rw [port] at m; cases unmasked.symm.trans m
    · have masked := State.marked_masks (p := p) (f := fun r => r.unkeyInto .idle)
        (x := { (s.port p).ofKind .listenOnly with carrier := c, qualifyLeft := q }) none unmasked
        (by simp [PortRec.masked, PortRec.unkeyInto, PortRec.stopSupervision, PortRec.ofKind, time]) rfl
      obtain ⟨carrier, qualify, drop⟩ := rest
      rw [unkeys port rfl rfl rfl, marked, masked]
      refine (State.settle_of_none (s := s.setPort p _) none).trans (congrArg (s.setPort p) ?_)
      show _ = { ((s.port p).ofKind .listenOnly).unkeyInto .idle with
        carrier := (s.port p).carrier, qualifyLeft := (s.port p).qualifyLeft, dropLeft := (s.port p).dropLeft }
      rw [carrier, qualify, drop]
      rfl

/-- A port keyed for its console that becomes LISTEN-ONLY (R112, R113). -/
theorem State.listenOnly_unkeysParked {s : State} {p : PortId} (none : s.raised = []) (keyed : (s.port p).parkedKeyed = true)
    (time : 0 < (s.port p).cfg.turnaround) {stored : State} (written : s.updPort p (fun r => r.ofKind .listenOnly) = stored) :
    ((stored.port p).masked = true → stored.raised = []) ∧
      (stored.evalPort p).settle = s.setPort p { ((s.port p).ofKind .listenOnly).unsupervised with
        state := .parked, guardLeft := (s.port p).cfg.turnaround } := by
  have masked {r : PortRec} (h : r.parkedKeyed = true) : r.masked = true := by unfold PortRec.masked; rw [h]; simp
  have keyed' : ((s.port p).ofKind .listenOnly).parkedKeyed = true := keyed
  have plain : stored = s.setPort p ((s.port p).ofKind .listenOnly) := by
    rw [← written]
    exact State.updPort_of_masked ((masked keyed').trans (masked keyed).symm)
  have port : stored.port p = (s.port p).ofKind .listenOnly := by rw [plain, State.setPort_port_same]
  refine ⟨fun _ => by rw [plain]; exact none, ?_⟩
  have unfit : stored.keyedFor p = false := by
    unfold State.keyedFor
    split
    · rfl
    · rw [port]; simp [PortRec.ofKind]
  have unkeys : stored.evalPort p = stored.updPort p (fun r => r.unkeyInto .parked) := by
    have states : (s.port p).state = .parkedKeyUp ∨ (s.port p).state = .parkedRelay := by
      unfold PortRec.parkedKeyed at keyed; cases e : (s.port p).state <;> simp_all
    have parked : ((s.port p).ofKind .listenOnly).isParked = true := by
      unfold PortRec.isParked PortRec.ofKind
      rcases states with e | e <;> simp [e]
    unfold State.evalPort State.evalParked
    rw [port, if_pos parked, if_neg, if_pos keyed', unfit]
    · rfl
    · show ¬ (s.port p).state = .parked
      rcases states with e | e <;> rw [e] <;> decide
  have guarded : (((s.port p).ofKind .listenOnly).unkeyInto .parked).masked = true := by
    simp [PortRec.masked, PortRec.unkeyInto, PortRec.stopSupervision, PortRec.ofKind, time]
  rw [unkeys, State.updPort_of_masked (by rw [port]; exact guarded.trans (masked keyed').symm), port, plain, State.setPort_setPort]
  exact State.settle_of_none (s := s.setPort p _) none

/-- A member that is keyed and fit to stay so is left by the keying unit (R97, R102). -/
theorem State.evalPort_stays {s : State} {p : PortId} {n : SlotId} (relays : (s.port p).inRelaySet = true) (home : (s.port p).patch = some n)
    (fault : (s.port p).fault = false) (kind : (s.port p).cfg.kind ≠ .listenOnly)
    (half : (s.port p).cfg.kind = .half → (s.port p).qualified = false) (live : (s.patch n).mode = .live)
    (other : (s.patch n).talker ≠ some (.port p)) (unlisted : .port p ∉ (s.patch n).bids)
    (state : (s.patch n).state = .talk ∨ (s.patch n).state = .closing ∨ (s.patch n).state = .hang) : s.evalPort p = s := by
  have unparked : (s.port p).isParked = false := by
    unfold PortRec.inRelaySet at relays; unfold PortRec.isParked
    split at relays <;> simp_all
  have hold : s.holdable n p = true := State.holdable_iff.mpr ⟨live, kind, unparked, fault⟩
  have stays : s.staysKeyed n p = true := by
    unfold State.staysKeyed
    split
    · exact hold
    · rename_i hang
      exact State.eligible_iff.mpr ⟨hold, state.imp id (·.resolve_right hang), other, fun e => ⟨unlisted, half e⟩⟩
  rw [State.evalPort_member unparked home, State.keyDecision_of_in relays, stays]
  rfl

/-- Settles O37. -/
theorem setPortStores : Obligations.SetPortStores := by
  unfold Obligations.SetPortStores
  refine ⟨?_, ?_, ?_⟩
  · intro s c p sel ready kind polarity filter sense mode upTo above r
    have change := Resettled.settingsChange p ((s.heard c).updPort p (fun r => { r with cfg := r.cfg.store sel })) (s.port p)
    have stores : r.Steady { r with cfg := r.cfg } := .refl r
    have done := exec_setPort ready (setPortChecks_none kind polarity filter sense mode) (p := p) rfl
    have whole := change.trans (.settle p _)
    generalize (((s.heard c).updPort p (fun r => { r with cfg := r.cfg.store sel })).settingsChange p (s.port p)).settle = u at *
    have others := (keptBut_updPort (s.heard c) p (fun r => { r with cfg := r.cfg.store sel })).trans whole.others
    have port := whole.port
    rw [State.updPort_port, if_pos rfl] at port
    have stored := port.cfg.trans ((PortRec.remask_cfg _ _).trans (PortSettings.store_eq kind polarity filter sense mode))
    have fixed := PortRec.remask_fixed (s.port p) { s.port p with cfg := (s.port p).cfg.store sel }
    refine ⟨u, ?_, stored, ?_, port.fault.trans (congrArg PortRec.fault fixed :), port.lockoutLeft.trans (congrArg PortRec.lockoutLeft fixed :),
      port.reservedBy.trans (congrArg PortRec.reservedBy fixed :), port.corPin.trans (congrArg PortRec.corPin fixed :),
      port.emgPin.trans (congrArg PortRec.emgPin fixed :), port.txsPin.trans (congrArg PortRec.txsPin fixed :), others.frame⟩
    · exact done
    · rw [show r.patch = _ from (PortRec.remask_patch (s.port p) { s.port p with cfg := (s.port p).cfg.store sel }).symm]
      exact port.patch
  · intro s c p ready none r turned answered staysKeyed
    have halfMasked {r : PortRec} (h : r.inRelaySet = true) (kind : r.cfg.kind = .half) : r.masked = true := by
      have ptt : r.ptt = true := by
        unfold PortRec.inRelaySet at h; unfold PortRec.ptt
        split at h <;> simp_all
      simp [PortRec.masked, kind, ptt]
    have fullMasked {r : PortRec} (h : r.inRelaySet = true) : (r.ofKind .full).masked = decide (0 < r.guardLeft) := by
      have unparked : (r.ofKind .full).parkedKeyed = false := by
        unfold PortRec.inRelaySet at h; unfold PortRec.parkedKeyed PortRec.ofKind
        split at h <;> simp_all
      unfold PortRec.masked
      rw [unparked]; rfl
    have keys (v : Nat) (k : PortKind) {d : Console} (code : kindOf? v = some k) (differs : k ≠ r.cfg.kind) (target : (s.console d).target = .port p)
        (request : ((s.heard c).console d).request = true) (waits : ((s.heard c).setPort p (r.ofKind k)).waitsFor d p) :
        answered v (r.ofKind k).consoleKeyed := by
      have port : ((s.heard c).setPort p (r.ofKind k)).port p = r.ofKind k := State.setPort_port_same _ _ _
      have parked : r.state = .parked := by have state := waits.1; rw [port] at state; exact state
      have unkeyed : r.ptt = false := by unfold PortRec.ptt; rw [parked]
      have plain : (s.heard c).updPort p (fun r => r.ofKind k) = (s.heard c).setPort p (r.ofKind k) :=
        State.updPort_of_masked ((PortRec.masked_of_unkeyed (r := r.ofKind k) unkeyed).trans (PortRec.masked_of_unkeyed unkeyed).symm)
      refine exec_setKind (k := k) ready code none differs rfl _ plain (fun _ => none) ?_
      have eval : ((s.heard c).setPort p (r.ofKind k)).evalPort p = ((s.heard c).setPort p (r.ofKind k)).evalParked p := by
        unfold State.evalPort
        exact if_pos (by rw [port, PortRec.isParked]; rw [show (r.ofKind k).state = .parked from parked])
      rw [eval, State.evalParked_keys (s := (s.heard c).setPort p (r.ofKind k)) none waits ((State.heard_target s c d).trans target) request, port,
        State.setPort_setPort]
    have keeps (v : Nat) (k : PortKind) (y : CarrierState) (a b : Nat) {n : SlotId} (code : kindOf? v = some k) (differs : k ≠ r.cfg.kind)
        (speaks : k ≠ .listenOnly) (half : k = .half → ({ r with carrier := y } : PortRec).qualified = false) (stays : staysKeyed n)
        (news : PortRec.remask r (r.ofKind k) = ({ r.ofKind k with carrier := y, qualifyLeft := a, dropLeft := b }, [])) :
        answered v { r.ofKind k with carrier := y, qualifyLeft := a, dropLeft := b } := by
      obtain ⟨relays, home, fault, live, other, unlisted, state⟩ := stays
      have plain : (s.heard c).updPort p (fun r => r.ofKind k) = (s.heard c).setPort p { r.ofKind k with carrier := y, qualifyLeft := a, dropLeft := b } :=
        (State.updPort_silent (s := s.heard c) (f := fun r => r.ofKind k) (congrArg Prod.snd news)).trans (congrArg ((s.heard c).setPort p) (congrArg Prod.fst news))
      refine exec_setKind (k := k) ready code none differs rfl _ plain (fun _ => none) ?_
      have port : ((s.heard c).setPort p { r.ofKind k with carrier := y, qualifyLeft := a, dropLeft := b }).port p =
          { r.ofKind k with carrier := y, qualifyLeft := a, dropLeft := b } := State.setPort_port_same _ _ _
      rw [State.evalPort_stays (s := (s.heard c).setPort p { r.ofKind k with carrier := y, qualifyLeft := a, dropLeft := b }) (n := n) (by rw [port]; exact relays) (by rw [port]; exact home) (by rw [port]; exact fault)
        (by rw [port]; exact speaks) (by rw [port]; exact half) live other unlisted state]
      exact State.settle_of_none (s := (s.heard c).setPort p _) none
    refine ⟨fun kind time => ⟨fun relays home carrier qualify drop => ?_, fun keyed => ?_⟩, fun d kind reserved target request => ⟨fun waits => ?_,
      fun waits => ?_⟩, fun n stays kind => ⟨fun still => ?_, fun guard cor carrier pos => ?_⟩, fun n stays kind guard low => ?_⟩
    · obtain ⟨n, home⟩ := Option.isSome_iff_exists.mp home
      obtain ⟨settled, evaluated⟩ := State.listenOnly_unkeys (s := s.heard c) none relays home ⟨carrier, qualify, drop⟩ time rfl
      exact exec_setKind (k := .listenOnly) ready rfl none kind.symm rfl _ rfl settled evaluated
    · obtain ⟨settled, evaluated⟩ := State.listenOnly_unkeysParked (s := s.heard c) none keyed time rfl
      exact exec_setKind (k := .listenOnly) ready rfl none kind.symm rfl _ rfl settled evaluated
    · exact keys 0 .half rfl (by rw [kind]; nofun) target request waits
    · exact keys 1 .full rfl (by rw [kind]; nofun) target request waits
    · refine keeps 1 .full _ _ _ rfl (by rw [kind]; nofun) nofun nofun stays ?_
      obtain ⟨relays, -⟩ := stays
      have before := halfMasked relays kind
      rcases still with guard | cor
      · exact PortRec.remask_same ((fullMasked relays).trans ((decide_eq_true guard).trans before.symm))
      · by_cases guard : 0 < r.guardLeft
        · exact PortRec.remask_same ((fullMasked relays).trans ((decide_eq_true guard).trans before.symm))
        · unfold PortRec.remask PortRec.maskEnds
          rw [before, fullMasked relays, decide_eq_false guard, show (r.ofKind .full).filteredCor = false from cor]; rfl
    · refine keeps 1 .full .qualifying r.cfg.qualifyTime r.dropLeft rfl (by rw [kind]; nofun) nofun nofun stays ?_
      obtain ⟨relays, -⟩ := stays
      have asserts : (r.ofKind .full).corAsserts = ({ r.ofKind .full with carrier := .qualifying, qualifyLeft := r.cfg.qualifyTime }, []) := by
        unfold PortRec.corAsserts
        rw [show (r.ofKind .full).carrier = .clear from carrier]
        exact if_neg (Nat.pos_iff_ne_zero.mp pos)
      have ends : (r.ofKind .full).maskEnds = ({ r.ofKind .full with carrier := .qualifying, qualifyLeft := r.cfg.qualifyTime }, []) :=
        (if_pos cor).trans (by rw [asserts]; rfl)
      unfold PortRec.remask
      rw [halfMasked relays kind, fullMasked relays, decide_eq_false (by omega), ends]
      rfl
    · refine keeps 0 .half _ _ _ rfl (by rw [kind]; nofun) nofun (fun _ => rfl) stays ?_
      obtain ⟨relays, -⟩ := stays
      have before : r.masked = false := by
        refine (show r.masked = (r.ofKind .full).masked by unfold PortRec.ofKind; rw [← kind]).trans ((fullMasked relays).trans ?_)
        exact decide_eq_false (by omega)
      exact PortRec.remask_of_unqualified low (halfMasked (r := r.ofKind .half) relays rfl) before
  · intro s c k sel r ready above row
    rcases outOfRange_or_portNumber k with hk | ⟨p, rfl⟩
    · rw [decide_eq_true hk] at row
      obtain rfl := Option.some.inj row
      exact exec_refused (q := .setPort k sel) rfl ready (State.onPort_outOfRange hk _ _ _)
    · obtain ⟨pos, le⟩ := portNumber_inRange p
      rw [decide_eq_false (by omega)] at row
      refine exec_refused (q := .setPort (portNumber p) sel) rfl ready ((State.onPort_portNumber _ _ _ _).trans ?_)
      exact State.checked_refused (firstRefusal_of_row (rows := [_, _, _, _, _]) row (setPortChecks_rows sel))

end Sys2Proof.Machine

/-! A port that its patch has let go, through whatever the traffic then does; and RESERVE_PORT and RELEASE_PORT (R142 to R144). -/

namespace Sys2Proof.Machine

/-! ### A release, from the state in which its talker is dropped (R84, R85) -/

variable {W : PortId → Prop} {s t : State}

theorem traffic_released {n : SlotId} (used : (s.patch n).state ≠ .unused) (but : Option Console) :
    Traffic W (s.dropTalker n) (s.release n but) := by
  have here : (s.dropTalker n).patch n = (s.patch n).dropped := by rw [State.dropTalker_patch_eq, if_pos rfl]
  have stillUsed : (s.dropTalker n).patch n ≠ PatchRec.unused := by rw [here]; exact PatchRec.ne_unused_of_state used
  unfold State.release
  dsimp only
  split
  · rename_i closing
    exact traffic_retire (by rw [here]; exact closing) but
  · unfold State.releaseOutcome
    split
    · rename_i c hc
      exact traffic_grant stillUsed (.inl (PatchRec.stands_iff.mpr (.inr (.inl (by rw [hc]; rfl)))))
    · rename_i b l _ hb
      exact traffic_grant stillUsed (.inl (PatchRec.stands_iff.mpr (.inr (.inr (by rw [hb]; exact List.mem_cons_self)))))
    · refine (Move.floor n _ stillUsed ?_ ?_ fun x hx => .inl ?_).traffic
      · dsimp only; split_ifs <;> rfl
      · dsimp only; split_ifs <;> nofun
      · dsimp only at hx; split_ifs at hx <;> exact hx

/-! ### A port set aside -/

/-- Port p is in state st with guard g and stands nowhere; it is DETACHED, a member of nothing, or parked where its console does not talk to
it or its own evaluation is not among the moves. -/
structure State.setAside (W : PortId → Prop) (s : State) (p : PortId) (st : PortState) (g : Nat) : Prop where
  state : (s.port p).state = st
  guard : (s.port p).guardLeft = g
  out : ∀ m, (s.patch m).stands (.port p) = false
  rests : (st = .detached ∧ (s.port p).patch = none ∧ ∀ m, p ∉ (s.patch m).members) ∨
    ((s.port p).isParked = true ∧ (¬ W p ∨ st = .parked ∧ ∀ c, (s.port p).reservedBy = some c → (s.console c).target ≠ .port p))

theorem PortRec.isParked_of_state {r r' : PortRec} (h : r'.state = r.state) : r'.isParked = r.isParked := by unfold PortRec.isParked; rw [h]

theorem PortRec.unmoved_of_isParked {r : PortRec} (h : r.isParked = true) : r.inRelaySet = false ∧ r.state ≠ .idle ∧ r.state ≠ .talker := by
  unfold PortRec.isParked at h
  unfold PortRec.inRelaySet
  cases e : r.state <;> simp_all

/-- A port set aside is asked at most to leave its patch as it retires, in its parked state. -/
theorem PortMove.setAside {p : PortId} {st : PortState} {g : Nat} {f : PortRec → PortRec} (m : PortMove W s p f) (h : s.setAside W p st g) :
    (f (s.port p)).state = st ∧ (f (s.port p)).guardLeft = g ∧ (f (s.port p)).reservedBy = (s.port p).reservedBy ∧
      (st = .detached → (f (s.port p)).patch = none) := by
  obtain ⟨state, guard, out, rests⟩ := h
  have notIdle : (s.port p).inRelaySet = false ∧ (s.port p).state ≠ .idle ∧ (s.port p).state ≠ .talker := by
    rcases rests with ⟨detached, -, -⟩ | ⟨parked, -⟩
    · rw [detached] at state
      simp [PortRec.inRelaySet, state]
    · exact PortRec.unmoved_of_isParked parked
  cases m with
  | key n home hold live =>
    obtain ⟨-, -, unparked, -⟩ := State.holdable_iff.mp hold
    rcases rests with ⟨-, unpatched, strange⟩ | ⟨parked, -⟩
    · rcases home with e | e
      · exact absurd e (strange n)
      · rw [unpatched] at e; cases e
    · rw [parked] at unparked; cases unparked
  | unkey relays =>
    rcases relays with e | e
    · rw [notIdle.1] at e; cases e
    · exact absurd e notIdle.2.1
  | keyParked mine parked keyed =>
    rcases rests with ⟨detached, -, -⟩ | ⟨-, free | ⟨-, silent⟩⟩
    · rw [state, detached] at parked; cases parked
    · exact absurd mine free
    · unfold State.keyedFor at keyed
      split at keyed
      · cases keyed
      · rename_i c hc
        simp only [Bool.and_eq_true, beq_iff_eq] at keyed
        exact absurd keyed.1.1.1 (silent c hc)
  | unkeyParked mine parked quiet =>
    rcases rests with ⟨detached, -, -⟩ | ⟨-, free | ⟨rest, -⟩⟩
    · rw [PortRec.parkedKeyed, state, detached] at parked; cases parked
    · exact absurd mine free
    · rw [PortRec.parkedKeyed, state, rest] at parked; cases parked
  | talks n granted =>
    have stands : (s.patch n).stands (.port p) = true := PatchRec.stands_iff.mpr (.inl granted)
    rw [out n] at stands; cases stands
  | idles talker => exact absurd talker notIdle.2.2
  | leaves n closing member =>
    rcases rests with ⟨-, -, strange⟩ | ⟨parked, -⟩
    · exact absurd member (strange n)
    · have left : (s.port p).leavePatch = { s.port p with patch := none } := if_pos parked
      rw [left]
      exact ⟨state, guard, rfl, fun _ => rfl⟩

theorem Move.setAside (m : Move W s t) {p : PortId} {st : PortState} {g : Nat} (h : s.setAside W p st g) : t.setAside W p st g := by
  have record : (t.port p).state = st ∧ (t.port p).guardLeft = g ∧ (t.port p).reservedBy = (s.port p).reservedBy ∧
      (st = .detached → (s.port p).patch = none → (t.port p).patch = none) := by
    rcases m.port_cases p with e | ⟨f, move, e⟩
    · rw [e]; exact ⟨h.state, h.guard, rfl, fun _ => id⟩
    · obtain ⟨state, guard, reserved, patch⟩ := move.setAside h
      rw [e, PortRec.remask_state, PortRec.remask_guardLeft, PortRec.remask_reservedBy, PortRec.remask_patch]
      exact ⟨state, guard, reserved, fun d _ => patch d⟩
  obtain ⟨state, guard, reserved, patch⟩ := record
  refine ⟨state, guard, fun n => ?_, ?_⟩
  · rcases m.patch_cases n with e | ⟨e, -⟩ | ⟨-, -, -, stands⟩
    · rw [e]; exact h.out n
    · rw [e]; rfl
    · rw [Bool.eq_false_iff]
      intro x
      rcases stands _ x with y | ⟨home, unparked⟩
      · rw [h.out n] at y; cases y
      · rcases h.rests with ⟨-, unpatched, -⟩ | ⟨parked, -⟩
        · rw [unpatched] at home; cases home
        · rw [parked] at unparked; cases unparked
  · rcases h.rests with ⟨detached, unpatched, strange⟩ | ⟨parked, free⟩
    · refine .inl ⟨detached, patch detached unpatched, fun n => ?_⟩
      rcases m.patch_cases n with e | ⟨e, -⟩ | ⟨-, fixed, -, -⟩
      · rw [e]; exact strange n
      · rw [e]; exact List.not_mem_nil
      · rw [show (t.patch n).members = (s.patch n).members from (congrArg PatchRec.members fixed :)]; exact strange n
    · refine .inr ⟨(PortRec.isParked_of_state (state.trans h.state.symm)).trans parked, free.imp id fun ⟨rest, silent⟩ => ⟨rest, fun c hc => ?_⟩⟩
      have before := silent c (reserved ▸ hc)
      rcases m.console_cases c with e | ⟨n, -, -, e⟩ <;> rw [e]
      · exact before
      · rw [ConsoleRec.forgetPatch_target]
        split
        · nofun
        · exact before

theorem Traffic.setAside (h : Traffic W s t) {p : PortId} {st : PortState} {g : Nat} (i : s.setAside W p st g) : t.setAside W p st g :=
  h.keeps (I := fun u => u.setAside W p st g) (fun m j => m.setAside j) i

/-- A member's last release and its handing on, told of a port that is set aside once the talker is dropped (R54, R143). -/
theorem State.release_setAside {n : SlotId} {p : PortId} {st : PortState} {g : Nat} (used : (s.patch n).state ≠ .unused) (but : Option Console)
    (h : (s.dropTalker n).setAside W p st g) : (s.release n but).setAside W p st g := (traffic_released used but).setAside h

/-! ### RESERVE_PORT (R142, R143) -/

/-- What is kept but for port p, told as a frame over the record x that stands for its. -/
theorem keptBut.frame {p : PortId} {x : PortRec} (h : keptBut p s t) (fixed : (t.port p).fixedPart = x.fixedPart)
    (patch : (t.port p).patch = x.patch ∨ (t.port p).patch = none) : State.trafficOnly [] [] (s.setPort p x) t := by
  obtain ⟨ports, portPatch, patches, consoles, links, masks, entries, rest⟩ := Kept.frame h
  refine ⟨fun q => ?_, fun q hq => ?_, patches, consoles, links, masks, entries, rest⟩
  · have before := ports q
    rw [State.setPort_port] at before ⊢
    split
    · rename_i e; subst e; exact fixed
    · rename_i e; rwa [if_neg e] at before
  · have before := portPatch q hq
    rw [State.setPort_port] at before ⊢
    split
    · rename_i e; subst e; exact patch
    · rename_i e; rwa [if_neg e] at before

theorem PortRec.parkFor_fixed (r : PortRec) (c : Console) : (r.parkFor c).fixedPart = { r.fixedPart with reservedBy := some c } := rfl

/-- The reserved port unkeyed and parked, before its patch is evaluated (R143, steps 1 to 4). -/
def State.parkedFor (s : State) (c : Console) (p : PortId) : State := (s.unkeyIfRelaying p).updPort p (fun r => r.parkFor c)

theorem State.parkedFor_keeps (s : State) (c : Console) (p : PortId) : keptBut p s (s.parkedFor c p) ∧
    ((s.parkedFor c p).port p).fixedPart = { (s.port p).fixedPart with reservedBy := some c } ∧ ((s.parkedFor c p).port p).patch = (s.port p).patch := by
  have unkeyed : Kept [] [] s (s.unkeyIfRelaying p) := (flow_unkeyIfRelaying s p).toKept
  refine ⟨(keptBut.of_kept unkeyed).trans (keptBut_updPort _ _ _), ?_, ?_⟩
  · unfold State.parkedFor
    rw [State.updPort_port, if_pos rfl, PortRec.remask_fixed, PortRec.parkFor_fixed, unkeyed.ports p]
  · unfold State.parkedFor
    rw [State.updPort_port, if_pos rfl, PortRec.remask_patch]
    show ((s.unkeyIfRelaying p).port p).patch = _
    exact unkeyIfRelaying_portPatch s p p

/-- RESERVE_PORT, from the parked port on: traffic, and nothing else. -/
theorem kept_reserve (s : State) (c : Console) (p : PortId) : keptBut p s (s.reserve c p) ∧
    ((s.reserve c p).port p).fixedPart = { (s.port p).fixedPart with reservedBy := some c } ∧
    (((s.reserve c p).port p).patch = (s.port p).patch ∨ ((s.reserve c p).port p).patch = none) := by
  have after {u v : State} (k : Kept [] [] u v) (h : keptBut p s u ∧ (u.port p).fixedPart = { (s.port p).fixedPart with reservedBy := some c } ∧
      (u.port p).patch = (s.port p).patch) : keptBut p s v ∧ (v.port p).fixedPart = { (s.port p).fixedPart with reservedBy := some c } ∧
      ((v.port p).patch = (s.port p).patch ∨ (v.port p).patch = none) := by
    obtain ⟨but, fixed, patch⟩ := h
    refine ⟨but.trans (.of_kept k), (k.ports p).trans fixed, ?_⟩
    rw [← patch]
    exact k.portPatch p List.not_mem_nil
  by_cases unpatched : (s.port p).patch = none
  · rw [State.reserve_unpatched unpatched]
    exact after (flow_evalParked _ _).toKept (s.parkedFor_keeps c p)
  · obtain ⟨n, hp⟩ := Option.ne_none_iff_exists'.mp unpatched
    rw [State.reserve_member hp]
    have withdrawn : Kept [] [] s (s.withdraw n (.port p)) := kept_setPatch (.inr (.inl rfl))
    obtain ⟨but, fixed, patch⟩ := (s.withdraw n (.port p)).parkedFor_keeps c p
    refine after (u := (s.withdraw n (.port p)).parkedFor c p) (Kept.trans (Kept.trans ?_ (kept_evalPatch _ _)) (flow_evalParked _ _).toKept)
      ⟨(keptBut.of_kept withdrawn).trans but, fixed, patch⟩
    split
    · exact kept_release _ _ _
    · exact Kept.refl _

theorem State.settle_setAside {p : PortId} {st : PortState} {g : Nat} (mine : ∀ {u : State}, u.setAside W p st g → ∀ e ∈ u.raised, W e.port)
    (h : s.setAside W p st g) : s.settle.setAside W p st g :=
  settle_keeps (I := fun u => u.setAside W p st g) (fun m i => m.setAside i) mine h

/-- The record of a port as it is reserved: unkeyed with its guard, and parked (R143). -/
theorem State.parkedFor_port (s : State) (c : Console) (p : PortId) : ((s.parkedFor c p).port p).state = .parked ∧
    ((s.parkedFor c p).port p).reservedBy = some c ∧
    ((s.parkedFor c p).port p).guardLeft = if (s.port p).inRelaySet = true then (s.port p).cfg.turnaround else (s.port p).guardLeft := by
  have guard : (s.port p).unkeyed.guardLeft = if (s.port p).inRelaySet = true then (s.port p).cfg.turnaround else (s.port p).guardLeft := by
    unfold PortRec.unkeyed
    split
    · exact PortRec.remask_guardLeft _ _
    · rfl
  unfold State.parkedFor
  rw [State.updPort_port, if_pos rfl, PortRec.remask_state, PortRec.remask_reservedBy, PortRec.remask_guardLeft]
  refine ⟨rfl, rfl, ?_⟩
  rw [← guard]
  show ((s.unkeyIfRelaying p).port p).guardLeft = _
  rw [State.unkeyIfRelaying_port, if_pos rfl]

theorem State.parkedFor_patch (s : State) (c : Console) (p : PortId) (m : SlotId) : (s.parkedFor c p).patch m = s.patch m := by
  unfold State.parkedFor
  rw [State.updPort_patch]
  unfold State.unkeyIfRelaying State.unkeyMember
  split
  · exact State.updPort_patch ..
  · rfl

theorem State.parkedFor_console (s : State) (c d : Console) (p : PortId) : (s.parkedFor c p).console d = s.console d := by
  unfold State.parkedFor
  rw [State.updPort_console]
  unfold State.unkeyIfRelaying State.unkeyMember
  split
  · exact State.updPort_console ..
  · rfl

/-- A reserved port is set aside: parked, its guard as the unkeying left it, standing nowhere (R143). -/
theorem State.reserve_setAside {c : Console} {p : PortId} (agree : s.membersAgree) (ordered : s.floorsOrdered)
    (quiet : (s.console c).target ≠ .port p) : (s.reserve c p).settle.setAside (fun _ => True) p .parked
      (if (s.port p).inRelaySet = true then (s.port p).cfg.turnaround else (s.port p).guardLeft) := by
  refine State.settle_setAside (fun _ _ _ => trivial) ?_
  have aside {u : State} (patches : ∀ m, (u.patch m).stands (.port p) = false) (port : (u.port p).state = .parked ∧
      (u.port p).reservedBy = some c ∧ (u.port p).guardLeft = if (s.port p).inRelaySet = true then (s.port p).cfg.turnaround else (s.port p).guardLeft)
      (target : (u.console c).target ≠ .port p) : u.setAside (fun _ => True) p .parked
        (if (s.port p).inRelaySet = true then (s.port p).cfg.turnaround else (s.port p).guardLeft) :=
    ⟨port.1, port.2.2, patches, .inr ⟨by rw [PortRec.isParked, port.1], .inr ⟨rfl, fun d hd => by
      obtain rfl : c = d := Option.some.inj (port.2.1.symm.trans hd)
      exact target⟩⟩⟩
  by_cases unpatched : (s.port p).patch = none
  · rw [State.reserve_unpatched unpatched]
    refine Traffic.setAside (traffic_evalParked trivial) (aside (u := s.parkedFor c p) (fun m => ?_) (s.parkedFor_port c p)
      (by rw [State.parkedFor_console]; exact quiet))
    rw [State.parkedFor_patch, Bool.eq_false_iff]
    intro stands
    rw [(ordered m).2.1 p stands] at unpatched; cases unpatched
  · obtain ⟨n, hp⟩ := Option.ne_none_iff_exists'.mp unpatched
    rw [State.reserve_member hp]
    refine Traffic.setAside ((traffic_evalPatch _ _).trans (traffic_evalParked trivial)) ?_
    have here : (s.withdraw n (.port p)).patch n = { s.patch n with bids := (s.patch n).bids.erase (.port p) } := State.setPatch_patch_same ..
    have elsewhere (m : SlotId) (e : m ≠ n) : (s.patch m).stands (.port p) = false := by
      rw [Bool.eq_false_iff]
      intro stands
      exact e (Option.some.inj (((ordered m).2.1 p stands).symm.trans hp))
    obtain ⟨⟨-, once, -⟩, -⟩ := ordered n
    have unlisted : Source.port p ∉ (s.patch n).bids.erase (.port p) := once.not_mem_erase
    have parks := (s.withdraw n (.port p)).parkedFor_port c p
    split
    · rename_i talker
      let v := (s.withdraw n (.port p)).parkedFor c p
      have vPatch (m : SlotId) : v.patch m = (s.withdraw n (.port p)).patch m := State.parkedFor_patch _ _ _ m
      have vConsole : v.console c = s.console c := State.parkedFor_console _ _ _ _
      have used : (v.patch n).state ≠ .unused := by
        rw [vPatch, here]
        intro e
        rw [agree.2.2 n e] at talker; cases talker
      refine State.release_setAside used _ (aside (fun m => ?_) ?_ (by rw [State.dropTalker_console, vConsole]; exact quiet))
      · by_cases e : m = n
        · subst e
          rw [State.dropTalker_patch_eq, if_pos rfl, vPatch, here]
          exact PatchRec.stands_eq_false.mpr ⟨nofun, by show (s.patch m).partner.map _ ≠ _; cases (s.patch m).partner <;> nofun, unlisted⟩
        · rw [State.dropTalker_elsewhere v e, vPatch, show (s.withdraw n (.port p)).patch m = s.patch m from (State.setPatch_patch ..).trans (if_neg e)]
          exact elsewhere m e
      · have same : (v.dropTalker n).port p = v.port p :=
          ((State.idleTalker_plain (v.setPatch n (v.patch n).dropped) (v.patch n).talker).2 p).resolve_right fun ⟨_, talks, _⟩ => by
            rw [show ((v.setPatch n (v.patch n).dropped).port p).state = .parked from parks.1] at talks; cases talks
        rw [same]; exact parks
    · rename_i other
      refine aside (u := (s.withdraw n (.port p)).parkedFor c p) (fun m => ?_) parks (by rw [State.parkedFor_console]; exact quiet)
      rw [State.parkedFor_patch]
      by_cases e : m = n
      · subst e
        rw [here]
        exact PatchRec.stands_eq_false.mpr ⟨other, by cases (s.patch m).partner <;> nofun, unlisted⟩
      · rw [show (s.withdraw n (.port p)).patch m = s.patch m from (State.setPatch_patch ..).trans (if_neg e)]
        exact elsewhere m e

/-! ### RELEASE_PORT (R144) -/

theorem exec_reservePort {s u : State} {c : Console} {p : PortId} (ready : s.readyFor c) (free : (s.port p).reservedBy = none)
    (edits : ∀ n, (s.port p).patch = some n → (s.patch n).owner = some c ∨ (s.patch n).shared = true) (hu : ((s.heard c).reserve c p).settle = u) :
    exec (.reservePort c (portNumber p)) s = .next (u.replied c ⟨.ok, u.reservationImage p⟩) := by
  refine exec_of_ready (q := .reservePort (portNumber p)) rfl ready ((State.onPort_portNumber _ _ _ _).trans ?_)
  have mine : (s.heard c).forbiddenPatch c p = none := by
    unfold State.forbiddenPatch
    split
    · rename_i n hn
      exact if_pos ((PatchRec.mayEdit_iff _ _).mpr (edits n hn))
    · rfl
  rw [State.heard_port, free, if_neg (by nofun), if_neg (by nofun), mine, ← hu]
  rfl

theorem exec_releasePort {s u : State} {c : Console} {p : PortId} (ready : s.readyFor c) (mine : (s.port p).reservedBy = some c)
    (hu : ((s.heard c).releaseReservation c p).settle = u) :
    exec (.releasePort c (portNumber p)) s = .next (u.replied c ⟨.ok, u.reservationImage p⟩) := by
  refine exec_of_ready (q := .releasePort (portNumber p)) rfl ready ((State.onPort_portNumber _ _ _ _).trans ?_)
  rw [State.heard_port, mine, if_neg (fun e => otherConsole_ne c (Option.some.inj e).symm), if_pos rfl, ← hu]
  rfl

/-- Step 1 of R144: the target none where it named the port, and the port unkeyed for its console. -/
def State.letGo (s : State) (c : Console) (p : PortId) : State :=
  let untargeted := if (s.console c).target = .port p then s.changeTarget c .none else s
  if (untargeted.port p).parkedKeyed then untargeted.unkeyParked p else untargeted

theorem State.releaseReservation_eq (s : State) (c : Console) (p : PortId) :
    s.releaseReservation c p = (s.letGo c p).endReservation p (s.port p).parkedKeyed := rfl

theorem kept_releaseReservation (s : State) (c : Console) (p : PortId) : keptBut p s (s.releaseReservation c p) ∧
    ((s.releaseReservation c p).port p).fixedPart = { (s.port p).fixedPart with reservedBy := none } ∧
    (((s.releaseReservation c p).port p).patch = (s.port p).patch ∨ ((s.releaseReservation c p).port p).patch = none) := by
  have first : Kept [] [] s (s.letGo c p) := by
    unfold State.letGo
    refine Kept.trans ?_ (kept_unkeyIfParkedKeyed _ _)
    split
    · exact kept_changeTarget _ _ _
    · exact Kept.refl _
  have second := kept_endReservation (s.letGo c p) p (s.port p).parkedKeyed
  rw [State.releaseReservation_eq]
  generalize (s.letGo c p).endReservation p (s.port p).parkedKeyed = t at second
  have but : keptBut p (s.letGo c p) t := by
    have k := second.setPort p (t.port p)
    rwa [State.setPort_setPort, State.setPort_self] at k
  have port := second.ports p
  have patch := second.portPatch p List.not_mem_nil
  rw [State.setPort_port_same] at port patch
  refine ⟨(keptBut.of_kept first).trans but, ?_, ?_⟩
  · rw [port, ← first.ports p]; rfl
  · rcases patch with e | e
    · rw [e]; exact first.portPatch p List.not_mem_nil
    · exact .inr e

/-- A parked port as its console lets it go: unkeyed with its guard where it was keyed (R144). -/
def PortRec.letGo (r : PortRec) : PortRec :=
  if r.parkedKeyed then { r.unsupervised with state := .parked, guardLeft := r.cfg.turnaround } else r

/-- The state with console c's target none where it names port p (R144). -/
def State.untargeted (s : State) (c : Console) (p : PortId) : State :=
  s.setConsole c { s.console c with target := if (s.console c).target = .port p then .none else (s.console c).target }

theorem State.untargeted_target (s : State) (c : Console) (p : PortId) : ((s.untargeted c p).console c).target ≠ .port p := by
  unfold State.untargeted
  rw [State.setConsole_console_same]
  dsimp only
  split
  · nofun
  · assumption

/-- A port that its console no longer talks to. -/
theorem State.unkeyParked_eq {s : State} {p : PortId} (keyed : (s.port p).parkedKeyed = true) (time : 0 < (s.port p).cfg.turnaround) :
    s.unkeyParked p = s.setPort p (s.port p).letGo := by
  have unkeyed : (s.port p).letGo = (s.port p).unkeyInto .parked := if_pos keyed
  rw [unkeyed]
  refine State.updPort_of_masked (f := fun r => r.unkeyInto .parked) ?_
  have before : (s.port p).masked = true := by unfold PortRec.masked; rw [keyed]; simp
  rw [before]
  simp [PortRec.masked, PortRec.unkeyInto, PortRec.stopSupervision, time]

theorem State.keyedFor_untargeted {s : State} {c : Console} {p : PortId} (mine : (s.port p).reservedBy = some c)
    (quiet : (s.console c).target ≠ .port p) : s.keyedFor p = false :=
  Bool.eq_false_iff.mpr fun e => quiet ((State.keyedFor_iff mine).mp e).1

theorem State.letGo_eq {s : State} {c : Console} {p : PortId} (mine : (s.port p).reservedBy = some c)
    (rest : (s.port p).state = .parked ∨ (s.port p).parkedKeyed = true ∧ 0 < (s.port p).cfg.turnaround) :
    s.letGo c p = (s.untargeted c p).setPort p (s.port p).letGo := by
  have unkeys {u : State} (hu : u.port p = s.port p) : (if (u.port p).parkedKeyed then u.unkeyParked p else u) = u.setPort p (s.port p).letGo := by
    rw [hu]
    split
    · rename_i keyed
      rw [State.unkeyParked_eq (by rw [hu]; exact keyed), hu]
      rcases rest with parked | ⟨-, time⟩
      · rw [PortRec.parkedKeyed, parked] at keyed; cases keyed
      · rw [hu]; exact time
    · rename_i resting
      rw [show (s.port p).letGo = s.port p from if_neg resting, ← hu, State.setPort_self]
  have again : (s.port p).letGo.parkedKeyed = false := by
    unfold PortRec.letGo
    split
    · rfl
    · rename_i h; simpa using h
  unfold State.letGo
  dsimp only
  by_cases target : (s.console c).target = .port p
  · rw [if_pos target]
    have changed : s.untargeted c p = s.modConsole c (fun r => { r with target := .none }) := by
      unfold State.untargeted
      rw [if_pos target]; rfl
    have left : s.changeTarget c .none = s.untargeted c p ∨ s.changeTarget c .none = (s.untargeted c p).setPort p (s.port p).letGo := by
      have aims : ((s.untargeted c p).console c).target = .none := by
        unfold State.untargeted; rw [State.setConsole_console_same]; exact if_pos target
      unfold State.changeTarget
      rw [← changed, target]
      dsimp only
      split
      · exact .inl rfl
      · have silent : (s.untargeted c p).keyedFor p = false := State.keyedFor_untargeted mine (s.untargeted_target c p)
        unfold State.evalParked
        rw [silent, show (s.untargeted c p).port p = s.port p from rfl]
        split
        · exact .inl (State.requestRises_none aims)
        · split
          · rename_i keyed
            refine .inr ?_
            have unkeyed := unkeys (u := s.untargeted c p) rfl
            rw [show (s.untargeted c p).port p = s.port p from rfl, if_pos keyed] at unkeyed
            rw [if_neg Bool.false_ne_true, unkeyed]
            exact State.requestRises_none aims
          · exact .inl (State.requestRises_none aims)
    rcases left with e | e <;> rw [e]
    · exact unkeys rfl
    · rw [State.setPort_port_same, again]; rfl
  · rw [if_neg target, unkeys rfl]
    have same : s.untargeted c p = s := by
      unfold State.untargeted
      rw [if_neg target]; exact State.setConsole_self _ _
    rw [same]

/-- The record of a port as its reservation ends (R144). -/
theorem PortRec.letGo_freed (r : PortRec) : r.letGo.freed =
    { r.unsupervised with
      state := if r.patch.isSome then .idle else .detached, reservedBy := none
      guardLeft := if r.parkedKeyed = true then r.cfg.turnaround else r.guardLeft } := by
  unfold PortRec.letGo
  split <;> rfl

/-- A reservation that ends on a port that rests, or that its console unkeys with a guard: the freed port bids and is evaluated. -/
theorem State.releaseReservation_rests {s : State} {c : Console} {p : PortId} (mine : (s.port p).reservedBy = some c)
    (rest : (s.port p).state = .parked ∨ (s.port p).parkedKeyed = true ∧ 0 < (s.port p).cfg.turnaround) {t : State}
    (ht : (s.untargeted c p).setPort p (s.port p).letGo.freed = t) :
    s.releaseReservation c p = (if (s.port p).parkedKeyed then t else t.portBidsIfQualified p).evalPort p := by
  have unkeyed : (s.port p).letGo.ptt = false := by
    unfold PortRec.letGo
    split
    · rfl
    · rename_i resting
      rcases rest with parked | ⟨keyed, -⟩
      · unfold PortRec.ptt; rw [parked]
      · exact absurd keyed resting
  have freed : (s.port p).letGo.freed.ptt = false := by
    unfold PortRec.freed
    cases (s.port p).letGo.patch.isSome <;> rfl
  have put : (s.letGo c p).updPort p PortRec.freed = t := by
    rw [State.letGo_eq mine rest, ← ht, State.updPort_of_masked, State.setPort_port_same, State.setPort_setPort]
    rw [State.setPort_port_same, PortRec.masked_of_unkeyed freed, PortRec.masked_of_unkeyed unkeyed]
    rfl
  rw [State.releaseReservation_eq, State.endReservation_eq, put]

theorem State.heard_request {s : State} {c d : Console} (h : (s.console d).request = true) : ((s.heard c).console d).request = true := by
  by_cases e : d = c
  · subst e
    rw [State.heard_console]
    exact (ConsoleRec.request_iff _).mpr (((ConsoleRec.request_iff _).mp h).imp (fun ⟨_, ptt⟩ => ⟨rfl, ptt⟩) id)
  · rw [State.heard_console_of_ne s e]; exact h

/-- A record with another field written names its port, its state, its console and its patch. -/
theorem State.reservationImage_setPort (s : State) (p : PortId) (x : PortRec) : (s.setPort p x).reservationImage p =
    putByte (portNumber p) ++ putByte x.state.code ++ putByte (ownerCode x.reservedBy) ++ putByte (slotCode x.patch) := by
  rw [State.reservationImage, State.setPort_port_same]

theorem PortRec.decided_key_guardLeft (r : PortRec) : (r.decided .key).1.guardLeft = r.guardLeft := by
  unfold PortRec.decided
  rw [PortRec.remask_guardLeft, PortRec.keyInto_guardLeft]

theorem PortRec.decided_key_reservedBy (r : PortRec) : (r.decided .key).1.reservedBy = r.reservedBy := by
  have e := congrArg PortRec.reservedBy (PortRec.keyInto_fixed r .keyUp .relay)
  unfold PortRec.decided
  rw [PortRec.remask_reservedBy]
  exact e

theorem PortRec.masked_of_parkedKeyed {r : PortRec} (h : r.parkedKeyed = true) : r.masked = true := by
  unfold PortRec.masked; rw [h]; simp

/-- Settles O39. -/
theorem portsAreReservedAndReleased : Obligations.PortsAreReservedAndReleased := by
  unfold Obligations.PortsAreReservedAndReleased
  intro s c p ready r h untargeted
  have refusesReserve (x : Response) (hx : doReservePort c (portNumber p) h = (h, x)) :
      exec (.reservePort c (portNumber p)) s = .next (h.replied c x) := exec_refused (q := .reservePort (portNumber p)) rfl ready hx
  have refusesRelease (x : Response) (hx : doReleasePort c (portNumber p) h = (h, x)) :
      exec (.releasePort c (portNumber p)) s = .next (h.replied c x) := exec_refused (q := .releasePort (portNumber p)) rfl ready hx
  have aimed : h.untargeted c p = untargeted := by
    unfold State.untargeted
    rw [State.heard_target]
  have target (d : Console) : (h.console d).target = (s.console d).target := State.heard_target s c d
  have notOther : some c ≠ some (otherConsole c) := fun e => otherConsole_ne c (Option.some.inj e).symm
  have releases (mine : r.reservedBy = some c) (rest : r.state = .parked ∨ r.parkedKeyed = true ∧ 0 < r.cfg.turnaround) {u : State}
      (hu : ((if r.parkedKeyed then untargeted.setPort p r.letGo.freed else (untargeted.setPort p r.letGo.freed).portBidsIfQualified p).evalPort p).settle = u) :
      exec (.releasePort c (portNumber p)) s = .next (u.replied c ⟨.ok, u.reservationImage p⟩) := by
    refine exec_releasePort ready mine ?_
    rw [State.releaseReservation_rests (s := h) mine rest (congrArg (fun t : State => t.setPort p r.letGo.freed) aimed)]
    exact hu
  have freed := r.letGo_freed
  have alone (none : s.raised = []) (unpatched : r.patch = Option.none) :
      (((untargeted.setPort p r.letGo.freed).portBidsIfQualified p).evalPort p).settle = untargeted.setPort p r.letGo.freed := by
    have port : (untargeted.setPort p r.letGo.freed).port p = r.letGo.freed := State.setPort_port_same _ _ _
    have patch : r.letGo.freed.patch = Option.none := by rw [freed]; exact unpatched
    have unparked : r.letGo.freed.isParked = false := by rw [freed, unpatched]; rfl
    rw [State.portBidsIfQualified_stays (.inl (State.bidsOn?_eq_none (.inr (.inl (by rw [port]; exact patch))))),
      State.evalPort_unpatched (by rw [port]; exact patch) (by rw [port]; exact unparked)]
    exact State.settle_of_none none
  have image (unpatched : r.patch = Option.none) (mine : r.reservedBy = some c) (rest : r.state = .parked ∨ r.parkedKeyed = true ∧ 0 < r.cfg.turnaround)
      (hu : ((if r.parkedKeyed then untargeted.setPort p r.letGo.freed else (untargeted.setPort p r.letGo.freed).portBidsIfQualified p).evalPort p).settle =
        untargeted.setPort p r.letGo.freed) :
      exec (.releasePort c (portNumber p)) s = .next ((untargeted.setPort p { r.unsupervised with
        state := .detached, reservedBy := Option.none, guardLeft := if r.parkedKeyed = true then r.cfg.turnaround else r.guardLeft }).replied c
        ⟨.ok, [byteOf (portNumber p), 0#8, 0#8, 0#8]⟩) := by
    have patch : r.letGo.freed.patch = Option.none := by rw [freed]; exact unpatched
    rw [releases mine rest hu, State.reservationImage_setPort, patch, freed, unpatched]
    rfl
  have parkedKeyedNot (parked : r.state = .parked) : r.parkedKeyed = false := by unfold PortRec.parkedKeyed; rw [parked]
  refine ⟨fun other => refusesReserve _ ?_, fun mine => refusesReserve _ ?_, fun n free home owner shared => refusesReserve _ ?_,
    fun free edits => ?_, fun none free unpatched detached quiet => ?_, fun other => refusesRelease _ ?_, fun free => refusesRelease _ ?_,
    fun mine => ?_, fun none mine unpatched parked => ?_, fun none mine unpatched keyed time => ?_, fun n none mine home rest clear => ?_,
    fun k out => ⟨?_, ?_⟩⟩
  · exact (State.onPort_portNumber _ _ _ _).trans (if_pos other)
  · refine (State.onPort_portNumber _ _ _ _).trans ?_
    rw [show (h.port p).reservedBy = some c from mine, if_neg notOther, if_pos rfl]
    rfl
  · refine (State.onPort_portNumber _ _ _ _).trans ?_
    have forbidden : h.forbiddenPatch c p = some n := by
      unfold State.forbiddenPatch
      rw [show (h.port p).patch = some n from home]
      exact if_neg fun e => ((PatchRec.mayEdit_iff _ _).mp e).elim owner fun e => by rw [show (s.patch n).shared = true from e] at shared; cases shared
    rw [show (h.port p).reservedBy = Option.none from free, if_neg (by nofun), if_neg (by nofun), forbidden]
    rfl
  · obtain ⟨but, fixed, patch⟩ := kept_reserve h c p
    have whole := but.trans (.of_kept (kept_settle (h.reserve c p)))
    refine ⟨_, exec_reservePort ready free edits rfl, whole.frame (((kept_settle (ns := []) (ps := []) _).ports p).trans fixed) ?_,
      fun none agree ordered quiet => ?_⟩
    · rcases (kept_settle (ns := []) (ps := []) (h.reserve c p)).portPatch p List.not_mem_nil with e | e
      · rw [e]; exact patch
      · exact .inr e
    · have aside := State.reserve_setAside (s := h) (c := c) (p := p) agree (fun n => ⟨(ordered n).1, (ordered n).2.1, fun d hd =>
        ⟨(target d).trans ((ordered n).2.2 d hd).1, State.heard_request ((ordered n).2.2 d hd).2⟩⟩) (by rw [target]; exact quiet)
      refine ⟨aside.state, aside.guard, fun n _ => ?_⟩
      obtain ⟨talker, -, unlisted⟩ := PatchRec.stands_eq_false.mp (aside.out n)
      exact ⟨talker, unlisted⟩
  · have rests : r.inRelaySet = false ∧ r.ptt = false := by simp [PortRec.inRelaySet, PortRec.ptt, detached]
    have written : h.updPort p (fun r => r.parkFor c) = h.setPort p (r.parkFor c) :=
      State.updPort_of_masked ((PortRec.masked_of_unkeyed (r := r.parkFor c) rfl).trans (PortRec.masked_of_unkeyed rests.2).symm)
    have parked : ((h.setPort p (r.parkFor c)).port p) = r.parkFor c := State.setPort_port_same _ _ _
    have settled : (h.reserve c p).settle = h.setPort p (r.parkFor c) := by
      have silent : (h.setPort p (r.parkFor c)).keyedFor p = false :=
        State.keyedFor_untargeted (c := c) (by rw [parked]; rfl) (by rw [State.setPort_console, target]; exact quiet)
      have stays : (h.setPort p (r.parkFor c)).evalParked p = h.setPort p (r.parkFor c) := by
        unfold State.evalParked
        rw [parked, silent]; rfl
      rw [State.reserve_unpatched (s := h) unpatched, State.unkeyIfRelaying_of_rest (s := h) rests.1, written, stays]
      exact State.settle_of_none none
    refine (exec_reservePort ready free (fun n hn => ?_) settled).trans ?_
    · rw [show (s.port p).patch = Option.none from unpatched] at hn; cases hn
    · rw [State.reservationImage, parked, show (r.parkFor c).patch = Option.none from unpatched]
      cases c <;> rfl
  · exact (State.onPort_portNumber _ _ _ _).trans (if_pos other)
  · refine (State.onPort_portNumber _ _ _ _).trans ?_
    rw [show (h.port p).reservedBy = Option.none from free, if_neg (by nofun), if_neg (by nofun)]
    rfl
  · obtain ⟨but, fixed, patch⟩ := kept_releaseReservation h c p
    have whole := but.trans (.of_kept (kept_settle (h.releaseReservation c p)))
    refine ⟨_, exec_releasePort ready mine rfl, whole.frame (((kept_settle (ns := []) (ps := []) _).ports p).trans fixed) ?_, fun talks => ?_⟩
    · rcases (kept_settle (ns := []) (ps := []) (h.releaseReservation c p)).portPatch p List.not_mem_nil with e | e
      · rw [e]; exact patch
      · exact .inr e
    · have changed : ((h.letGo c p).console c).target = .none := by
        have left : ((h.changeTarget c .none).console c).target = .none :=
          State.keepsTarget_none (traffic_changeTarget h c .none) (by rw [State.setConsole_console_same])
        unfold State.letGo
        rw [if_pos ((target c).trans talks)]
        dsimp only
        split
        · exact (congrArg ConsoleRec.target (State.updPort_console ..)).trans left
        · exact left
      refine State.keepsTarget_none (traffic_settle _) (State.keepsTarget_none (traffic_endReservation (W := fun _ => True) _ p _ trivial) ?_)
      rw [State.updPort_console]
      exact changed
  · have released := image unpatched mine (.inl parked) (by rw [parkedKeyedNot parked]; exact alone none unpatched)
    rw [parkedKeyedNot parked] at released
    exact released
  · have stays := State.portBidsIfQualified_stays (s := untargeted.setPort p r.letGo.freed) (p := p)
      (.inl (State.bidsOn?_eq_none (.inr (.inl (by rw [State.setPort_port_same, freed]; exact unpatched)))))
    have released := image unpatched mine (.inr ⟨keyed, time⟩) (by
      rw [if_pos keyed]
      exact (congrArg (fun t : State => (t.evalPort p).settle) stays.symm).trans (alone none unpatched))
    rw [keyed] at released
    exact released
  · have rests : r.letGo.freed = { r.unsupervised with
        state := .idle, reservedBy := Option.none, guardLeft := if r.parkedKeyed = true then r.cfg.turnaround else r.guardLeft } := by
      rw [freed, show r.patch = some n from home]; rfl
    have port : (untargeted.setPort p r.letGo.freed).port p = r.letGo.freed := State.setPort_port_same _ _ _
    have idle : r.letGo.freed.state = .idle := by rw [rests]
    have member : r.letGo.freed.patch = some n := by rw [rests]; exact home
    have unparked : r.letGo.freed.isParked = false := PortRec.unparked_of (.inl idle)
    have carrier : r.letGo.freed.qualified = r.qualified := by rw [rests]; rfl
    have lockout : r.letGo.freed.lockoutLeft = r.lockoutLeft := by rw [rests]; rfl
    refine ⟨fun quiet => ?_, fun qualified unmasked unlocked => ?_⟩
    · have silent : untargeted.setPort p r.letGo.freed =
          if r.parkedKeyed then untargeted.setPort p r.letGo.freed else (untargeted.setPort p r.letGo.freed).portBidsIfQualified p := by
        split
        · rfl
        · refine (State.portBidsIfQualified_stays ?_).symm
          rw [port]
          rcases quiet with unqualified | locked | closing
          · exact .inr (carrier.trans unqualified)
          · exact .inl (State.bidsOn?_eq_none (.inr (.inr (by rw [port, lockout]; exact locked))))
          · refine .inl (Option.eq_none_iff_forall_ne_some.mpr fun m hm => ?_)
            obtain ⟨at', -, -, -, takes⟩ := State.bidsOn?_eq_some.mp hm
            obtain rfl : n = m := Option.some.inj (member.symm.trans ((congrArg PortRec.patch port).symm.trans at'))
            rw [show (untargeted.setPort p r.letGo.freed).patch n = s.patch n from rfl, PatchRec.takesBids, closing] at takes
            cases takes
      have keyed := State.evalPort_unkeyed (s := untargeted.setPort p r.letGo.freed) (p := p) (n := n) (by rw [port]; exact unparked)
        (by rw [port]; simp [PortRec.inRelaySet, idle]) (by rw [port]; exact member)
      rw [port, State.setPort_setPort] at keyed
      have eligible : (untargeted.setPort p r.letGo.freed).eligible n p = true ↔ s.relays n p := by
        rw [State.eligible_iff, State.holdable_iff, port, carrier, rests]
        exact ⟨fun ⟨⟨mode, kind, _, fault⟩, state, talker, half⟩ => ⟨mode, state, talker, kind, fault, half⟩,
          fun ⟨mode, state, talker, kind, fault, half⟩ => ⟨⟨mode, kind, rfl, fault⟩, state, talker, half⟩⟩
      refine ⟨untargeted.setPort p (if (untargeted.setPort p r.letGo.freed).eligible n p then (r.letGo.freed.decided .key).1 else r.letGo.freed),
        releases mine rest (by rw [← silent, keyed]; exact State.settle_of_none (s := untargeted.setPort p _) none), rfl, ?_, ?_, ?_, ?_⟩
      · rw [State.setPort_port_same]
        split
        · rw [PortRec.decided_key_reservedBy, rests]
        · rw [rests]
      · rw [State.setPort_console, ← aimed]
        exact fun e => State.untargeted_target h c p e
      · rw [State.setPort_port_same]
        split
        · rw [PortRec.decided_key_guardLeft, rests]
        · rw [rests]
      · rw [State.setPort_port_same]
        by_cases relays : s.relays n p
        · rw [if_pos (eligible.mpr relays), if_pos relays, PortRec.keyed_state, rests]
          rfl
        · rw [if_neg (fun e => relays (eligible.mp e)), if_neg relays, idle]
    · have notKeyed : r.parkedKeyed = false := by
        rw [Bool.eq_false_iff]
        intro keyed
        rw [show r.masked = true from PortRec.masked_of_parkedKeyed keyed] at unmasked
        cases unmasked
      intro freedRec
      have isFreed : r.letGo.freed = freedRec := by rw [rests, notKeyed]; rfl
      have bids {u : State} (raised : ((untargeted.setPort p r.letGo.freed).portBids p).evalPort p = u ∧ u.raised = []) :
          exec (.releasePort c (portNumber p)) s = .next (u.replied c ⟨.ok, u.reservationImage p⟩) := by
        refine releases mine rest ?_
        rw [notKeyed, if_neg Bool.false_ne_true, State.portBidsIfQualified, port, carrier, if_pos qualified, raised.1]
        exact State.settle_of_none raised.2
      obtain ⟨u, isU⟩ : ∃ u, u = untargeted.setPort p r.letGo.freed := ⟨_, rfl⟩
      rw [← isU] at bids port
      have unmasked' : r.letGo.freed.masked = false := by
        rw [PortRec.masked_of_unkeyed (by simp [PortRec.ptt, idle]), rests, notKeyed]
        have guard : decide (0 < r.guardLeft) = false := by
          unfold PortRec.masked at unmasked
          simp only [Bool.or_eq_false_iff] at unmasked
          exact unmasked.2
        exact guard
      refine ⟨fun nobody => ?_, fun talk out silent => ?_⟩
      · obtain ⟨granted, raised, bidder, settled⟩ := State.portBids_granted (s := u) (p := p) (n := n)
          (by rw [isU]; exact (SameButBidder.setPort untargeted p _).awaits (State.awaits_of_nobodyTalks (s := untargeted) nobody (.port p)))
          (by rw [port]; exact member) (by rw [port]; exact unparked) (by rw [port]; exact lockout.trans unlocked) (by rw [port]; exact unmasked')
        refine ⟨u.portBids p, bids ⟨settled, raised.trans (by rw [isU]; exact none)⟩, ?_, ?_⟩
        · rw [bidder, port, isFreed]; rfl
        · rw [← isFreed, ← isU]; exact granted
      · have same (q : PortId) (e : q ≠ p) : u.port q = s.port q := by rw [isU]; exact (State.setPort_port _ _ _ _).trans (if_neg e)
        have patch : u.patch n = s.patch n := by rw [isU]; rfl
        obtain ⟨-, -, patch', raised'⟩ := State.portBids_onTalk (s := u) (p := p) (n := n) (by rw [patch]; exact talk) (by rw [port]; exact member)
          (by rw [port]; exact idle) (by rw [port]; exact lockout.trans unlocked) (by rw [patch]; exact out) (by rw [port]; exact unmasked')
          (fun q hq hr => by
            rw [patch] at hq
            by_cases e : q = p
            · subst e
              rw [port, PortRec.inRelaySet, idle] at hr; cases hr
            · rw [same q e] at hr ⊢
              exact silent q hq hr)
        refine ⟨_, bids ⟨rfl, raised'.trans (by rw [isU]; exact none)⟩, ?_⟩
        rw [← isFreed, ← isU]; exact patch'
  · exact exec_refused (q := .reservePort k) rfl ready (State.onPort_outOfRange out _ _ _)
  · exact exec_refused (q := .releasePort k) rfl ready (State.onPort_outOfRange out _ _ _)

end Sys2Proof.Machine

/-! SET_PATCH: what is stored, and what a switch of the mode keys and unkeys (R61, R62, R104). -/

namespace Sys2Proof.Machine

/-! ### The values as stored (R61) -/

theorem storeThreshold_eq (sel : Option Nat) (present : Nat) :
    storeThreshold sel present = (sel.map (fun v => if v = 0 then 1 else min v 10)).getD present := by
  cases sel with
  | none => rfl
  | some v =>
    show max 1 (min v 10) = if v = 0 then 1 else min v 10
    split <;> omega

theorem storeTimeOut_eq (sel : Option Nat) (present : Nat) :
    storeTimeOut sel present = (sel.map (fun v => if v = 0 then 0 else if v < 10 then 10 else min v 600)).getD present := by
  cases sel with
  | none => rfl
  | some v =>
    show (if v = 0 then 0 else max 10 (min v 600)) = if v = 0 then 0 else if v < 10 then 10 else min v 600
    split_ifs <;> omega

theorem storeThreshold_clamps (sel : Option Nat) : sel.any (fun v => storeThreshold (some v) v != v) = true ↔
    sel = some 0 ∨ sel.any (fun v => decide (10 < v)) = true := by
  cases sel with
  | none => simp
  | some v => simp [storeThreshold]; omega

theorem storeTimeOut_clamps (sel : Option Nat) : sel.any (fun v => storeTimeOut (some v) v != v) = true ↔
    (∃ v, sel = some v ∧ 0 < v ∧ v < 10) ∨ sel.any (fun v => decide (600 < v)) = true := by
  cases sel with
  | none => simp
  | some v =>
    have clamps : storeTimeOut (some v) v ≠ v ↔ (0 < v ∧ v < 10) ∨ 600 < v := by
      unfold storeTimeOut
      dsimp only
      split <;> omega
    simpa using clamps

theorem PatchSelection.clamped_iff (sel : PatchSelection) : PatchSelection.clamped sel = true ↔
    sel.threshold = some 0 ∨ sel.threshold.any (fun v => decide (10 < v)) = true ∨ clampedBy Config.maxGain sel.level = true ∨
      clampedBy 5000 sel.hangTime = true ∨ (∃ v, sel.timeOutLimit = some v ∧ 0 < v ∧ v < 10) ∨
      sel.timeOutLimit.any (fun v => decide (600 < v)) = true ∨ clampedBy 120 sel.lockoutTime = true := by
  unfold PatchSelection.clamped
  rw [Bool.or_eq_true, Bool.or_eq_true, Bool.or_eq_true, Bool.or_eq_true, storeThreshold_clamps, storeTimeOut_clamps]
  simp only [or_assoc]

theorem storeMode_eq (sel : Option Nat) (present : PatchMode) : (∀ v, sel = some v → v ≤ 1) → storeCode modeOf? sel present =
    match sel with
    | some 0 => .live
    | some _ => .rehearse
    | none => present := by
  intro h
  cases sel with
  | none => rfl
  | some v =>
    have low := h v rfl
    interval_cases v <;> rfl

theorem storeStyle_eq (sel : Option Nat) (present : PatchStyle) : (∀ v, sel = some v → v ≤ 1) → storeCode styleOf? sel present =
    match sel with
    | some 0 => .preempt
    | some _ => .mix
    | none => present := by
  intro h
  cases sel with
  | none => rfl
  | some v =>
    have low := h v rfl
    interval_cases v <;> rfl

theorem outside_eq_false {α : Type} {code? : Nat → Option α} {sel : Option Nat} (h : ∀ v, sel = some v → (code? v).isSome = true) :
    outside code? sel = false := by
  cases sel with
  | none => rfl
  | some v =>
    show (code? v).isNone = false
    cases e : code? v with
    | none => have := h v rfl; rw [e] at this; cases this
    | some _ => rfl

/-! ### The traffic a change of mode or style gives rise to (R62, R90, R104) -/

/-- A bid keeps what is fixed of the patch, and begins no CLOSING. -/
theorem State.takeBid_fixed (s : State) (n : SlotId) (src : Source) : ((s.takeBid n src).patch n).fixedPart = (s.patch n).fixedPart ∧
    (((s.takeBid n src).patch n).state = .closing → (s.patch n).state = .closing) := by
  have granted : ((s.grant n src).patch n).fixedPart = (s.patch n).fixedPart ∧
      (((s.grant n src).patch n).state = .closing → (s.patch n).state = .closing) := by
    rw [State.grant_patch_eq, if_pos rfl]; exact ⟨rfl, nofun⟩
  have written {r : PatchRec} (h : r.fixedPart = (s.patch n).fixedPart ∧ r.state = (s.patch n).state) :
      ((s.setPatch n r).patch n).fixedPart = (s.patch n).fixedPart ∧
        (((s.setPatch n r).patch n).state = .closing → (s.patch n).state = .closing) := by
    rw [State.setPatch_patch_same]; exact ⟨h.1, fun e => h.2 ▸ e⟩
  have listed : ((s.listBid n src).patch n).fixedPart = (s.patch n).fixedPart ∧
      (((s.listBid n src).patch n).state = .closing → (s.patch n).state = .closing) := written ⟨rfl, rfl⟩
  unfold State.takeBid State.bidOnTalk
  split
  · exact granted
  · exact granted
  · split
    · split
      · rw [State.preempt_patch, if_pos rfl]; exact ⟨rfl, nofun⟩
      · exact listed
    · exact listed
    · split
      · exact written ⟨rfl, rfl⟩
      · exact listed
    · exact listed
  · exact ⟨rfl, id⟩
  · exact ⟨rfl, id⟩

theorem State.evalPatch_patch (s : State) (n m : SlotId) : (s.evalPatch n).patch m = s.patch m := foldl_applyKey_patch _ _ _ _

theorem State.modeChanges_patch (s : State) (n : SlotId) (old : PatchMode) (m : SlotId) : (s.modeChanges n old).patch m = s.patch m := by
  unfold State.modeChanges
  split
  · rfl
  · exact s.evalPatch_patch n m

theorem kept_modeChanges (s : State) (n : SlotId) (old : PatchMode) : Kept [] [] s (s.modeChanges n old) := by
  unfold State.modeChanges
  split
  · exact Kept.refl _
  · exact kept_evalPatch _ _

/-- Where the style stays, or no partner stands, nothing follows of it. -/
theorem State.styleChanges_cases (s : State) (n : SlotId) (old : PatchStyle) : s.styleChanges n old = s ∨
    ∃ d, (s.patch n).partner = some d ∧ s.styleChanges n old =
      if (s.patch n).state = .talk then ((s.setPatch n { s.patch n with partner := none }).takeBid n (.console d)).evalPatch n
      else s.setPatch n { s.patch n with partner := none } := by
  unfold State.styleChanges
  split
  · rename_i partner
    exact .inr ⟨_, partner, rfl⟩
  · exact .inl rfl

theorem State.styleChanges_same {s : State} {n : SlotId} {old : PatchStyle} (h : (s.patch n).style = old) : s.styleChanges n old = s := by
  unfold State.styleChanges
  rw [h]
  cases old <;> rfl

theorem kept_styleChanges (s : State) (n : SlotId) (old : PatchStyle) : Kept [] [] s (s.styleChanges n old) := by
  have vacated : Kept [] [] s (s.setPatch n { s.patch n with partner := none }) := kept_setPatch (.inr (.inl rfl))
  rcases s.styleChanges_cases n old with e | ⟨d, -, e⟩ <;> rw [e]
  · exact Kept.refl _
  · split
    · exact vacated.trans ((flow_takeBid _ _ _).toKept.trans (kept_evalPatch _ _))
    · exact vacated

/-- The record of the patch keeps what is fixed of it, and begins no CLOSING; in CLOSING it keeps its state too. -/
theorem State.styleChanges_fixed (s : State) (n : SlotId) (old : PatchStyle) :
    ((s.styleChanges n old).patch n).fixedPart = (s.patch n).fixedPart ∧
      (((s.styleChanges n old).patch n).state = .closing ↔ (s.patch n).state = .closing) := by
  rcases s.styleChanges_cases n old with e | ⟨d, -, e⟩ <;> rw [e]
  · exact ⟨rfl, Iff.rfl⟩
  · have here : (s.setPatch n { s.patch n with partner := none }).patch n = { s.patch n with partner := none } := State.setPatch_patch_same ..
    split
    · rename_i talk
      obtain ⟨fixed, closing⟩ := (s.setPatch n { s.patch n with partner := none }).takeBid_fixed n (.console d)
      rw [here] at fixed closing
      rw [State.evalPatch_patch]
      refine ⟨fixed, closing, fun e => ?_⟩
      rw [talk] at e; cases e
    · rw [here]; exact ⟨rfl, Iff.rfl⟩

theorem State.heldClosing.styleChanges {K : PatchRec → Prop} {s : State} {n : SlotId} (vacates : ∀ {r}, K r → K { r with partner := none })
    (closed : ClosingRecords K) (h : s.heldClosing K n) (old : PatchStyle) : (s.styleChanges n old).heldClosing K n := by
  rcases s.styleChanges_cases n old with e | ⟨d, -, e⟩ <;> rw [e]
  · exact h
  · rw [if_neg (by rw [closed.closing h.record]; nofun)]
    have here : (s.setPatch n { s.patch n with partner := none }).patch n = { s.patch n with partner := none } := State.setPatch_patch_same ..
    refine ⟨by rw [here]; exact vacates h.record, ?_, ?_, ?_⟩ <;> rw [here]
    · exact h.members
    · exact h.talker
    · exact h.events

/-- The records of a CLOSING patch with one fixed part. -/
theorem closingRecords_fixed (x : PatchRec) : ClosingRecords (fun r => r.fixedPart = x ∧ r.state = .closing) where
  closing h := h.2
  withdraws h _ := h

/-! ### SET_PATCH (R61, R62) -/

theorem State.patchStored_fixed (s : State) (n : SlotId) (sel : PatchSelection) :
    ((s.patchStored n sel).patch n).fixedPart = ((s.patch n).store sel).fixedPart ∧
      (((s.patchStored n sel).patch n).state = .closing ↔ (s.patch n).state = .closing) := by
  have moded : ((s.setPatch n ((s.patch n).store sel)).modeChanges n (s.patch n).mode).patch n = (s.patch n).store sel := by
    rw [State.modeChanges_patch]; exact State.setPatch_patch_same ..
  unfold State.patchStored
  obtain ⟨fixed, closing⟩ := ((s.setPatch n ((s.patch n).store sel)).modeChanges n (s.patch n).mode).styleChanges_fixed n (s.patch n).style
  rw [moded] at fixed closing
  exact ⟨fixed, closing⟩

theorem kept_patchStored (s : State) (n : SlotId) (sel : PatchSelection) : Kept [n] [] s (s.patchStored n sel) :=
  (kept_setPatch (.inl List.mem_cons_self)).trans (((kept_modeChanges _ _ _).trans (kept_styleChanges _ _ _)).mono)

/-- In CLOSING, with the relay set fit and no carrier event waiting, SET_PATCH keeps the patch. -/
theorem State.patchStored_held {s : State} {n : SlotId} {sel : PatchSelection} (agree : s.membersAgree) (fit : s.relayFit) (none : s.raised = [])
    (closing : (s.patch n).state = .closing) :
    (s.patchStored n sel).settle.heldClosing (fun r => r.fixedPart = ((s.patch n).store sel).fixedPart ∧ r.state = .closing) n := by
  have here : (s.setPatch n ((s.patch n).store sel)).patch n = (s.patch n).store sel := State.setPatch_patch_same ..
  have stored : (s.setPatch n ((s.patch n).store sel)).heldClosing
      (fun r => r.fixedPart = ((s.patch n).store sel).fixedPart ∧ r.state = .closing) n := by
    refine ⟨by rw [here]; exact ⟨rfl, closing⟩, ?_, ?_, ?_⟩
    · rw [here]; exact fun q hq => (agree.1 n q).mp hq
    · rw [here]; exact fun q talker home => fit.talker talker home
    · intro e he
      rw [show (s.setPatch n ((s.patch n).store sel)).raised = [] from none] at he
      cases he
  have moded : ((s.setPatch n ((s.patch n).store sel)).modeChanges n (s.patch n).mode).heldClosing
      (fun r => r.fixedPart = ((s.patch n).store sel).fixedPart ∧ r.state = .closing) n := by
    unfold State.modeChanges
    split
    · exact stored
    · exact stored.evalPatch
  exact (moded.styleChanges (fun h => h) (closingRecords_fixed _) _).settle (closingRecords_fixed _)

/-! ### A switch of the mode (R62, R104) -/

/-- Patch n is in REHEARSE, no port of the list is keyed, and the ports are members of no other patch (R97, R104). -/
structure State.unrelayed (s : State) (n : SlotId) (l : List PortId) : Prop where
  mode : s.patch n ≠ PatchRec.unused → (s.patch n).mode = .rehearse
  home : ∀ q ∈ l, ∀ m, q ∈ (s.patch m).members ∨ (s.port q).patch = some m → m = n
  rests : ∀ q ∈ l, (s.port q).inRelaySet = false

theorem PortMove.patch_keeps {W : PortId → Prop} {s : State} {p : PortId} {f : PortRec → PortRec} (m : PortMove W s p f) :
    (f (s.port p)).patch = (s.port p).patch ∨ (f (s.port p)).patch = none := by
  cases m with
  | key => exact .inl (PortRec.keyInto_patch _ _ _)
  | keyParked => exact .inl (PortRec.keyInto_patch _ _ _)
  | unkey => exact .inl rfl
  | unkeyParked => exact .inl rfl
  | talks => exact .inl rfl
  | idles => exact .inl rfl
  | leaves => exact .inr (PortRec.leavePatch_patch _)

theorem PortMove.unrelayed {W : PortId → Prop} {s : State} {p : PortId} {f : PortRec → PortRec} (m : PortMove W s p f) {n : SlotId} {l : List PortId}
    (h : s.unrelayed n l) (hp : p ∈ l) : (f (s.port p)).inRelaySet = false := by
  cases m with
  | key k home hold live =>
    obtain rfl := h.home p hp k home
    have used : s.patch k ≠ PatchRec.unused := PatchRec.ne_unused_of_state (by rcases live with e | e <;> rw [e] <;> nofun)
    have mode := h.mode used
    rw [(State.holdable_iff.mp hold).1] at mode
    cases mode
  | keyParked => exact PortRec.keyInto_parked _
  | unkey => rfl
  | unkeyParked => rfl
  | talks => rfl
  | idles => rfl
  | leaves => exact PortRec.leavePatch_rests _

theorem Move.unrelayed {W : PortId → Prop} {s t : State} (m : Move W s t) {n : SlotId} {l : List PortId} (h : s.unrelayed n l) : t.unrelayed n l where
  mode used := by
    rcases m.patch_cases n with e | ⟨e, -⟩ | ⟨was, fixed, -, -⟩
    · rw [e] at used ⊢; exact h.mode used
    · exact absurd e used
    · rw [PatchRec.fixedPart_mode fixed]; exact h.mode was
  home q hq k hk := by
    refine h.home q hq k (hk.imp (fun member => ?_) fun home => ?_)
    · rcases m.patch_cases k with e | ⟨e, -⟩ | ⟨-, fixed, -, -⟩
      · rwa [e] at member
      · rw [e] at member; cases member
      · rwa [PatchRec.fixedPart_members fixed] at member
    · rcases m.port_cases q with e | ⟨f, move, e⟩
      · rwa [e] at home
      · rw [e, PortRec.remask_patch] at home
        rcases move.patch_keeps with same | gone
        · rwa [same] at home
        · rw [gone] at home; cases home
  rests q hq := by
    rcases m.port_cases q with e | ⟨f, move, e⟩
    · rw [e]; exact h.rests q hq
    · rw [e, PortRec.inRelaySet, PortRec.remask_state]; exact move.unrelayed h hq

/-- A member that is keyed in a patch in REHEARSE is unkeyed, and no other is keyed (R97, R104). -/
theorem State.keyDecision_rehearse {s : State} {n : SlotId} (mode : (s.patch n).mode = .rehearse) (q : PortId) :
    s.keyDecision n q = if (s.port q).inRelaySet then .unkey else .leave := by
  have unfit : ¬ s.holdable n q = true := fun e => by
    rw [(State.holdable_iff.mp e).1] at mode; cases mode
  have ineligible : s.eligible n q = false := Bool.eq_false_iff.mpr fun e => unfit (State.eligible_iff.mp e).1
  cases relays : (s.port q).inRelaySet with
  | true =>
    have stays : s.staysKeyed n q = false := by
      unfold State.staysKeyed
      split
      · exact Bool.eq_false_iff.mpr unfit
      · exact ineligible
    rw [State.keyDecision_of_in relays, stays]; rfl
  | false => rw [State.keyDecision_of_out relays, ineligible]; rfl

theorem State.evalPatch_unrelayed {s : State} {n : SlotId} (agree : s.membersAgree) (mode : (s.patch n).mode = .rehearse) :
    (s.evalPatch n).unrelayed n (s.patch n).members where
  mode _ := by rw [State.evalPatch_patch]; exact mode
  home q hq m hm := by
    rw [State.evalPatch_patch, State.evalPatch_home] at hm
    have home := (agree.1 n q).mp hq
    rcases hm with e | e
    · exact Option.some.inj (((agree.1 m q).mp e).symm.trans home)
    · exact Option.some.inj (e.symm.trans home)
  rests q hq := by
    unfold State.evalPatch
    rw [foldl_applyKey_port, if_pos hq, State.keyDecision_rehearse mode]
    split
    · unfold PortRec.inRelaySet; rw [PortRec.decided_unkey_state]
    · rename_i e; exact Bool.eq_false_iff.mpr e

/-- The record as an admitted selection stores it, item by item. -/
theorem PatchRec.store_eq {r : PatchRec} {sel : PatchSelection} : (∀ v, sel.mode = some v → v ≤ 1) →
    (∀ v, sel.style = some v → v ≤ 1) → r.store sel = { r with
      label := sel.label.getD r.label
      mode := match sel.mode with
        | some 0 => .live
        | some _ => .rehearse
        | none => r.mode
      style := match sel.style with
        | some 0 => .preempt
        | some _ => .mix
        | none => r.style
      threshold := (sel.threshold.map (fun v => if v = 0 then 1 else min v 10)).getD r.threshold
      level := (sel.level.map (fun v => min v 1023)).getD r.level
      hangTime := (sel.hangTime.map (fun v => min v 5000)).getD r.hangTime
      timeOutLimit := (sel.timeOutLimit.map (fun v => if v = 0 then 0 else if v < 10 then 10 else min v 600)).getD r.timeOutLimit
      lockoutTime := (sel.lockoutTime.map (fun v => min v 120)).getD r.lockoutTime } := by
  intro mode style
  unfold PatchRec.store
  rw [storeMode_eq _ _ mode, storeStyle_eq _ _ style, storeThreshold_eq, storeTimeOut_eq, storeUpTo_eq, storeUpTo_eq, storeUpTo_eq]
  rfl

/-- Settles O44: the record is stored by one write, a CLOSING patch is held by an invariant of its settling, and each switch is one evaluation. -/
theorem setPatchStores : Obligations.SetPatchStores := by
  unfold Obligations.SetPatchStores
  refine ⟨fun s c n sel ready agree used edits modes styles label => ?_, fun s c n ready none agree used edits => ?_⟩
  · intro upTo above r
    let h := s.heard c
    have checks : firstRefusal (h.setPatchChecks c n sel) = none := by
      refine setPatchChecks_none (s := h) used edits (outside_eq_false fun v e => ?_) (outside_eq_false fun v e => ?_) ?_
      · have low := modes v e
        interval_cases v <;> rfl
      · have low := styles v e
        interval_cases v <;> rfl
      · cases e : sel.label with
        | none => rfl
        | some l =>
          obtain ⟨short, printable⟩ := label l e
          show (!labelAdmitted l) = false
          rw [labelAdmitted_row, decide_eq_false_iff_not]
          rintro (long | ⟨b, hb, low | high⟩)
          · omega
          · have := printable b hb; omega
          · have := printable b hb; omega
    have stored := PatchRec.store_eq (r := r) modes styles
    obtain ⟨fixed, closing⟩ := h.patchStored_fixed n sel
    refine ⟨(h.patchStored n sel).settle, ?_, ?_, ((kept_patchStored h n sel).trans (kept_settle _)).frame⟩
    · rw [exec_setPatch ready checks rfl, State.patchList_one, okOrClamped]
      exact congrArg (fun st => Host.Outcome.next (State.replied _ c ⟨st, _⟩)) (if_congr (PatchSelection.clamped_iff sel) rfl rfl)
    · by_cases closes : r.state = .closing
      · by_cases calm : s.raised = [] ∧ s.relayFit
        · exact .inl ((State.patchStored_held (s := h) agree calm.2 calm.1 closes).record.1.trans (congrArg PatchRec.fixedPart stored))
        · refine ((closingRecords_fixed _).settle (.inl ⟨fixed, closing.mpr closes⟩)).imp (fun e => ?_) fun e => ⟨closes, e, calm⟩
          exact e.1.trans (congrArg PatchRec.fixedPart stored)
      · refine .inl ?_
        rcases (traffic_settle (h.patchStored n sel)).keepsPatches n with ⟨e, -⟩ | ⟨-, e⟩
        · exact e.trans (fixed.trans (congrArg PatchRec.fixedPart stored))
        · exact absurd (closing.mp e) closes
  · intro P h turned answered
    have answers {v : Nat} (low : v ≤ 1) {u : State} (hu : (h.patchStored n { noPatchItem with mode := some v }).settle = u) : answered v u := by
      have checks : firstRefusal (h.setPatchChecks c n { noPatchItem with mode := some v }) = Option.none := by
        refine setPatchChecks_none (s := h) used edits (outside_eq_false fun w e => ?_) rfl rfl
        obtain rfl := Option.some.inj e
        interval_cases v <;> rfl
      exact (exec_setPatch ready checks hu).trans rfl
    have switches {v : Nat} {m : PatchMode} (hv : storeCode modeOf? (some v) P.mode = m) :
        h.patchStored n { noPatchItem with mode := some v } = (h.setPatch n { P with mode := m }).modeChanges n P.mode := by
      have style : (((h.setPatch n { P with mode := m }).modeChanges n P.mode).patch n).style = P.style := by
        rw [State.modeChanges_patch, State.setPatch_patch_same]
      have stored : (h.patch n).store { noPatchItem with mode := some v } = { P with mode := m } := by subst hv; rfl
      unfold State.patchStored
      rw [stored]
      exact State.styleChanges_same style
    have held {v : Nat} {m : PatchMode} (low : v ≤ 1) (hv : storeCode modeOf? (some v) P.mode = m) (mode : P.mode = m) : answered v h := by
      refine answers low ?_
      rw [switches hv, State.modeChanges_same (by rw [State.setPatch_patch_same]; exact mode.symm), ← mode,
        show h.setPatch n { P with mode := P.mode } = h from State.setPatch_self h n]
      exact State.settle_of_none none
    have changed {v : Nat} {m : PatchMode} (low : v ≤ 1) (hv : storeCode modeOf? (some v) P.mode = m) (mode : P.mode ≠ m) {u : State}
        (hu : ((h.setPatch n { P with mode := m }).evalPatch n).settle = u) : answered v u := by
      refine answers low ?_
      rw [switches hv, State.modeChanges, if_neg (by rw [State.setPatch_patch_same]; exact fun e => mode e.symm)]
      exact hu
    have record (m : PatchMode) : (h.setPatch n { P with mode := m }).patch n = { P with mode := m } := State.setPatch_patch_same ..
    refine ⟨fun live => held (by omega) rfl live, fun rehearse => held (by omega) rfl rehearse, fun live => ?_, fun rehearse rests => ⟨fun silent => ?_, fun heard => ?_⟩⟩
    · obtain ⟨t, isT⟩ : ∃ t, t = h.setPatch n { P with mode := .rehearse } := ⟨_, rfl⟩
      have here : t.patch n = { P with mode := .rehearse } := by rw [isT]; exact record _
      have agrees : t.membersAgree := by
        rw [isT]
        exact agree_modPatch (s := h) (f := fun r => { r with mode := .rehearse }) agree rfl fun e => absurd e used
      have unrelayed : (t.evalPatch n).settle.unrelayed n P.members := by
        have evaluated := State.evalPatch_unrelayed agrees (n := n) (congrArg PatchRec.mode here)
        rw [here] at evaluated
        exact settle_keeps (W := fun _ => True) (I := fun u => u.unrelayed n P.members) (fun m i => m.unrelayed i) (fun _ _ _ => trivial) evaluated
      refine ⟨(t.evalPatch n).settle, changed (m := .rehearse) (by omega) rfl (by rw [live]; nofun) (by rw [isT]), unrelayed.rests, fun quiet => ?_⟩
      have eval := State.evalPatch_quiet (s := t) (n := n) (by rw [isT]; exact fun q hq hr => quiet q (by rw [← isT, here] at hq; exact hq) hr)
      rw [State.settle_of_none (eval.raised.trans (by rw [isT]; exact none))]
      have decides := State.keyDecision_rehearse (s := t) (n := n) (congrArg PatchRec.mode here)
      have same (q : PortId) : t.port q = s.port q := by rw [isT]; rfl
      refine ⟨(eval.patch n).trans here, fun m hm => (eval.patch m).trans ?_, fun q hq relays => ?_, fun q out => ?_, ?_, ?_⟩
      · rw [isT, State.setPatch_patch, if_neg hm]; rfl
      · obtain ⟨carrier, qualify, drop, time⟩ := quiet q hq relays
        rw [eval.port, here, if_pos hq, decides, same, if_pos relays, PortRec.decided_unkey ⟨carrier, qualify, drop⟩ time]
      · rw [eval.port, here, same]
        split
        · rename_i hq
          rw [decides, same, if_neg fun relays => out ⟨hq, relays⟩]; rfl
        · rfl
      · rw [eval.consoles, isT]; rfl
      · rw [eval.notices, isT]; rfl
    · refine changed (m := .live) (by omega) rfl (by rw [rehearse]; nofun) ?_
      rw [State.evalPatch_of_leave]
      · exact State.settle_of_none (s := turned) none
      · intro q hq
        rw [record] at hq
        rw [State.keyDecision_of_out (s := turned) (rests q hq), if_neg]
        rw [State.eligible_iff, record]
        rintro ⟨-, e, -⟩
        rcases silent with e' | e' <;> rw [show P.state = _ from e'] at e <;> rcases e with e | e <;> cases e
    · have quiet : turned.keyedQuietly n := fun q hq hr => by
        rw [record] at hq
        rw [show turned.port q = s.port q from rfl, rests q hq] at hr; cases hr
      have eval := State.evalPatch_quiet quiet
      have eligible (q : PortId) : turned.eligible n q = true ↔ (s.port q).isParked = false ∧ turned.relays n q := by
        rw [State.eligible_iff, State.holdable_iff]
        exact ⟨fun ⟨⟨mode, kind, parked, fault⟩, state, talker, half⟩ => ⟨parked, mode, state, talker, kind, fault, half⟩,
          fun ⟨parked, mode, state, talker, kind, fault, half⟩ => ⟨⟨mode, kind, parked, fault⟩, state, talker, half⟩⟩
      have decides (q : PortId) (hq : q ∈ P.members) : turned.keyDecision n q = if turned.eligible n q then .key else .leave :=
        State.keyDecision_of_out (rests q hq)
      refine ⟨turned.evalPatch n, changed (by omega) rfl (by rw [rehearse]; nofun) (State.settle_of_none (eval.raised.trans none)),
        (eval.patch n).trans (record _), fun m hm => (eval.patch m).trans (by rw [State.setPatch_patch, if_neg hm]; rfl),
        fun q hq unparked relays => ?_, fun q out => ?_, eval.consoles, eval.notices⟩
      · have port : (turned.evalPatch n).port q = ((s.port q).decided .key).1 := by
          rw [eval.port, record, if_pos hq, decides q hq, if_pos ((eligible q).mpr ⟨unparked, relays⟩)]; rfl
        rw [port]
        refine ⟨PortRec.keyed_state _, PortRec.decided_key_keyUpLeft _, ?_⟩
        by_cases e : (s.port q).cfg.keyUpDelay = 0 <;> simp [PortRec.ptt, PortRec.keyed_state, PortRec.keyedState, e]
      · rw [eval.port, record]
        split
        · rename_i hq
          rw [decides q hq, if_neg fun e => out ⟨hq, (eligible q).mp e⟩]; rfl
        · rfl

end Sys2Proof.Machine

/-! Ports that join a patch: ADD_MEMBERS and CREATE_PATCH (R47 to R52). -/

namespace Sys2Proof.Machine

/-! ### The ports that a command names -/

theorem portsOf_map (ps : List PortId) : portsOf (ps.map portNumber) = ps := by
  induction ps with
  | nil => rfl
  | cons p ps ih =>
    unfold portsOf at ih ⊢
    rw [List.map_cons, List.filterMap_cons, portOf?_portNumber, ih]

theorem firstNoPort_map (ps : List PortId) : firstNoPort (ps.map portNumber) = none := by
  refine List.find?_eq_none.mpr fun k hk => ?_
  obtain ⟨p, -, rfl⟩ := List.mem_map.mp hk
  rw [portOf?_portNumber]
  exact Bool.false_ne_true

theorem firstPort_map {ps : List PortId} {fails : PortId → Bool} (h : ∀ p ∈ ps, fails p = false) : firstPort (ps.map portNumber) fails = none := by
  refine List.find?_eq_none.mpr fun k hk => ?_
  obtain ⟨p, hp, rfl⟩ := List.mem_map.mp hk
  rw [portOf?_portNumber, Option.any_some, h p hp]
  exact Bool.false_ne_true

theorem nodup_portNumbers {ps : List PortId} (h : ps.Nodup) : (ps.map portNumber).Nodup := h.map fun _ _ => portNumber_injective

theorem count_portNumbers {ps : List PortId} (h : ps.Nodup) (k : Nat) : decide (1 < (ps.map portNumber).count k) = false :=
  decide_eq_false (by have := List.nodup_iff_count_le_one.mp (nodup_portNumbers h) k; omega)

theorem firstRepeated_map {ps : List PortId} (h : ps.Nodup) : firstRepeated (ps.map portNumber) = none :=
  List.find?_eq_none.mpr fun k _ => by rw [count_portNumbers h]; exact Bool.false_ne_true

theorem length_le_of_nodup {ps : List PortId} (h : ps.Nodup) : ps.length ≤ 16 := by
  have card := h.length_le_card
  rwa [Fintype.card_fin] at card

theorem agree_settle {s : State} (a : s.membersAgree) : s.settle.membersAgree := (flow_settleN _ a).agree a

/-! ### One port joins (R47) -/

/-- The record of a port as it joins patch n. -/
def PortRec.joinedTo (r : PortRec) (n : SlotId) : PortRec :=
  if r.isParked then { r with patch := some n } else { r.restInto .idle with patch := some n }

/-- The state in which port p has joined patch n, before it bids. -/
def State.joined (s : State) (n : SlotId) (p : PortId) : State :=
  (s.modPatch n (fun r => { r with members := r.members ++ [p] })).updPort p (fun r => r.joinedTo n)

theorem State.join_eq (s : State) (n : SlotId) (p : PortId) :
    s.join n p = if ((s.joined n p).port p).isParked then s.joined n p else ((s.joined n p).portBidsIfQualified p).evalPort p := rfl

theorem State.joined_patch (s : State) (n m : SlotId) (p : PortId) :
    (s.joined n p).patch m = if m = n then { s.patch n with members := (s.patch n).members ++ [p] } else s.patch m := by
  unfold State.joined
  rw [State.updPort_patch]
  exact State.setPatch_patch ..

theorem traffic_join (s : State) (n : SlotId) (p : PortId) : Traffic (fun _ => True) (s.joined n p) (s.join n p) := by
  rw [State.join_eq]
  split
  · exact .refl
  · exact (traffic_portBidsIfQualified _ p).trans (traffic_evalPort trivial)

theorem agree_join {s : State} {n : SlotId} {p : PortId} (a : s.membersAgree) (free : (s.port p).patch = none) (used : (s.patch n).state ≠ .unused) :
    (s.join n p).membersAgree := ((sound_of_agree a).join free used).agree

theorem agree_joinAll {s : State} {n : SlotId} {ps : List PortId} (a : s.membersAgree) (nodup : ps.Nodup) (free : ∀ p ∈ ps, (s.port p).patch = none)
    (used : (s.patch n).state ≠ .unused) : (s.joinAll n ps).membersAgree := ((sound_of_agree a).joinAll nodup free used).agree

/-- Ports that join a patch that is not CLOSING stand at the end of its members; the rest that is fixed of it stays. -/
theorem State.joinAll_fixed {s : State} {n : SlotId} (ps : List PortId) (opened : (s.patch n).state ≠ .closing) :
    ((s.joinAll n ps).patch n).fixedPart = { (s.patch n).fixedPart with members := (s.patch n).members ++ ps } ∧
      ((s.joinAll n ps).patch n).state ≠ .closing := by
  induction ps generalizing s with
  | nil => rw [List.append_nil]; exact ⟨rfl, opened⟩
  | cons p ps ih =>
    have joined : ((s.join n p).patch n).fixedPart = { (s.patch n).fixedPart with members := (s.patch n).members ++ [p] } ∧
        ((s.join n p).patch n).state ≠ .closing := by
      have here := s.joined_patch n n p
      rw [if_pos rfl] at here
      rcases (traffic_join s n p).keepsPatches n with ⟨fixed, closing⟩ | ⟨-, closing⟩ <;> rw [here] at closing
      · exact ⟨fixed.trans (by rw [here]; rfl), fun e => opened (closing e)⟩
      · exact absurd closing opened
    obtain ⟨fixed, state⟩ := ih joined.2
    refine ⟨?_, state⟩
    rw [State.joinAll_cons, fixed, joined.1, PatchRec.fixedPart_members (r' := (s.join n p).patch n) (r := { s.patch n with members := (s.patch n).members ++ [p] }) joined.1]
    simp only [List.append_assoc, List.singleton_append]

/-- The record of a port that joins patch n without a bid: parked as it was, keyed where it is eligible, IDLE elsewhere (R47, R97). -/
def State.joinRecord (s : State) (n : SlotId) (p : PortId) : PortRec :=
  if (s.port p).isParked then { s.port p with patch := some n }
  else if s.relays n p then ({ (s.port p).unsupervised with state := .idle, patch := some n }.decided .key).1
  else { (s.port p).unsupervised with state := .idle, patch := some n }

theorem PortRec.joinedTo_masked {r : PortRec} (rests : r.isParked = true ∨ r.state = .detached) (n : SlotId) : (r.joinedTo n).masked = r.masked := by
  unfold PortRec.joinedTo
  split
  · rfl
  · rename_i unparked
    have detached := rests.resolve_left unparked
    rw [PortRec.masked_of_unkeyed (r := r) (by simp [PortRec.ptt, detached]), PortRec.masked_of_unkeyed (r := { r.restInto .idle with patch := some n }) rfl]
    rfl

theorem PortRec.joinedTo_isParked (r : PortRec) (n : SlotId) : (r.joinedTo n).isParked = r.isParked := by
  unfold PortRec.joinedTo
  split
  · rfl
  · rename_i unparked
    rw [Bool.eq_false_iff.mpr unparked]; rfl

theorem PortRec.joinedTo_detached {r : PortRec} (h : r.isParked = false) (n : SlotId) :
    r.joinedTo n = { r.unsupervised with state := .idle, patch := some n } := if_neg (by rw [h]; decide)

theorem State.joined_eq {s : State} {n : SlotId} {p : PortId} (rests : (s.port p).isParked = true ∨ (s.port p).state = .detached) :
    s.joined n p = (s.setPatch n { s.patch n with members := (s.patch n).members ++ [p] }).setPort p ((s.port p).joinedTo n) :=
  State.updPort_of_masked (s := s.setPatch n _) (PortRec.joinedTo_masked rests n)

/-- A port that does not bid as it joins: nothing but its own record and the list of members changes. -/
theorem State.join_silent {s : State} {n : SlotId} {p : PortId} (rests : (s.port p).isParked = true ∨ (s.port p).state = .detached)
    (silent : (s.port p).joinsSilently) :
    s.join n p = (s.setPatch n { s.patch n with members := (s.patch n).members ++ [p] }).setPort p (s.joinRecord n p) := by
  have joined := State.joined_eq (n := n) rests
  have port : (s.joined n p).port p = (s.port p).joinedTo n := by rw [joined, State.setPort_port_same]
  rw [State.join_eq, port, PortRec.joinedTo_isParked]
  cases parked : (s.port p).isParked with
  | true =>
    have record : (s.port p).joinedTo n = { s.port p with patch := some n } := if_pos parked
    rw [if_pos rfl, joined, record, State.joinRecord, if_pos parked]
  | false =>
    have record := PortRec.joinedTo_detached parked n
    rw [record] at port
    have stays : (s.joined n p).portBidsIfQualified p = s.joined n p := by
      refine State.portBidsIfQualified_stays ?_
      rw [port]
      rcases silent with e | unqualified | locked
      · rw [parked] at e; cases e
      · exact .inr unqualified
      · exact .inl (State.bidsOn?_eq_none (.inr (.inr (by rw [port]; exact locked))))
    have eligible : (s.joined n p).eligible n p = true ↔ s.relays n p := by
      rw [State.eligible_iff, State.holdable_iff, port, State.joined_patch, if_pos rfl]
      exact ⟨fun ⟨⟨mode, kind, _, fault⟩, state, talker, half⟩ => ⟨mode, state, talker, kind, fault, half⟩,
        fun ⟨mode, state, talker, kind, fault, half⟩ => ⟨⟨mode, kind, rfl, fault⟩, state, talker, half⟩⟩
    have keyed := State.evalPort_unkeyed (s := s.joined n p) (p := p) (n := n) (by rw [port]; rfl) (by rw [port]; rfl) (by rw [port])
    rw [port] at keyed
    have joins : s.joinRecord n p = if s.relays n p then ({ (s.port p).unsupervised with state := .idle, patch := some n }.decided .key).1
        else { (s.port p).unsupervised with state := .idle, patch := some n } := if_neg (by rw [parked]; decide)
    rw [if_neg Bool.false_ne_true, stays, keyed, joins]
    by_cases relays : s.relays n p
    · rw [if_pos (eligible.mpr relays), if_pos relays, joined, State.setPort_setPort]
    · rw [if_neg (fun e => relays (eligible.mp e)), if_neg relays, joined, State.setPort_setPort]

theorem State.joinRecord_congr {s t : State} {n : SlotId} {p : PortId} (port : t.port p = s.port p)
    (mode : (t.patch n).mode = (s.patch n).mode) (state : (t.patch n).state = (s.patch n).state) (talker : (t.patch n).talker = (s.patch n).talker)
    (bids : (t.patch n).bids = (s.patch n).bids) : t.joinRecord n p = s.joinRecord n p := by
  unfold State.joinRecord State.relays
  rw [port, mode, state, talker, bids]

/-- Ports that do not bid as they join, one after the other. -/
theorem State.joinAll_silent {s : State} {n : SlotId} {ps : List PortId} (nodup : ps.Nodup)
    (rests : ∀ p ∈ ps, (s.port p).isParked = true ∨ (s.port p).state = .detached) (silent : ∀ p ∈ ps, (s.port p).joinsSilently) :
    (s.joinAll n ps).patch n = { s.patch n with members := (s.patch n).members ++ ps } ∧ (s.joinAll n ps).raised = s.raised ∧
      ∀ q, (s.joinAll n ps).port q = if q ∈ ps then s.joinRecord n q else s.port q := by
  induction ps generalizing s with
  | nil => rw [List.append_nil]; exact ⟨rfl, rfl, fun q => rfl⟩
  | cons p ps ih =>
    obtain ⟨new, nodup⟩ := List.nodup_cons.mp nodup
    have first := State.join_silent (n := n) (rests p List.mem_cons_self) (silent p List.mem_cons_self)
    have patch : (s.join n p).patch n = { s.patch n with members := (s.patch n).members ++ [p] } := by
      rw [first]; exact State.setPatch_patch_same ..
    have port (q : PortId) (e : q ≠ p) : (s.join n p).port q = s.port q := by rw [first, State.setPort_port, if_neg e]; rfl
    have raised : (s.join n p).raised = s.raised := by rw [first]; rfl
    have others (q : PortId) (hq : q ∈ ps) : (s.join n p).port q = s.port q := port q fun e => new (e ▸ hq)
    obtain ⟨members, raised', ports⟩ := ih (s := s.join n p) nodup
      (fun q hq => by rw [others q hq]; exact rests q (List.mem_cons_of_mem _ hq))
      (fun q hq => by rw [others q hq]; exact silent q (List.mem_cons_of_mem _ hq))
    rw [State.joinAll_cons]
    refine ⟨?_, raised'.trans raised, fun q => ?_⟩
    · rw [members, patch]; simp only [List.append_assoc, List.singleton_append]
    · rw [ports]
      by_cases hq : q ∈ ps
      · rw [if_pos hq, if_pos (List.mem_cons_of_mem _ hq)]
        exact State.joinRecord_congr (others q hq) (by rw [patch]) (by rw [patch]) (by rw [patch]) (by rw [patch])
      · rw [if_neg hq]
        by_cases e : q = p
        · subst e
          rw [if_pos List.mem_cons_self, first, State.setPort_port_same]
        · rw [if_neg (fun m => (List.mem_cons.mp m).elim e hq), port q e]

/-! ### A port that bids as it joins (R47, R72) -/

/-- What a bid makes of its patch depends on the patch and on the sources' priorities. -/
theorem State.takeBid_congr {s t : State} {n : SlotId} {src : Source} (patch : t.patch n = s.patch n) (priority : ∀ x, t.priority x = s.priority x) :
    (t.takeBid n src).patch n = (s.takeBid n src).patch n := by
  have granted : (t.grant n src).patch n = (s.grant n src).patch n := by rw [State.grant_patch_eq, State.grant_patch_eq, patch]
  have listed : (t.listBid n src).patch n = (s.listBid n src).patch n := by
    unfold State.listBid
    rw [State.modPatch_patch, State.modPatch_patch, if_pos rfl, if_pos rfl, patch, State.insertBid_congr priority]
  have preempted (x : PortId) : (t.preempt n src x).patch n = (s.preempt n src x).patch n := by
    rw [State.preempt_patch, State.preempt_patch, patch, State.insertAhead_congr priority]
  have outranks (x : PortId) : t.outranks n src x = s.outranks n src x := by unfold State.outranks; rw [patch, priority, priority]
  unfold State.takeBid State.bidOnTalk
  rw [patch]
  split
  · exact granted
  · exact granted
  · split
    · rename_i x _ _
      rw [outranks]
      split
      · exact preempted x
      · exact listed
    · exact listed
    · split
      · rw [State.modPatch_patch, State.modPatch_patch, patch]
      · exact listed
    · exact listed
  · exact patch
  · exact patch

theorem State.join_bids {s : State} {n : SlotId} {p : PortId} (detached : (s.port p).state = .detached) (qualified : (s.port p).qualified = true)
    (unmasked : (s.port p).masked = false) (unlocked : (s.port p).lockoutLeft = 0)
    (takes : s.nobodyTalks n ∨ (s.patch n).state = .talk ∧ s.keyedQuietly n) (out : (s.patch n).stands (.port p) = false) :
    (s.join n p).patch n = ((s.joined n p).takeBid n (.port p)).patch n ∧ (s.join n p).raised = s.raised := by
  have unparked : (s.port p).isParked = false := by simp [PortRec.isParked, detached]
  have eq := State.joined_eq (n := n) (.inr detached)
  have port : (s.joined n p).port p = { (s.port p).unsupervised with state := .idle, patch := some n } := by
    rw [eq, State.setPort_port_same]; exact PortRec.joinedTo_detached unparked n
  have patch : (s.joined n p).patch n = { s.patch n with members := (s.patch n).members ++ [p] } := by rw [State.joined_patch, if_pos rfl]
  have others (q : PortId) (e : q ≠ p) : (s.joined n p).port q = s.port q := by rw [eq, State.setPort_port, if_neg e]; rfl
  have raised : (s.joined n p).raised = s.raised := by rw [eq]; rfl
  have joins : s.join n p = ((s.joined n p).portBids p).evalPort p := by
    rw [State.join_eq, port, if_neg (by nofun), State.portBidsIfQualified, port]
    exact congrArg (fun t : State => t.evalPort p) (if_pos qualified)
  have unmasked' : ((s.joined n p).port p).masked = false := by
    rw [eq, State.setPort_port_same]
    exact (PortRec.joinedTo_masked (.inr detached) n).trans unmasked
  have rests : (s.port p).inRelaySet = false := by simp [PortRec.inRelaySet, detached]
  have member (q : PortId) (hq : q ∈ ((s.joined n p).patch n).members) : q ∈ (s.patch n).members ∨ q = p := by
    rw [patch] at hq
    exact (List.mem_append.mp hq).imp id List.mem_singleton.mp
  have keyed (q : PortId) (hq : q ∈ ((s.joined n p).patch n).members) (hr : ((s.joined n p).port q).inRelaySet = true) :
      q ∈ (s.patch n).members ∧ (s.joined n p).port q = s.port q := by
    by_cases e : q = p
    · subst e
      rw [port] at hr; cases hr
    · exact ⟨(member q hq).resolve_right e, others q e⟩
  have on (takes : ((s.joined n p).patch n).takesBids = true) :
      ((s.joined n p).portBids p).patch n = ((s.joined n p).takeBid n (.port p)).patch n := by
    have bids : (s.joined n p).bidsOn? p = some n := State.bidsOn?_eq_some.mpr ⟨by rw [port], by rw [port]; rfl, by rw [port]; exact unlocked,
      by rw [patch]; exact out, takes⟩
    unfold State.portBids
    rw [bids]
    exact State.evalPatch_patch _ _ _
  rw [joins]
  rcases takes with nobody | ⟨talk, quiet⟩
  · have awaits : (s.joined n p).Awaits n (.port p) := by
      obtain ⟨state, talker, partner, none, nodup, fit⟩ := nobody
      refine ⟨by rw [patch]; exact state, by rw [patch]; exact talker, by rw [patch]; exact partner, by rw [patch]; exact none, fun q hq _ hr => ?_⟩
      obtain ⟨hq, same⟩ := keyed q hq hr
      unfold State.mayRelay
      rw [patch, same]
      exact (fit q hq (by rw [← same]; exact hr)).2
    obtain ⟨-, raises, -, settled⟩ := State.portBids_granted awaits (by rw [port]) (by rw [port]; rfl) (by rw [port]; exact unlocked) unmasked'
    rw [settled]
    exact ⟨on (PatchRec.takesBids_of_silent awaits.state), raises.trans raised⟩
  · obtain ⟨-, -, patch', raised'⟩ := State.portBids_onTalk (s := s.joined n p) (p := p) (n := n) (by rw [patch]; exact talk) (by rw [port])
      (by rw [port]) (by rw [port]; exact unlocked) (by rw [patch]; exact out) unmasked' fun q hq hr => by
        obtain ⟨hq, same⟩ := keyed q hq hr
        rw [same] at hr ⊢
        exact quiet q hq hr
    exact ⟨patch', raised'.trans raised⟩

end Sys2Proof.Machine

/-! Traffic within one patch: what it leaves alone (R9, R75 to R89). -/

namespace Sys2Proof.Machine

/-- The traffic of patch n has nothing to do with the ports of D: they stand nowhere in it and are members of it only while parked; and
every other port is in patch n or in none. -/
structure State.apart (s : State) (n : SlotId) (D : PortId → Prop) : Prop where
  stands : ∀ q, (s.patch n).stands (.port q) = true → ¬ D q
  members : ∀ q ∈ (s.patch n).members, D q → (s.port q).isParked = true
  home : ∀ q, ¬ D q → (s.port q).patch = some n ∨ (s.port q).patch = none

/-- From s to t only patch n and ports outside D change, and what is raised is of them; a parked port of D may leave the patch, retired. -/
structure Spares (n : SlotId) (D : PortId → Prop) (s t : State) : Prop where
  port : ∀ q, D q → t.port q = s.port q ∨ ((s.port q).isParked = true ∧ t.port q = { s.port q with patch := none })
  patch : ∀ m, m ≠ n → t.patch m = s.patch m
  raised : ReportsOnly (fun q => ¬ D q) s t
  apart : t.apart n D

/-- A parked member is left by the keying unit. -/
theorem State.keyDecision_parked {s : State} {n : SlotId} {q : PortId} (h : (s.port q).isParked = true) : s.keyDecision n q = .leave := by
  rw [State.keyDecision_of_out (PortRec.rests_of_isParked h), if_neg fun e => ?_]
  have unparked := (State.holdable_iff.mp (State.eligible_iff.mp e).1).2.2.1
  rw [h] at unparked; cases unparked

namespace Spares

variable {n : SlotId} {D : PortId → Prop} {s t u : State}

theorem refl (a : s.apart n D) : Spares n D s s := ⟨fun _ _ => .inl rfl, fun _ _ => rfl, .of_eq rfl, a⟩

theorem trans (h : Spares n D s t) (k : Spares n D t u) : Spares n D s u where
  port q hq := by
    rcases h.port q hq with e | ⟨parked, e⟩ <;> rcases k.port q hq with f | ⟨parked', f⟩ <;> rw [f, e]
    · exact .inl rfl
    · exact .inr ⟨by rw [← e]; exact parked', rfl⟩
    · exact .inr ⟨parked, rfl⟩
    · exact .inr ⟨parked, rfl⟩
  patch m hm := (k.patch m hm).trans (h.patch m hm)
  raised := h.raised.trans k.raised
  apart := k.apart

theorem parked (h : Spares n D s t) {q : PortId} (hq : D q) : (t.port q).isParked = (s.port q).isParked := by
  rcases h.port q hq with e | ⟨-, e⟩ <;> rw [e]
  rfl

/-- A port of D that is not parked stays as it is. -/
theorem port_unparked (h : Spares n D s t) {q : PortId} (hq : D q) (unparked : (s.port q).isParked = false) : t.port q = s.port q := by
  rcases h.port q hq with e | ⟨parked, -⟩
  · exact e
  · rw [unparked] at parked; cases parked

theorem port_state (h : Spares n D s t) {q : PortId} (hq : D q) : (t.port q).state = (s.port q).state := by
  rcases h.port q hq with e | ⟨-, e⟩ <;> rw [e]

/-! ### Single writes -/

theorem updPort (a : s.apart n D) {q : PortId} {f : PortRec → PortRec} (out : ¬ D q)
    (patch : (f (s.port q)).patch = (s.port q).patch ∨ (f (s.port q)).patch = some n ∨ (f (s.port q)).patch = none) :
    Spares n D s (s.updPort q f) where
  port x hx := .inl ((State.updPort_port ..).trans (if_neg fun e : x = q => out (e ▸ hx)))
  patch m _ := State.updPort_patch ..
  raised e he := (State.updPort_raised he).imp id fun h : e.port = q => by rw [h]; exact out
  apart := by
    refine ⟨?_, ?_, fun x hx => ?_⟩
    · rw [State.updPort_patch]; exact a.stands
    · rw [State.updPort_patch]
      intro x hx d
      rw [State.updPort_port, if_neg fun e : x = q => out (e ▸ d)]
      exact a.members x hx d
    · rw [State.updPort_port]
      split
      · rename_i e
        rw [PortRec.remask_patch]
        rcases patch with h | h
        · rw [h]; exact a.home q out
        · exact h
      · exact a.home x hx

theorem write (a : s.apart n D) {r : PatchRec} (members : ∀ q ∈ r.members, D q → (s.port q).isParked = true)
    (stands : ∀ q, r.stands (.port q) = true → ¬ D q) : Spares n D s (s.setPatch n r) where
  port _ _ := .inl rfl
  patch m hm := (State.setPatch_patch ..).trans (if_neg hm)
  raised := .of_eq rfl
  apart := ⟨by rw [State.setPatch_patch_same]; exact stands, by rw [State.setPatch_patch_same]; exact members, a.home⟩

/-- A write of the patch's record that keeps its members and adds nobody who stands in it. -/
theorem writeFloor (a : s.apart n D) {r : PatchRec} (members : r.members = (s.patch n).members)
    (stands : ∀ q, r.stands (.port q) = true → (s.patch n).stands (.port q) = true ∨ ¬ D q) : Spares n D s (s.setPatch n r) :=
  write a (members ▸ a.members) fun q h => (stands q h).elim (a.stands q) id

theorem same (a : s.apart n D) (port : ∀ q, t.port q = s.port q) (patch : ∀ m, t.patch m = s.patch m) (raised : ∀ e ∈ t.raised, e ∈ s.raised) :
    Spares n D s t where
  port q _ := .inl (port q)
  patch m _ := patch m
  raised e he := .inl (raised e he)
  apart := ⟨by rw [patch]; exact a.stands, by rw [patch]; exact fun q hq d => by rw [port]; exact a.members q hq d,
    fun q hq => by rw [port]; exact a.home q hq⟩

theorem offerBoth (a : s.apart n D) (e : Notice) : Spares n D s (s.offerBoth e) :=
  same a (fun _ => State.offerBoth_port ..) (fun _ => State.offerBoth_patch ..) fun x hx => by rwa [State.offerBoth_raised] at hx

theorem offerRetired (a : s.apart n D) (m : SlotId) (but : Option Console) : Spares n D s (s.offerRetired m but) :=
  same a (fun _ => State.offerRetired_port ..) (fun _ => State.offerRetired_patch ..) fun x hx => by rwa [State.offerRetired_raised] at hx

/-- One request after the other, each on a port that is parked where it is of D. -/
theorem foldl {f : State → PortId → State} (step : ∀ {v : State}, v.apart n D → ∀ q, (D q → (v.port q).isParked = true) → Spares n D v (f v q))
    (l : List PortId) (a : s.apart n D) (hl : ∀ q ∈ l, D q → (s.port q).isParked = true) : Spares n D s (l.foldl f s) := by
  induction l generalizing s with
  | nil => exact refl a
  | cons p l ih =>
    have first := step a p (hl p List.mem_cons_self)
    exact first.trans (ih first.apart fun q hq d => by rw [first.parked d]; exact hl q (List.mem_cons_of_mem _ hq) d)

/-! ### The keying unit (R97 to R104) -/

theorem applyKey (a : s.apart n D) {q : PortId} {d : KeyDecision} (h : D q → d = .leave) : Spares n D s (s.applyKey q d) := by
  cases d with
  | key => exact updPort (f := fun r => r.keyInto .keyUp .relay) a (fun x => nomatch h x) (.inl (PortRec.keyInto_patch _ _ _))
  | unkey => exact updPort (f := fun r => r.unkeyInto .idle) a (fun x => nomatch h x) (.inl rfl)
  | leave => exact refl a

theorem evalPatch (a : s.apart n D) : Spares n D s (s.evalPatch n) := by
  have all (l : List PortId) (hl : ∀ q ∈ l, q ∈ (s.patch n).members) {v : State} (b : v.apart n D) :
      Spares n D v (l.foldl (fun acc p => acc.applyKey p (s.keyDecision n p)) v) := by
    induction l generalizing v with
    | nil => exact refl b
    | cons p l ih =>
      have first := applyKey b (q := p) (d := s.keyDecision n p) fun d => State.keyDecision_parked (a.members p (hl p List.mem_cons_self) d)
      exact first.trans (ih (fun q hq => hl q (List.mem_cons_of_mem _ hq)) first.apart)
  exact all _ (fun _ => id) a

theorem evalPort (a : s.apart n D) {q : PortId} (out : ¬ D q) : Spares n D s (s.evalPort q) := by
  have keyed (up on : PortState) : Spares n D s (s.updPort q (fun r => r.keyInto up on)) :=
    updPort (f := fun r => r.keyInto up on) a out (.inl (PortRec.keyInto_patch _ _ _))
  unfold State.evalPort
  split
  · unfold State.evalParked
    split
    · split
      · exact keyed _ _
      · exact refl a
    · split
      · split
        · exact refl a
        · exact updPort (f := fun r => r.unkeyInto .parked) a out (.inl rfl)
      · exact refl a
  · split
    · exact applyKey a fun d => absurd d out
    · exact refl a

/-! ### Bids (R71 to R80) -/

theorem idleTalker (a : s.apart n D) {src : Option Source} (h : ∀ x, src = some (.port x) → ¬ D x) : Spares n D s (s.idleTalker src) := by
  unfold State.idleTalker
  split
  · split
    · exact updPort (f := fun r => r.restInto .idle) a (h _ rfl) (.inl rfl)
    · exact refl a
  · exact refl a

theorem asked (a : s.apart n D) {src : Source} (h : ∀ x, src = .port x → ¬ D x) : Spares n D s (s.asked src) := by
  cases src with
  | port p => exact updPort (f := fun r => r.restInto .talker) a (h p rfl) (.inl rfl)
  | console c => exact refl a

theorem grant (a : s.apart n D) {src : Source} (h : ∀ x, src = .port x → ¬ D x) : Spares n D s (s.grant n src) := by
  rw [State.grant_eq]
  have floor : Spares n D s (s.setPatch n ((s.patch n).granted src)) := writeFloor a rfl fun q hq => by
    rcases PatchRec.granted_stands' hq with e | e
    · exact .inr (h q e.symm)
    · exact .inl e
  have asks := asked floor.apart h
  exact (floor.trans asks).trans (offerBoth asks.apart _)

theorem dropTalker (a : s.apart n D) : Spares n D s (s.dropTalker n) := by
  have floor : Spares n D s (s.setPatch n (s.patch n).dropped) := writeFloor a rfl fun q hq => .inl (by
    rcases PatchRec.stands_iff.mp hq with h | h | h
    · cases h
    · exact PatchRec.stands_iff.mpr (.inr (.inl h))
    · exact PatchRec.stands_iff.mpr (.inr (.inr h)))
  exact floor.trans (idleTalker floor.apart fun x hx => a.stands x (PatchRec.stands_iff.mpr (.inl hx)))

theorem preempt (a : s.apart n D) {src : Source} {x : PortId} (talker : (s.patch n).talker = some (.port x)) (h : ∀ y, src = .port y → ¬ D y) :
    Spares n D s (s.preempt n src x) := by
  rw [State.preempt_eq]
  have floor : Spares n D s (s.setPatch n ((s.patch n).preempted src (s.insertAhead (.port x) ((s.patch n).bids.erase src)))) :=
    writeFloor a rfl fun q hq => by
      rcases PatchRec.preempted_keeps talker hq with e | e
      · exact .inr (h q e.symm)
      · exact .inl e
  have idles := idleTalker floor.apart (src := (s.patch n).talker) fun y hy => a.stands y (PatchRec.stands_iff.mpr (.inl hy))
  have asks := asked idles.apart h
  have first := offerBoth asks.apart ⟨.floorChange, slotNumber n⟩
  exact ((floor.trans (idles.trans asks)).trans first).trans (offerBoth first.apart _)

theorem takeBid (a : s.apart n D) {src : Source} (h : ∀ x, src = .port x → ¬ D x) : Spares n D s (s.takeBid n src) := by
  have listed : Spares n D s (s.listBid n src) := writeFloor (r := { s.patch n with bids := s.insertBid src (s.patch n).bids }) a rfl fun q hq => by
    rcases PatchRec.listed_stands hq with e | e
    · exact .inl e
    · exact .inr (h q e.symm)
  unfold State.takeBid State.bidOnTalk
  split
  · exact grant a h
  · exact grant a h
  · split
    · rename_i talker
      split
      · exact preempt a (PatchRec.portTalker_eq_some.mp talker) h
      · exact listed
    · exact listed
    · split
      · rename_i c _
        refine writeFloor (r := { s.patch n with partner := some c }) a rfl fun q hq => .inl ?_
        rcases PatchRec.stands_iff.mp hq with e | e | e
        · exact PatchRec.stands_iff.mpr (.inl e)
        · cases e
        · exact PatchRec.stands_iff.mpr (.inr (.inr e))
      · exact listed
    · exact listed
  · exact refl a
  · exact refl a

theorem portBids (a : s.apart n D) {q : PortId} (out : ¬ D q) : Spares n D s (s.portBids q) := by
  unfold State.portBids
  split
  · rename_i m hm
    have home := (State.bidsOn?_eq_some.mp hm).1
    obtain rfl : m = n := by
      rcases a.home q out with e | e
      · exact Option.some.inj (home.symm.trans e)
      · rw [home] at e; cases e
    have bid := takeBid a (src := .port q) fun x hx => by cases hx; exact out
    exact bid.trans (evalPatch bid.apart)
  · exact refl a

/-! ### Withdrawal, release and retirement (R65, R83 to R86) -/

theorem withdraw (a : s.apart n D) (src : Source) : Spares n D s (s.withdraw n src) :=
  writeFloor (r := { s.patch n with bids := (s.patch n).bids.erase src }) a rfl fun q hq => .inl (by
    rcases PatchRec.stands_iff.mp hq with e | e | e
    · exact PatchRec.stands_iff.mpr (.inl e)
    · exact PatchRec.stands_iff.mpr (.inr (.inl e))
    · exact PatchRec.stands_iff.mpr (.inr (.inr (List.mem_of_mem_erase e))))

theorem unkeyIfRelaying (a : s.apart n D) (q : PortId) (h : D q → (s.port q).isParked = true) : Spares n D s (s.unkeyIfRelaying q) := by
  unfold State.unkeyIfRelaying
  split
  · rename_i relays
    refine updPort (f := fun r => r.unkeyInto .idle) a (fun d => ?_) (.inl rfl)
    rw [PortRec.rests_of_isParked (h d)] at relays
    cases relays
  · exact refl a

theorem leavePatch (a : s.apart n D) (q : PortId) (h : D q → (s.port q).isParked = true) : Spares n D s (s.updPort q PortRec.leavePatch) := by
  by_cases d : D q
  · have leaves : s.updPort q PortRec.leavePatch = s.setPort q { s.port q with patch := none } := by
      rw [State.updPort_of_masked (PortRec.leavePatch_masked (PortRec.rests_of_isParked (h d)))]
      exact congrArg (s.setPort q) (if_pos (h d))
    rw [leaves]
    refine ⟨fun x _ => ?_, fun _ _ => rfl, .of_eq rfl, a.stands, fun x hx dx => ?_, fun x hx => ?_⟩ <;> rw [State.setPort_port] <;> split
    · rename_i e; subst e; exact .inr ⟨h d, rfl⟩
    · exact .inl rfl
    · exact h d
    · exact a.members x hx dx
    · rename_i e; exact absurd (e ▸ d) hx
    · exact a.home x hx
  · exact updPort a d (.inr (.inr (PortRec.leavePatch_patch _)))

theorem retire (a : s.apart n D) (but : Option Console) : Spares n D s (s.retire n but) := by
  have emptied : Spares n D s (s.setPatch n { s.patch n with bids := [], talker := none, partner := none, limit := none }) :=
    writeFloor a rfl fun q hq => by rcases PatchRec.stands_iff.mp hq with e | e | e <;> cases e
  have unkeyed := foldl unkeyIfRelaying (s.patch n).members emptied.apart fun q hq d => a.members q hq d
  have left := foldl (f := fun a p => a.updPort p PortRec.leavePatch) leavePatch (s.patch n).members unkeyed.apart fun q hq d => by
    rw [unkeyed.parked d]; exact a.members q hq d
  have whole := (emptied.trans unkeyed).trans left
  obtain ⟨v, hv⟩ : ∃ v, v = (s.patch n).members.foldl (fun a p => a.updPort p PortRec.leavePatch) ((s.patch n).members.foldl State.unkeyIfRelaying
      (s.setPatch n { s.patch n with bids := [], talker := none, partner := none, limit := none })) := ⟨_, rfl⟩
  have retires : s.retire n but = (((v.modConsole .A (fun r => r.forgetPatch n)).modConsole .B (fun r => r.forgetPatch n)).setPatch n
      PatchRec.unused).offerRetired n but := by rw [hv]; rfl
  rw [← hv] at whole
  have forgotten : Spares n D v ((v.modConsole .A (fun r => r.forgetPatch n)).modConsole .B (fun r => r.forgetPatch n)) :=
    same whole.apart (fun _ => rfl) (fun _ => rfl) fun _ => id
  have written := write (r := PatchRec.unused) forgotten.apart (fun _ hq => absurd hq List.not_mem_nil) nofun
  rw [retires]
  exact ((whole.trans forgotten).trans written).trans (offerRetired written.apart _ _)

/-- A release, told from the state in which the talker is dropped. -/
theorem released (a : (s.dropTalker n).apart n D) (but : Option Console) : Spares n D (s.dropTalker n) (s.release n but) := by
  unfold State.release
  dsimp only
  split
  · exact retire a but
  · unfold State.releaseOutcome
    split
    · exact grant a nofun
    · rename_i b l _ hb
      refine grant a fun x hx => a.stands x (PatchRec.stands_iff.mpr (.inr (.inr ?_)))
      rw [hb, hx]; exact List.mem_cons_self
    · refine writeFloor a ?_ fun q hq => .inl ?_
      · dsimp only; split_ifs <;> rfl
      · dsimp only at hq; split_ifs at hq <;> exact hq

theorem release (a : s.apart n D) (but : Option Console) : Spares n D s (s.release n but) :=
  (dropTalker a).trans (released (dropTalker a).apart but)

theorem portLosesPlace (a : s.apart n D) {q : PortId} (out : ¬ D q) : Spares n D s (s.portLosesPlace q) := by
  unfold State.portLosesPlace
  split
  · exact refl a
  · rename_i m home
    obtain rfl : m = n := by
      rcases a.home q out with e | e
      · exact Option.some.inj (home.symm.trans e)
      · rw [home] at e; cases e
    split
    · have released := release a Option.none
      exact released.trans (evalPatch released.apart)
    · split
      · have gone := withdraw a (.port q)
        exact gone.trans (evalPatch gone.apart)
      · exact refl a

/-! ### The end of an action (R9) -/

theorem handOn (a : s.apart n D) {e : CarrierEvent} (out : ¬ D e.port) : Spares n D s (s.handOn e) := by
  rcases s.handOn_cases e with he | he <;> rw [he]
  · have bids := portBids a out
    exact bids.trans (evalPort bids.apart out)
  · have loses := portLosesPlace a out
    exact loses.trans (evalPort loses.apart out)

/-- Handing on what is raised, where each event is of a port outside D, or idle as long as the ports of D are spared. -/
theorem settle {B : CarrierEvent → Prop} (a : s.apart n D) (idle : ∀ v, Spares n D s v → ∀ e, B e → v.handOn e = v)
    (events : ∀ e ∈ s.raised, ¬ D e.port ∨ B e) : Spares n D s s.settle := by
  have all (k : Nat) (v : State) (h : Spares n D s v) (waiting : ∀ e ∈ v.raised, ¬ D e.port ∨ B e) : Spares n D s (settleN k v) := by
    induction k generalizing v with
    | zero => exact h
    | succ k ih =>
      unfold settleN
      split
      · exact h
      · rename_i e rest raised
        have sub (x : CarrierEvent) (hx : x ∈ rest) : x ∈ v.raised := by rw [raised]; exact List.mem_cons_of_mem _ hx
        have popped : Spares n D s { v with raised := rest } := h.trans (same h.apart (fun _ => rfl) (fun _ => rfl) sub)
        rcases waiting e (by rw [raised]; exact List.mem_cons_self) with out | idles
        · have next := handOn popped.apart out
          exact ih _ (popped.trans next) fun x hx => (next.raised x hx).elim (fun y => waiting x (sub x y)) .inl
        · rw [idle _ popped e idles]
          exact ih _ popped fun x hx => waiting x (sub x hx)
  exact all _ s (refl a) events

end Spares

end Sys2Proof.Machine

/-! Ports that leave a patch, and ADD_MEMBERS and REMOVE_MEMBERS (R48, R51 to R54). -/

namespace Sys2Proof.Machine

/-! ### ADD_MEMBERS (R51, R52) -/

theorem addChecks_none {s : State} {c : Console} {n : SlotId} {ps : List PortId} (agree : s.membersAgree) (used : (s.patch n).state ≠ .unused)
    (opened : (s.patch n).state ≠ .closing) (edits : (s.patch n).owner = some c ∨ (s.patch n).shared = true) (some' : ps ≠ []) (nodup : ps.Nodup)
    (free : ∀ p ∈ ps, (s.port p).patch = none) : firstRefusal (s.addChecks c n (ps.map portNumber)) = none := by
  obtain ⟨inUse, mine⟩ := State.inUse_checks used edits
  have apart : ∀ p ∈ ps, p ∉ (s.patch n).members := fun p hp member => by
    have home := (agree.1 n p).mp member
    rw [free p hp] at home
    cases home
  have fits : ps.length + (s.patch n).members.length ≤ 16 := by
    rw [← List.length_append]
    exact length_le_of_nodup (List.nodup_append.mpr ⟨nodup, agree.2.1 n, fun p hp q hq e => apart p hp (e ▸ hq)⟩)
  have row : (ps.map portNumber).find? (fun k => decide (1 < (ps.map portNumber).count k) || s.memberOf n k) = none := by
    refine List.find?_eq_none.mpr fun k hk => ?_
    obtain ⟨p, hp, rfl⟩ := List.mem_map.mp hk
    rw [count_portNumbers nodup, State.memberOf, portOf?_portNumber, Option.any_some, free p hp]
    exact Bool.false_ne_true
  simp only [State.addChecks, firstRefusal_cons, check_eq_none, inUse, mine, firstNoPort_map, row, Option.map_none, true_and, firstRefusal_nil, and_true,
    Option.map_eq_none_iff]
  refine ⟨?_, ?_, ?_, ?_⟩
  · cases ps with
    | nil => exact absurd rfl some'
    | cons p ps => rfl
  · exact check_eq_none.mpr (beq_eq_false_iff_ne.mpr opened)
  · rw [List.length_map]; exact decide_eq_false (by omega)
  · exact firstPort_map fun p hp => by rw [free p hp]; rfl

theorem exec_addMembers {s u : State} {c : Console} {n : SlotId} {ps : List PortId} (ready : s.readyFor c)
    (checks : firstRefusal ((s.heard c).addChecks c n (ps.map portNumber)) = none) (hu : ((s.heard c).joinAll n ps).settle = u) :
    exec (.addMembers c (slotNumber n) (ps.map portNumber)) s = .next (u.replied c ⟨.ok, u.patchList [n]⟩) := by
  refine exec_of_ready (q := .addMembers (slotNumber n) (ps.map portNumber)) rfl ready ?_
  show doAddMembers c (slotNumber n) (ps.map portNumber) (s.heard c) = _
  unfold doAddMembers
  rw [State.onPatch_slotNumber, State.checked_pass checks, portsOf_map, ← hu]
  rfl

/-- Ports that have joined a patch that is not CLOSING, once what they raised is handed on. -/
theorem State.joinAll_settled {s : State} {n : SlotId} {ps : List PortId} (agree : s.membersAgree) (used : (s.patch n).state ≠ .unused)
    (opened : (s.patch n).state ≠ .closing) (nodup : ps.Nodup) (free : ∀ p ∈ ps, (s.port p).patch = none) :
    ((s.joinAll n ps).settle.patch n).fixedPart = { (s.patch n).fixedPart with members := (s.patch n).members ++ ps } ∧
      ∀ p ∈ ps, ((s.joinAll n ps).settle.port p).patch = some n := by
  obtain ⟨fixed, closing⟩ := State.joinAll_fixed ps opened
  have settled : ((s.joinAll n ps).settle.patch n).fixedPart = { (s.patch n).fixedPart with members := (s.patch n).members ++ ps } := by
    rcases (traffic_settle (s.joinAll n ps)).keepsPatches n with ⟨e, -⟩ | ⟨-, e⟩
    · exact e.trans fixed
    · exact absurd e closing
  refine ⟨settled, fun p hp => ((agree_settle (agree_joinAll agree nodup free used)).1 n p).mp ?_⟩
  rw [show ((s.joinAll n ps).settle.patch n).members = (s.patch n).members ++ ps from (congrArg PatchRec.members settled :)]
  exact List.mem_append_right _ hp

theorem State.joinRecord_parked {s : State} {n : SlotId} {p : PortId} (h : (s.port p).isParked = true) :
    s.joinRecord n p = { s.port p with patch := some n } := if_pos h

theorem State.joinRecord_unparked {s : State} {n : SlotId} {p : PortId} (h : (s.port p).isParked = false) : s.joinRecord n p =
    if s.relays n p then ({ (s.port p).unsupervised with state := .idle, patch := some n }.decided .key).1
    else { (s.port p).unsupervised with state := .idle, patch := some n } := if_neg (by rw [h]; decide)

/-- The first part of O41. -/
theorem membersAreAdded {s : State} {c : Console} {n : SlotId} {ports : List PortId} (ready : s.readyFor c) (agree : s.membersAgree)
    (used : (s.patch n).state ≠ .unused) (opened : (s.patch n).state ≠ .closing) (edits : (s.patch n).owner = some c ∨ (s.patch n).shared = true)
    (some' : ports ≠ []) (nodup : ports.Nodup) (free : ∀ p ∈ ports, (s.port p).patch = none) :
    ∃ u : State, exec (.addMembers c (slotNumber n) (ports.map portNumber)) s = .next (u.replied c
        ⟨.ok, [1#8, byteOf (slotNumber n), byteOf (u.patch n).state.code, byteOf (u.patch n).members.length]⟩) ∧
      (u.patch n).fixedPart = { (s.patch n).fixedPart with members := (s.patch n).members ++ ports } ∧
      (∀ p ∈ ports, (u.port p).patch = some n) ∧ State.trafficOnly [n] ports (s.heard c) u ∧
      (s.raised = [] → (∀ p ∈ ports, (s.port p).isParked = true ∨ (s.port p).state = .detached) →
        (∀ p ∈ ports, (s.port p).joinsSilently) →
        u.patch n = { s.patch n with members := (s.patch n).members ++ ports } ∧
        ∀ p ∈ ports, ((s.port p).isParked = true → u.port p = { s.port p with patch := some n }) ∧
          ((s.port p).state = .detached →
            (s.relays n p → (u.port p).state = (s.port p).keyedState ∧ (u.port p).keyUpLeft = (s.port p).cfg.keyUpDelay) ∧
            (¬s.relays n p → u.port p = { (s.port p).unsupervised with state := .idle, patch := some n }))) ∧
      (∀ p, s.raised = [] → ports = [p] → (s.port p).state = .detached → (s.port p).qualified = true → (s.port p).masked = false →
        (s.port p).lockoutLeft = 0 → s.nobodyTalks n ∨ (s.patch n).state = .talk ∧ s.keyedQuietly n →
        (s.patch n).stands (.port p) = false →
        let joined := (s.setPort p { (s.port p).unsupervised with state := .idle, patch := some n }).setPatch n
          { s.patch n with members := (s.patch n).members ++ [p] }
        u.patch n = (joined.takeBid n (.port p)).patch n) := by
  let h := s.heard c
  obtain ⟨fixed, homes⟩ := State.joinAll_settled (s := h) agree used opened nodup free
  refine ⟨(h.joinAll n ports).settle, exec_addMembers ready (addChecks_none (s := h) agree used opened edits some' nodup free) rfl, fixed, homes,
    ((kept_joinAll h ports).trans (kept_settle _)).frame, fun none rests silent => ?_, fun p none one detached qualified unmasked unlocked takes out => ?_⟩
  · obtain ⟨patch, raised, port⟩ := State.joinAll_silent (s := h) (n := n) nodup rests silent
    rw [State.settle_of_none (raised.trans none)]
    refine ⟨patch, fun p hp => ⟨fun parked => ?_, fun detached => ?_⟩⟩
    · rw [port, if_pos hp, State.joinRecord_parked (s := h) parked]; rfl
    · have unparked : (h.port p).isParked = false := by simp only [PortRec.isParked, show (h.port p).state = .detached from detached]
      have record : (h.joinAll n ports).port p = _ := (port p).trans ((if_pos hp).trans (State.joinRecord_unparked unparked))
      refine ⟨fun relays => ?_, fun out => ?_⟩
      · rw [record, if_pos (show h.relays n p from relays)]
        exact ⟨PortRec.keyed_state _, PortRec.decided_key_keyUpLeft _⟩
      · rw [record, if_neg (show ¬ h.relays n p from out)]; rfl
  · subst one
    obtain ⟨patch, raised⟩ := State.join_bids (s := h) (n := n) detached qualified unmasked unlocked takes out
    have settled : (h.joinAll n [p]).settle = h.join n p := State.settle_of_none (s := h.join n p) (raised.trans none)
    intro joined
    rw [settled, patch]
    have record := State.joined_eq (s := h) (n := n) (p := p) (.inr detached)
    rw [PortRec.joinedTo_detached (by simp only [PortRec.isParked, show (h.port p).state = .detached from detached])] at record
    refine State.takeBid_congr ?_ fun x => ?_
    · rw [record, State.setPort_patch, State.setPatch_patch_same, State.setPatch_patch_same]; rfl
    · rw [record]
      cases x <;> rfl

/-! ### Ports that leave a patch (R48, R54) -/

theorem foldl_withdraw_port (ps : List PortId) (s : State) (n : SlotId) (q : PortId) :
    (ps.foldl (fun a p => a.withdraw n (.port p)) s).port q = s.port q :=
  foldl_keeps (f := fun a p => a.withdraw n (.port p)) (I := fun t => t.port q = s.port q) (fun _ h => h) ps rfl

theorem foldl_withdraw_raised (ps : List PortId) (s : State) (n : SlotId) : (ps.foldl (fun a p => a.withdraw n (.port p)) s).raised = s.raised :=
  foldl_keeps (f := fun a p => a.withdraw n (.port p)) (I := fun t => t.raised = s.raised) (fun _ h => h) ps rfl

/-- The ports taken out of a patch: unkeyed, and out of it (R54). -/
theorem State.takenOut_onlyPorts (s : State) (n : SlotId) (ps : List PortId) :
    (∀ q, (s.takenOut n ps).port q = if q ∈ ps then (s.port q).unkeyed.leavePatch else s.port q) ∧
      ReportsOnly (fun q => q ∈ ps ∧ (s.port q).inRelaySet = true) s (s.takenOut n ps) := by
  have unkeyed (q : PortId) : ((ps.foldl State.unkeyIfRelaying (ps.foldl (fun a p => a.withdraw n (.port p)) s)).port q) =
      if q ∈ ps then (s.port q).unkeyed else s.port q := by rw [foldl_unkeyIfRelaying_port, foldl_withdraw_port]
  have reports := reportsOnly_unkeyIfRelaying ps (ps.foldl (fun a p => a.withdraw n (.port p)) s)
  have left := onlyPorts_leavePatch ps ((ps.foldl State.unkeyIfRelaying (ps.foldl (fun a p => a.withdraw n (.port p)) s)).modPatch n
    (fun r => { r with members := r.members.filter (fun p => !ps.contains p) })) fun q hq => by
      rw [State.modPatch_port, unkeyed, if_pos hq]; exact PortRec.unkeyed_rests _
  refine ⟨fun q => (left.port q).trans ?_, fun e he => ?_⟩
  · rw [State.modPatch_port, unkeyed]
    split <;> rfl
  · have raised : (s.takenOut n ps).raised = (ps.foldl State.unkeyIfRelaying (ps.foldl (fun a p => a.withdraw n (.port p)) s)).raised := left.raised
    rw [raised] at he
    rcases reports e he with h | ⟨member, relays⟩
    · exact .inl (by rwa [foldl_withdraw_raised] at h)
    · exact .inr ⟨member, by rwa [foldl_withdraw_port] at relays⟩

theorem PortRec.unkeyed_guardLeft (r : PortRec) : r.unkeyed.guardLeft = if r.inRelaySet = true then r.cfg.turnaround else r.guardLeft := by
  unfold PortRec.unkeyed
  split
  · exact PortRec.remask_guardLeft _ _
  · rfl

theorem PortRec.unkeyed_isParked (r : PortRec) : r.unkeyed.isParked = r.isParked := by
  cases relays : r.inRelaySet with
  | false => rw [PortRec.unkeyed, relays]; rfl
  | true => rw [PortRec.unkeyed_unparked relays, PortRec.unparked_of (.inr relays)]

theorem PortRec.leavePatch_guardLeft (r : PortRec) : r.leavePatch.guardLeft = r.guardLeft := by
  unfold PortRec.leavePatch; split <;> rfl

/-- The state in which ports have left a patch and its talker, if it is one of them, is dropped, before the talk right is handed on. -/
def State.left (s : State) (n : SlotId) (ps : List PortId) : State :=
  if ps.any (fun p => (s.patch n).talker == some (.port p)) then (s.takenOut n ps).dropTalker n else s.takenOut n ps

/-- The ports that have left patch n, and those that were never in it. -/
def State.outsiders (s : State) (n : SlotId) (ps : List PortId) (q : PortId) : Prop := q ∈ ps ∨ (s.port q).patch ≠ some n

theorem State.left_patch (s : State) (n : SlotId) (ps : List PortId) : ∃ x, (s.left n ps).patch n = x ∧ x.state = (s.patch n).state ∧
    x.bids = eraseAll ps (s.patch n).bids ∧ x.members = (s.patch n).members.filter (fun p => !ps.contains p) ∧
    (x.talker = none ∨ x.talker = (s.patch n).talker ∧ ∀ p ∈ ps, (s.patch n).talker ≠ some (.port p)) := by
  have here : (s.takenOut n ps).patch n = { s.patch n with
      bids := eraseAll ps (s.patch n).bids, members := (s.patch n).members.filter (fun p => !ps.contains p) } := by
    rw [State.takenOut_patch, if_pos rfl]
  refine ⟨_, rfl, ?_⟩
  unfold State.left
  split
  · rw [State.dropTalker_patch_eq, if_pos rfl, here]
    exact ⟨rfl, rfl, rfl, .inl rfl⟩
  · rename_i h
    rw [here]
    refine ⟨rfl, rfl, rfl, .inr ⟨rfl, fun p hp e => h (List.any_eq_true.mpr ⟨p, hp, beq_iff_eq.mpr e⟩)⟩⟩

/-- A port that leaves: its record, unkeyed and out of the patch. -/
theorem State.left_port {s : State} {n : SlotId} {ps : List PortId} {p : PortId} (hp : p ∈ ps) :
    (s.left n ps).port p = (s.port p).unkeyed.leavePatch := by
  have taken := (s.takenOut_onlyPorts n ps).1 p
  rw [if_pos hp] at taken
  unfold State.left
  split
  · refine (((State.idleTalker_plain ((s.takenOut n ps).setPatch n ((s.takenOut n ps).patch n).dropped) _).2 p).resolve_right
      fun ⟨_, talker, _⟩ => ?_).trans taken
    rw [State.setPatch_port, taken] at talker
    cases parked : (s.port p).unkeyed.isParked with
    | true =>
      have stays : (s.port p).unkeyed.leavePatch = { (s.port p).unkeyed with patch := none } := if_pos parked
      rw [stays] at talker
      exact (PortRec.unmoved_of_isParked parked).2.2 talker
    | false => rw [PortRec.leavePatch_unparked parked] at talker; cases talker
  · exact taken

theorem State.left_raised (s : State) (n : SlotId) (ps : List PortId) :
    ReportsOnly (fun q => q ∈ ps ∧ (s.port q).inRelaySet = true) s (s.left n ps) := by
  have taken := (s.takenOut_onlyPorts n ps).2
  unfold State.left
  split
  · exact taken.trans (.of_eq (State.idleTalker_plain ((s.takenOut n ps).setPatch n ((s.takenOut n ps).patch n).dropped) _).1)
  · exact taken

theorem State.left_apart {s : State} {n : SlotId} {ps : List PortId} (agree : s.membersAgree) (nodup : (s.patch n).bids.Nodup)
    (home : ∀ p : PortId, (s.patch n).stands (.port p) = true → (s.port p).patch = some n) : (s.left n ps).apart n (s.outsiders n ps) := by
  obtain ⟨x, here, -, bids, members, talker⟩ := s.left_patch n ps
  refine ⟨fun q hq => ?_, fun q hq d => ?_, fun q out => ?_⟩
  · rw [here] at hq
    have insider (hq' : (s.patch n).stands (.port q) = true) (new : q ∉ ps) : ¬ s.outsiders n ps q := by
      rintro (m | e)
      · exact new m
      · exact e (home q hq')
    rcases PatchRec.stands_iff.mp hq with e | e | e
    · rcases talker with none | ⟨same, others⟩
      · rw [none] at e; cases e
      · rw [same] at e
        exact insider (PatchRec.stands_iff.mpr (.inl e)) fun m => others q m e
    · cases hx : x.partner <;> rw [hx] at e <;> cases e
    · rw [bids, mem_eraseAll nodup] at e
      exact insider (PatchRec.stands_iff.mpr (.inr (.inr e.1))) fun m => e.2 q m rfl
  · rw [here, members, List.mem_filter] at hq
    refine absurd ((agree.1 n q).mp hq.1) (d.resolve_left fun m => ?_)
    simp [m] at hq
  · have insider : q ∉ ps ∧ (s.port q).patch = some n := by
      unfold State.outsiders at out
      exact ⟨fun m => out (.inl m), by_contra fun e => out (.inr e)⟩
    refine .inl ?_
    have taken : ((s.takenOut n ps).port q).patch = some n := by rw [State.takenOut_portPatch, if_neg insider.1]; exact insider.2
    unfold State.left
    split
    · rw [(still_dropTalker _ n).portPatch q]; exact taken
    · exact taken

/-- What follows of the leaving stays in the patch. -/
theorem State.leaveAll_spares {s : State} {n : SlotId} {ps : List PortId} {D : PortId → Prop} (a : (s.left n ps).apart n D) (c : Console) :
    Spares n D (s.left n ps) (s.leaveAll n ps c) := by
  rw [State.leaveAll_eq]
  have first : Spares n D (s.left n ps) (if ps.any (fun p => (s.patch n).talker == some (.port p)) then (s.takenOut n ps).release n (some c)
      else s.takenOut n ps) := by
    unfold State.left at a ⊢
    split
    · rename_i h; rw [if_pos h] at a; exact Spares.released a _
    · rename_i h; rw [if_neg h] at a; exact .refl a
  exact first.trans (Spares.evalPatch first.apart)

theorem traffic_leaveAll {s : State} {n : SlotId} {ps : List PortId} (used : (s.patch n).state ≠ .unused) (c : Console) :
    Traffic (fun _ => True) (s.takenOut n ps) (s.leaveAll n ps c) := by
  have here : (s.takenOut n ps).patch n = { s.patch n with
      bids := eraseAll ps (s.patch n).bids, members := (s.patch n).members.filter (fun p => !ps.contains p) } := by
    rw [State.takenOut_patch, if_pos rfl]
  rw [State.leaveAll_eq]
  refine Relation.ReflTransGen.trans ?_ (traffic_evalPatch _ _)
  split
  · exact traffic_release (PatchRec.ne_unused_of_state (by rw [here]; exact used)) _
  · exact .refl

/-! ### REMOVE_MEMBERS (R53, R54) -/

theorem removeChecks_none {s : State} {c : Console} {n : SlotId} {ps : List PortId} (used : (s.patch n).state ≠ .unused)
    (edits : (s.patch n).owner = some c ∨ (s.patch n).shared = true) (some' : ps ≠ []) (nodup : ps.Nodup)
    (home : ∀ p ∈ ps, (s.port p).patch = some n) : firstRefusal (s.removeChecks c n (ps.map portNumber)) = none := by
  obtain ⟨inUse, mine⟩ := State.inUse_checks used edits
  have once : (ps.map portNumber).find? (fun k => (portOf? k).isNone || decide (1 < (ps.map portNumber).count k)) = none := by
    refine List.find?_eq_none.mpr fun k hk => ?_
    obtain ⟨p, -, rfl⟩ := List.mem_map.mp hk
    rw [count_portNumbers nodup, portOf?_portNumber]
    exact Bool.false_ne_true
  have members : (ps.map portNumber).find? (fun k => !s.memberOf n k) = none := by
    refine List.find?_eq_none.mpr fun k hk => ?_
    obtain ⟨p, hp, rfl⟩ := List.mem_map.mp hk
    rw [State.memberOf, portOf?_portNumber, Option.any_some, home p hp]
    simp
  simp only [State.removeChecks, firstRefusal_cons, check_eq_none, inUse, mine, once, members, Option.map_none, firstRefusal_nil, and_true]
  cases ps with
  | nil => exact absurd rfl some'
  | cons p ps => rfl

theorem exec_removeMembers {s u : State} {c : Console} {n : SlotId} {ps : List PortId} (ready : s.readyFor c)
    (checks : firstRefusal ((s.heard c).removeChecks c n (ps.map portNumber)) = none) (hu : ((s.heard c).leaveAll n ps c).settle = u) :
    exec (.removeMembers c (slotNumber n) (ps.map portNumber)) s = .next (u.replied c ⟨.ok, u.patchList [n]⟩) := by
  refine exec_of_ready (q := .removeMembers (slotNumber n) (ps.map portNumber)) rfl ready ?_
  show doRemoveMembers c (slotNumber n) (ps.map portNumber) (s.heard c) = _
  unfold doRemoveMembers
  rw [State.onPatch_slotNumber, State.checked_pass checks, portsOf_map, ← hu]
  rfl

/-- Whatever the traffic does, the patch that ports leave keeps the rest of what is fixed of it, or retires in CLOSING. -/
theorem State.leaveAll_fixed {s t : State} {n : SlotId} {ps : List PortId} {c : Console} (used : (s.patch n).state ≠ .unused)
    (after : Traffic (fun _ => True) (s.leaveAll n ps c) t) :
    (t.patch n).fixedPart = { (s.patch n).fixedPart with members := (s.patch n).members.filter (fun p => !ps.contains p) } ∨
      (s.patch n).state = .closing ∧ t.patch n = PatchRec.unused := by
  have here : (s.takenOut n ps).patch n = { s.patch n with
      bids := eraseAll ps (s.patch n).bids, members := (s.patch n).members.filter (fun p => !ps.contains p) } := by
    rw [State.takenOut_patch, if_pos rfl]
  have whole : Traffic (fun _ => True) (s.takenOut n ps) t := (traffic_leaveAll used c).trans after
  rcases whole.keepsPatches n with ⟨fixed, -⟩ | ⟨gone, closing⟩
  · exact .inl (fixed.trans (by rw [here]; rfl))
  · rw [here] at closing; exact .inr ⟨closing, gone⟩

/-- Ports that leave stand nowhere in the patch afterwards, and their records are as their leaving made them (R54). -/
theorem State.leaveAll_settled {s : State} {n : SlotId} {ps : List PortId} {c : Console} (agree : s.membersAgree) (nodup : (s.patch n).bids.Nodup)
    (home : ∀ p : PortId, (s.patch n).stands (.port p) = true → (s.port p).patch = some n) (none : s.raised = []) :
    Spares n (s.outsiders n ps) (s.left n ps) (s.leaveAll n ps c).settle := by
  have leaves := State.leaveAll_spares (State.left_apart (ps := ps) agree nodup home) c
  refine leaves.trans (Spares.settle (B := fun e => e.port ∈ ps ∧ (s.port e.port).inRelaySet = true) leaves.apart (fun v hv e ⟨member, relays⟩ => ?_)
    fun e he => ?_)
  · have port : (s.left n ps).port e.port = { (s.port e.port).unkeyed.unsupervised with state := .detached, patch := Option.none } := by
      rw [State.left_port member]; exact PortRec.leavePatch_unparked (PortRec.unkeyed_unparked relays)
    have same := (leaves.trans hv).port_unparked (q := e.port) (.inl member) (by rw [port]; rfl)
    rw [port] at same
    exact State.handOn_unpatched e (by rw [same]) (by rw [same]; rfl)
  · rcases leaves.raised e he with h | out
    · rcases s.left_raised n ps e h with h | h
      · rw [none] at h; cases h
      · exact .inr h
    · exact .inl out

/-- Settles O41: a join is a write and a bid or a keying of its own, and what follows of a leave stays within the patch left. -/
theorem membersAreAddedAndRemoved : Obligations.MembersAreAddedAndRemoved := by
  unfold Obligations.MembersAreAddedAndRemoved
  refine ⟨fun s c n ports ready agree used opened edits some' nodup free => membersAreAdded ready agree used opened edits some' nodup free,
    fun s c n ports ready agree used edits some' nodup home => ?_⟩
  let h := s.heard c
  have settles := kept_settle (ns := []) (ps := []) (h.leaveAll n ports c)
  refine ⟨(h.leaveAll n ports c).settle, exec_removeMembers ready (removeChecks_none (s := h) used edits some' nodup home) rfl,
    State.leaveAll_fixed (s := h) used (traffic_settle _), fun p hp => ?_,
    ((kept_leaveAll List.mem_cons_self h ports c).trans (kept_settle _)).frame, fun none ordered p hp => ?_⟩
  · rcases settles.portPatch p List.not_mem_nil with e | e
    · exact e.trans (State.leaveAll_portPatch c hp)
    · exact e
  · obtain ⟨⟨-, once, -⟩, standing, -⟩ := ordered n
    have spares := State.leaveAll_settled (s := h) (ps := ports) (c := c) agree once standing none
    have mine : h.outsiders n ports p := .inl hp
    have port : (h.left n ports).port p = (s.port p).unkeyed.leavePatch := State.left_port (s := h) hp
    have parks : ((h.left n ports).port p).isParked = (s.port p).isParked := by
      rw [port, PortRec.leavePatch_isParked, PortRec.unkeyed_isParked]
    have out : ((h.leaveAll n ports c).settle.patch n).stands (.port p) = false :=
      Bool.eq_false_iff.mpr fun stands => spares.apart.stands p stands mine
    obtain ⟨talker, -, listed⟩ := PatchRec.stands_eq_false.mp out
    refine ⟨fun unparked => ?_, fun parked => ?_, talker, listed⟩
    · rw [spares.port_unparked mine (parks.trans unparked), port]
      refine ⟨?_, by rw [PortRec.leavePatch_guardLeft, PortRec.unkeyed_guardLeft]⟩
      rw [PortRec.leavePatch_unparked (by rw [PortRec.unkeyed_isParked]; exact unparked)]
    · have stays : (s.port p).unkeyed.leavePatch = { s.port p with patch := Option.none } := by
        have resting : (s.port p).unkeyed = s.port p := if_neg (by rw [PortRec.rests_of_isParked parked]; decide)
        rw [resting]; exact if_pos parked
      rw [spares.port_state mine, port, stays]

end Sys2Proof.Machine

/-! CREATE_PATCH (R49, R50). -/

namespace Sys2Proof.Machine

/-! ### The slot that is taken (R49) -/

theorem freeSlot_of_named {s : State} {n : SlotId} (free : (s.patch n).state = .unused) : s.freeSlot (slotNumber n) = some n := by
  unfold State.freeSlot
  rw [if_neg (show slotNumber n ≠ 0 from Nat.succ_ne_zero _), slotOf?_slotNumber, Option.filter_some, if_pos ((PatchRec.not_inUse_iff _).mpr free)]

theorem freeSlot_of_lowest {s : State} {n : SlotId} (free : (s.patch n).state = .unused) (lowest : ∀ m, m < n → (s.patch m).state ≠ .unused) :
    s.freeSlot 0 = some n := by
  unfold State.freeSlot
  rw [if_pos rfl]
  cases found : allSlots.find? (fun n => !(s.patch n).inUse) with
  | none => exact absurd ((PatchRec.not_inUse_iff _).mpr free) (List.find?_eq_none.mp found n (mem_allSlots n))
  | some m =>
    obtain ⟨first, before, after, split, passed⟩ := List.find?_eq_some_iff_append.mp found
    have ascending : (before ++ m :: after).Pairwise (· < ·) := by rw [← split]; decide
    have place : n ∈ before ++ m :: after := by rw [← split]; exact mem_allSlots n
    rcases List.mem_append.mp place with e | e
    · have := passed n e
      rw [(PatchRec.not_inUse_iff _).mpr free] at this; cases this
    · rcases List.mem_cons.mp e with e | e
      · rw [e]
      · have below := (List.pairwise_cons.mp (List.pairwise_append.mp ascending).2.1).1 n e
        exact absurd ((PatchRec.not_inUse_iff _).mp first) (lowest m below)

theorem createChecks_none {s : State} {k : Nat} {n : SlotId} {label : List Byte} {ps : List PortId} (slot : s.freeSlot k = some n) (low : k ≤ 12)
    (short : label.length ≤ 8) (printable : ∀ b ∈ label, 0x20 ≤ b.toNat ∧ b.toNat ≤ 0x7E) (nodup : ps.Nodup)
    (free : ∀ p ∈ ps, (s.port p).patch = none) : firstRefusal (s.createChecks k label (ps.map portNumber)) = none := by
  have admitted : (!labelAdmitted label) = false := by
    rw [labelAdmitted_row, decide_eq_false_iff_not]
    rintro (long | ⟨b, hb, below | above⟩)
    · omega
    · have := printable b hb; omega
    · have := printable b hb; omega
  have unpatched : firstPort (ps.map portNumber) (fun p => (s.port p).patch.isSome) = none := firstPort_map fun p hp => by rw [free p hp]; rfl
  have lowest : (k == 0 && (s.freeSlot 0).isNone) = false := by
    cases e : k == 0 with
    | false => rfl
    | true => rw [← beq_iff_eq.mp e, slot]; rfl
  have named : (k != 0 && (s.freeSlot k).isNone) = false := by rw [slot]; exact Bool.and_false _
  have fits : ps.length ≤ 16 := length_le_of_nodup nodup
  simp only [State.createChecks, firstRefusal_cons, check_eq_none, admitted, firstNoPort_map, firstRepeated_map nodup, unpatched, lowest, named,
    Option.map_none, List.length_map, decide_eq_false_iff_not, firstRefusal_nil, and_true]
  exact ⟨by omega, trivial, trivial, by omega⟩

theorem exec_createPatch {s u : State} {c : Console} {k : Nat} {n : SlotId} {label : List Byte} {ps : List PortId} (ready : s.readyFor c)
    (slot : (s.heard c).freeSlot k = some n) (checks : firstRefusal ((s.heard c).createChecks k label (ps.map portNumber)) = none)
    (hu : (((s.heard c).setPatch n (PatchRec.created c label)).joinAll n ps).settle = u) :
    exec (.createPatch c k label (ps.map portNumber)) s = .next (u.replied c ⟨.ok, u.patchList [n]⟩) := by
  refine exec_of_ready (q := .createPatch k label (ps.map portNumber)) rfl ready ?_
  show doCreatePatch c k label (ps.map portNumber) (s.heard c) = _
  unfold doCreatePatch
  rw [State.checked_pass checks, slot, portsOf_map, ← hu]
  rfl

/-! ### Parked ports beside ports that bid as they join (R47) -/

/-- The joins of some ports keep the state of the parked ones, and raise nothing of them. -/
structure JoinsPast (n : SlotId) (D : PortId → Prop) (s t : State) : Prop where
  state : ∀ q, D q → (t.port q).state = (s.port q).state
  raised : ReportsOnly (fun q => ¬ D q) s t
  apart : t.apart n D

theorem JoinsPast.of_spares {n : SlotId} {D : PortId → Prop} {s t : State} (h : Spares n D s t) : JoinsPast n D s t :=
  ⟨fun _ hq => h.port_state hq, h.raised, h.apart⟩

theorem JoinsPast.trans {n : SlotId} {D : PortId → Prop} {s t u : State} (h : JoinsPast n D s t) (k : JoinsPast n D t u) : JoinsPast n D s u :=
  ⟨fun q hq => (k.state q hq).trans (h.state q hq), h.raised.trans k.raised, k.apart⟩

theorem PortRec.joinedTo_patch (r : PortRec) (n : SlotId) : (r.joinedTo n).patch = some n := by
  unfold PortRec.joinedTo; split <;> rfl

theorem State.join_past {s : State} {n : SlotId} {D : PortId → Prop} (a : s.apart n D) {p : PortId} (h : D p → (s.port p).isParked = true) :
    JoinsPast n D s (s.join n p) := by
  have listed : Spares n D s (s.setPatch n { s.patch n with members := (s.patch n).members ++ [p] }) :=
    Spares.write a (fun q hq d => (List.mem_append.mp hq).elim (fun m => a.members q m d) fun e => by
      rw [List.mem_singleton.mp e] at d ⊢; exact h d) a.stands
  by_cases d : D p
  · have joined := State.joined_eq (n := n) (.inl (h d))
    have join : s.join n p = s.joined n p := by
      rw [State.join_eq, if_pos]
      rw [joined, State.setPort_port_same, PortRec.joinedTo_isParked]; exact h d
    have record : (s.port p).joinedTo n = { s.port p with patch := some n } := if_pos (h d)
    rw [join, joined, record]
    refine (JoinsPast.of_spares listed).trans ⟨fun q _ => ?_, .of_eq rfl, listed.apart.stands, fun q hq dq => ?_, fun q hq => ?_⟩ <;>
      rw [State.setPort_port] <;> split
    · rename_i e; subst e; rfl
    · rfl
    · exact h d
    · exact listed.apart.members q hq dq
    · rename_i e; exact absurd (e ▸ d) hq
    · exact listed.apart.home q hq
  · have joined : Spares n D s (s.joined n p) := listed.trans (Spares.updPort (f := fun r => r.joinedTo n) listed.apart d
      (.inr (.inl (PortRec.joinedTo_patch _ _))))
    refine .of_spares ?_
    rw [State.join_eq]
    split
    · exact joined
    · have bids : Spares n D (s.joined n p) ((s.joined n p).portBidsIfQualified p) := by
        unfold State.portBidsIfQualified
        split
        · exact Spares.portBids joined.apart d
        · exact .refl joined.apart
      exact joined.trans (bids.trans (Spares.evalPort bids.apart d))

theorem State.joinAll_past {s : State} {n : SlotId} {D : PortId → Prop} (ps : List PortId) (a : s.apart n D)
    (h : ∀ p ∈ ps, D p → (s.port p).isParked = true) : JoinsPast n D s (s.joinAll n ps) := by
  induction ps generalizing s with
  | nil => exact .of_spares (.refl a)
  | cons p ps ih =>
    have first := State.join_past a (h p List.mem_cons_self)
    exact first.trans (ih first.apart fun q hq d => by
      rw [PortRec.isParked_of_state (first.state q d)]; exact h q (List.mem_cons_of_mem _ hq) d)

/-- Settles O40. -/
theorem patchIsCreated : Obligations.PatchIsCreated := by
  unfold Obligations.PatchIsCreated
  intro s c k n label ports ready agree unused place short printable nodup free
  let h := s.heard c
  let v := h.setPatch n (PatchRec.created c label)
  have here : v.patch n = PatchRec.created c label := State.setPatch_patch_same ..
  have empty : (s.patch n).members = [] := by rw [agree.2.2 n unused]; rfl
  have agrees : v.membersAgree := agree_modPatch (s := h) (f := fun _ => PatchRec.created c label) agree empty.symm nofun
  have slot : h.freeSlot k = some n := by
    rcases place with e | ⟨e, lowest⟩ <;> rw [e]
    · exact freeSlot_of_named (s := h) unused
    · exact freeSlot_of_lowest (s := h) unused lowest
  have low : k ≤ 12 := by
    obtain ⟨-, le⟩ := slotNumber_inRange n
    rcases place with e | ⟨e, -⟩ <;> omega
  obtain ⟨fixed, homes⟩ := State.joinAll_settled (s := v) agrees (by rw [here]; nofun) (by rw [here]; nofun) nodup free
  refine ⟨(v.joinAll n ports).settle, exec_createPatch ready slot (createChecks_none (s := h) slot low short printable nodup free) rfl,
    ?_, homes, ?_, fun none => ⟨fun p hp parked => ?_, fun rests silent => ?_⟩⟩
  · rw [fixed, here]; rfl
  · have taken : Kept [n] ports h v := kept_setPatch (.inl List.mem_cons_self)
    exact ((taken.trans (kept_joinAll v ports)).trans (kept_settle _)).frame
  · let D : PortId → Prop := fun q => q ∉ ports ∨ (s.port q).isParked = true
    have apart : v.apart n D := by
      refine ⟨fun q hq => ?_, fun q hq => ?_, fun q hq => .inr (free q (by_contra fun e => hq (.inl e)))⟩
      · rw [here] at hq; cases hq
      · rw [here] at hq; cases hq
    have past := State.joinAll_past ports apart fun q hq d => d.resolve_left fun e => e hq
    have settled := Spares.settle (B := fun _ => False) past.apart (fun _ _ _ => False.elim) fun e he => .inl ((past.raised e he).resolve_left fun m => by
      rw [show v.raised = [] from none] at m; cases m)
    exact (settled.port_state (.inr parked)).trans (past.state p (.inr parked))
  · obtain ⟨patch, raised, port⟩ := State.joinAll_silent (s := v) (n := n) nodup rests silent
    rw [State.settle_of_none (raised.trans none), patch, here]
    refine ⟨rfl, rfl, rfl, fun p hp detached => ?_⟩
    have unparked : (v.port p).isParked = false := by simp only [PortRec.isParked, show (v.port p).state = .detached from detached]
    rw [port, if_pos hp, State.joinRecord_unparked unparked, if_neg]
    · rfl
    · rintro ⟨-, state, -⟩
      rw [here] at state
      rcases state with e | e <;> cases e

end Sys2Proof.Machine

/-! MOVE_MEMBER, refuted: a port listed twice is granted the talk right of the patch it has left (R54, R56, R85). -/

namespace Sys2Proof.Machine

/-- An idle member of patch 1. -/
def idleMember : PortRec := { PortRec.reset with patch := some 0, state := .idle }

/-- A FULL member of patch 1, in the relay set with its carrier qualified. -/
def fullRelaying : PortRec := { idleMember with cfg := { idleMember.cfg with kind := .full }, state := .relay, carrier := .present }

/-- Patch 1 in TALK, its talker (port 1) still in the relay set, and its member port 2 listed twice; and patch 12 at rest, empty. Every
premise of MemberIsMoved holds of it; none of them says that a list names a source once, which the clause on the silent join needs. -/
def listedTwice : State :=
  (((State.reset.setPort 0 fullRelaying).setPort 1 idleMember).setPatch 0 { PatchRec.created .A [] with
    state := .talk, members := [0, 1], talker := some (.port 0), bids := [.port 1, .port 1] }).setPatch 11 (PatchRec.created .A [])

theorem listedTwice_standsAtHome : listedTwice.standsAtHome 0 ∧ listedTwice.standsAtHome 11 :=
  ⟨⟨by decide, fun c h => by cases c <;> revert h <;> decide⟩, ⟨by decide, fun c h => by cases c <;> revert h <;> decide⟩⟩

/-- The state of port p after one step. -/
def stateAfter (i : Instr) (s : State) (p : PortId) : Option PortState :=
  match exec i s with
  | .next t => some (t.port p).state
  | _ => none

/-- Port 2 moves to patch 12; the evaluation of patch 1 unkeys its talker, whose carrier is lost, and the entry of port 2 that is left takes
the talk right: port 2 is TALKER, in patch 12. -/
theorem listedTwice_moved : stateAfter (.moveMember .A 2 12) listedTwice 1 = some .talker := by decide

theorem stateAfter_of_next {i : Instr} {s t : State} (h : exec i s = .next t) (p : PortId) : stateAfter i s p = some (t.port p).state := by
  unfold stateAfter; rw [h]

/-- Refutes O42: in listedTwice the port that joins patch 12 without a bid is neither keyed nor IDLE, but TALKER. -/
theorem not_memberIsMoved : ¬ Obligations.MemberIsMoved := by
  unfold Obligations.MemberIsMoved
  intro moves
  obtain ⟨standsSource, standsDest⟩ := listedTwice_standsAtHome
  obtain ⟨u, moved, -, -, -, -, -, -, joins⟩ := moves listedTwice .A 1 0 11 (by decide) (by decide) (by decide) (by decide) (by decide) (by decide)
    (by decide) (by decide)
  obtain ⟨-, -, state⟩ := joins rfl standsSource standsDest (by decide) (by decide) (by decide)
  have talker : some (u.port 1).state = some .talker := (stateAfter_of_next moved 1).symm.trans listedTwice_moved
  rw [state (by decide)] at talker
  revert talker
  decide

end Sys2Proof.Machine

/-! MERGE_PATCHES (R57 to R60). -/

namespace Sys2Proof.Machine

/-! ### Bid lists joined (R59) -/

variable {s : State}

/-- A bid that enters a list in order is the last of its priority; the others of each priority keep their order. -/
theorem State.insertBid_filter (src : Source) {l : List Source} (sorted : Sorted s.priority l) (k : Nat) :
    (s.insertBid src l).filter (fun x => s.priority x == k) =
      l.filter (fun x => s.priority x == k) ++ if s.priority src = k then [src] else [] := by
  obtain ⟨before, after, rfl, inserted, -, below⟩ := State.insertBid_splits (src := src) sorted
  rw [inserted, List.filter_append, List.filter_append, List.filter_cons]
  by_cases e : s.priority src = k
  · have none : after.filter (fun x => s.priority x == k) = [] := List.filter_eq_nil_iff.mpr fun x hx h => by
      have := below x hx
      rw [beq_iff_eq.mp h] at this
      omega
    rw [if_pos (beq_iff_eq.mpr e), if_pos e, none, List.append_nil]
  · rw [if_neg (fun h => e (beq_iff_eq.mp h)), if_neg e, List.append_nil]

theorem foldl_insertBid_filter (l : List Source) {acc : List Source} (sorted : Sorted s.priority acc) (k : Nat) :
    (l.foldl (fun l src => s.insertBid src l) acc).filter (fun x => s.priority x == k) =
      acc.filter (fun x => s.priority x == k) ++ l.filter (fun x => s.priority x == k) := by
  induction l generalizing acc with
  | nil => rw [List.filter_nil, List.append_nil]; rfl
  | cons x l ih =>
    rw [List.foldl_cons, ih (State.insertBid_sorted x sorted), State.insertBid_filter x sorted, List.append_assoc, List.filter_cons]
    by_cases e : s.priority x = k
    · rw [if_pos e, if_pos (beq_iff_eq.mpr e)]; rfl
    · rw [if_neg e, if_neg (fun h => e (beq_iff_eq.mp h))]; rfl

/-- The first console of a list is the first of its console entries. -/
theorem firstConsole_filter (l : List Source) : firstConsole (l.filter isConsole) = firstConsole l := by
  induction l with
  | nil => rfl
  | cons x l ih =>
    cases x with
    | console d => rfl
    | port p => exact ih

theorem State.insertBid_consoles (src : Source) {l : List Source} (sorted : Sorted s.priority l) :
    (s.insertBid src l).filter isConsole = l.filter isConsole ++ [src].filter isConsole := by
  obtain ⟨before, after, rfl, inserted, -, below⟩ := State.insertBid_splits (src := src) sorted
  rw [inserted, List.filter_append, List.filter_append, List.filter_cons]
  cases src with
  | port p => rw [show [Source.port p].filter isConsole = [] from rfl, List.append_nil]; rfl
  | console d =>
    have none : after.filter isConsole = [] := List.filter_eq_nil_iff.mpr fun x hx h => by
      cases x with
      | port q => cases h
      | console e => exact absurd (below _ hx) (lt_irrefl _)
    rw [none, List.append_nil]; rfl

theorem foldl_insertBid_consoles (l : List Source) {acc : List Source} (sorted : Sorted s.priority acc) :
    (l.foldl (fun l src => s.insertBid src l) acc).filter isConsole = (acc ++ l).filter isConsole := by
  induction l generalizing acc with
  | nil => rw [List.append_nil]; rfl
  | cons x l ih =>
    rw [List.foldl_cons, ih (State.insertBid_sorted x sorted), List.filter_append, State.insertBid_consoles x sorted, List.append_assoc,
      ← List.filter_append, ← List.filter_append]
    rfl

/-! ### Listen sets renamed (R60) -/

theorem mem_renameListen {a b : SlotId} {l : List ListenEntry} {x : ListenEntry} : x ∈ renameListen b a l ↔
    (x.patch ≠ b ∧ x ∈ l) ∨ (x.patch = a ∧ l.find? (fun e => e.patch == b) = some ⟨b, x.level⟩ ∧ ∀ y ∈ l, y.patch ≠ b → y.patch ≠ a) := by
  have others : x ∈ l.filter (fun e => e.patch != b) ↔ x.patch ≠ b ∧ x ∈ l := by rw [List.mem_filter, bne_iff_ne, and_comm]
  unfold renameListen
  dsimp only
  cases found : l.find? (fun e => e.patch == b) with
  | none =>
    have absent := List.find?_eq_none.mp found
    simp only [reduceCtorEq, false_and, and_false, or_false]
    exact ⟨fun hx => ⟨fun e => absent x hx (beq_iff_eq.mpr e), hx⟩, And.right⟩
  | some e =>
    have named : e.patch = b := beq_iff_eq.mp (List.find?_some found :)
    have any : (l.filter (fun e => e.patch != b)).any (fun x => x.patch == a) = true ↔ ¬ ∀ y ∈ l, y.patch ≠ b → y.patch ≠ a := by
      simp only [List.any_eq_true, List.mem_filter, bne_iff_ne, beq_iff_eq]
      push Not
      exact ⟨fun ⟨y, ⟨hy, hb⟩, ha⟩ => ⟨y, hy, hb, ha⟩, fun ⟨y, hy, hb, ha⟩ => ⟨y, ⟨hy, hb⟩, ha⟩⟩
    have entry : x = ⟨a, e.level⟩ ↔ x.patch = a ∧ some e = some ⟨b, x.level⟩ := by
      rcases x with ⟨m, v⟩
      rcases e with ⟨m', v'⟩
      simp only at named
      simp only [ListenEntry.mk.injEq, Option.some.injEq, named, true_and]
      exact and_congr_right fun _ => eq_comm
    dsimp only
    split
    · rename_i has
      rw [others]
      exact ⟨.inl, fun h => h.resolve_right fun ⟨_, _, free⟩ => any.mp has free⟩
    · rename_i none
      rw [insertEntry_mem, others, entry, or_comm]
      have free : ∀ y ∈ l, y.patch ≠ b → y.patch ≠ a := by_contra fun h => none (any.mpr h)
      exact or_congr_right ⟨fun ⟨h, k⟩ => ⟨h, k, free⟩, fun ⟨h, k, _⟩ => ⟨h, k⟩⟩

/-! ### The state after a merge -/

/-- The members of b carried over, before the keying unit evaluates a (R58). -/
def State.carried (s : State) (a b : SlotId) : State :=
  (s.patch b).members.foldl (fun t p => t.updPort p (fun r => { r with patch := some a })) ((s.setPatch a (s.mergedRecord a b)).setPatch b PatchRec.unused)

theorem foldl_carried (l : List PortId) (a : SlotId) (s : State) :
    OnlyPorts s (l.foldl (fun t p => t.updPort p (fun r => { r with patch := some a })) s)
      (fun q => if q ∈ l then { s.port q with patch := some a } else s.port q) := by
  induction l generalizing s with
  | nil => exact ⟨fun q => by simp, rfl⟩
  | cons p l ih =>
    rw [List.foldl_cons, State.updPort_of_masked rfl]
    have tail := ih (s.setPort p { s.port p with patch := some a })
    refine ⟨fun q => (tail.port q).trans ?_, tail.rest⟩
    rw [State.setPort_port]
    by_cases e : q = p
    · subst e; simp
    · simp [e]

theorem State.merge_raised {a b : SlotId} (c : Console) (hab : a ≠ b) (quietA : s.keyedQuietly a) (quietB : s.keyedQuietly b) :
    (s.merge c a b).raised = s.raised := by
  have carried := foldl_carried (s.patch b).members a ((s.setPatch a (s.mergedRecord a b)).setPatch b PatchRec.unused)
  have here : (s.carried a b).patch a = s.mergedRecord a b := by
    refine (carried.patch a).trans ?_
    rw [State.setPatch_patch, if_neg hab, State.setPatch_patch_same]
  have quiet : (s.carried a b).keyedQuietly a := fun q hq hr => by
    rw [here, State.mergedRecord_members] at hq
    have port := carried.port q
    rw [State.carried, port] at hr ⊢
    split at hr
    · rename_i m
      rw [if_pos m]
      exact quietB q m hr
    · rename_i m
      rw [if_neg m]
      exact quietA q ((List.mem_append.mp hq).resolve_right m) hr
  have eval := State.evalPatch_quiet quiet
  have merged : s.merge c a b = ((((s.carried a b).evalPatch a).modConsole .A (fun r => r.renamePatch b a)).modConsole .B
      (fun r => r.renamePatch b a)).offer (otherConsole c) ⟨.patchRetired, slotNumber b⟩ := rfl
  rw [merged, State.offer_raised]
  exact eval.raised.trans carried.raised

theorem State.mergedRecord_fixed (s : State) (a b : SlotId) :
    (s.mergedRecord a b).fixedPart = { (s.patch a).fixedPart with members := (s.patch a).members ++ (s.patch b).members } := by
  unfold State.mergedRecord PatchRec.promotePartner State.carryPartner
  split <;> split <;> [skip; split; skip; split] <;> rfl

theorem State.mergedRecord_open (s : State) (a b : SlotId) : (s.mergedRecord a b).state ≠ .closing := by
  rw [State.mergedRecord_state]
  unfold State.joinedRecord
  dsimp only
  split_ifs <;> nofun

theorem State.merge_forgotten {a b : SlotId} (c : Console) (hab : a ≠ b) : (s.merge c a b).forgotten b where
  unused := by rw [State.merge_patch hab, if_neg hab.symm, if_pos rfl]
  target d := by
    rw [State.merge_console]
    unfold ConsoleRec.renamePatch
    dsimp only
    split
    · exact fun e => hab (Target.patch.inj e)
    · assumption
  listen d e he := by
    rw [State.merge_console] at he
    rcases mem_renameListen.mp he with ⟨other, -⟩ | ⟨here, -⟩
    · exact other
    · rw [here]; exact hab

theorem State.merge_offered (s : State) (c : Console) (a b : SlotId) :
    (s.merge c a b).offered (otherConsole c) ⟨.patchRetired, slotNumber b⟩ := by
  unfold State.merge State.offered
  dsimp only
  rw [State.offer_notice, if_pos rfl]
  exact NoticeUnit.offered_offer _ _

/-! ### Who becomes partner (R59) -/

/-- The first listed console, where a MIX survivor with a port talker has no partner of either patch. -/
def State.promoted (s : State) (a b : SlotId) : Option Console :=
  if (s.patch b).partner = none ∧ (s.patch a).partner = none ∧ (s.patch a).style = .mix ∧
    (∃ p, (s.patch a).talker.or (s.patch b).talker = some (.port p)) then firstConsole ((s.patch a).bids ++ (s.patch b).bids) else none

/-- The survivor's record: joined, with a partner promoted, carried over or listed. -/
theorem State.mergedRecord_cases {a b : SlotId} (sorted : Sorted s.priority (s.patch a).bids) :
    (∃ d, s.promoted a b = some d ∧ s.mergedRecord a b =
      { s.joinedRecord a b with partner := some d, bids := (s.joinedRecord a b).bids.erase (.console d) }) ∨
    s.promoted a b = none ∧
      ((∃ d, (s.patch b).partner = some d ∧ (s.patch a).style = .mix ∧ s.mergedRecord a b = { s.joinedRecord a b with partner := some d }) ∨
        (∃ d, (s.patch b).partner = some d ∧ (s.patch a).style = .preempt ∧
          s.mergedRecord a b = { s.joinedRecord a b with bids := s.insertBid (.console d) (s.joinedRecord a b).bids }) ∨
        ((s.patch b).partner = none ∧ s.mergedRecord a b = s.joinedRecord a b)) := by
  have first : firstConsole (s.joinedRecord a b).bids = firstConsole ((s.patch a).bids ++ (s.patch b).bids) := by
    rw [← firstConsole_filter, ← firstConsole_filter ((s.patch a).bids ++ (s.patch b).bids)]
    exact congrArg firstConsole (foldl_insertBid_consoles _ sorted)
  unfold State.mergedRecord State.carryPartner
  cases partner : (s.patch b).partner with
  | none =>
    have chosen : (if (s.joinedRecord a b).style = .mix ∧ (s.joinedRecord a b).portTalker.isSome ∧ (s.joinedRecord a b).partner = none then
        firstConsole (s.joinedRecord a b).bids else none) = s.promoted a b := by
      rw [first]
      unfold State.promoted
      refine if_congr ?_ rfl rfl
      rw [PatchRec.portTalker_isSome]
      exact ⟨fun ⟨style, talker, free⟩ => ⟨partner, free, style, talker⟩, fun ⟨_, free, style, talker⟩ => ⟨style, talker, free⟩⟩
    unfold PatchRec.promotePartner
    dsimp only
    rw [chosen]
    cases e : s.promoted a b with
    | none => exact .inr ⟨rfl, .inr (.inr ⟨rfl, rfl⟩)⟩
    | some d => exact .inl ⟨d, rfl, rfl⟩
  | some d =>
    have nobody : s.promoted a b = none := if_neg fun h => by rw [partner] at h; cases h.1
    refine .inr ⟨nobody, ?_⟩
    cases style : (s.patch a).style with
    | mix =>
      refine .inl ⟨d, rfl, rfl, ?_⟩
      have joined : (s.joinedRecord a b).style = .mix := style
      dsimp only
      rw [if_pos joined]
      unfold PatchRec.promotePartner
      rw [if_neg fun h => nomatch h.2.2]
    | preempt =>
      refine .inr (.inl ⟨d, rfl, rfl, ?_⟩)
      have joined : (s.joinedRecord a b).style = .preempt := style
      dsimp only
      rw [if_neg (by rw [joined]; decide)]
      unfold PatchRec.promotePartner
      rw [if_neg fun h => by rw [show (s.joinedRecord a b).style = .mix from h.1] at joined; cases joined]

/-- In a listen set in order an entry is found by its patch. -/
theorem find_listenEntry {l : List ListenEntry} (ascends : l.Pairwise (fun x y => x.patch < y.patch)) {e : ListenEntry} (he : e ∈ l) :
    l.find? (fun x => x.patch == e.patch) = some e := by
  cases found : l.find? (fun x => x.patch == e.patch) with
  | none => exact absurd (beq_iff_eq.mpr rfl) (List.find?_eq_none.mp found e he)
  | some x =>
    have once : (l.map ListenEntry.patch).Nodup := List.pairwise_map.mpr (ascends.imp fun h => ne_of_lt h)
    exact congrArg some (List.inj_on_of_nodup_map once (List.mem_of_find?_eq_some found) he (beq_iff_eq.mp (List.find?_some found :)))

/-- The listen set after a merge, entry by entry (R60). -/
theorem renameListen_entries {a b : SlotId} {l : List ListenEntry} (hab : a ≠ b) (ascends : l.Pairwise (fun x y => x.patch < y.patch)) :
    (∀ e ∈ renameListen b a l, e.patch ≠ b ∧ e ∈ l ∨ e.patch = a ∧ ⟨b, e.level⟩ ∈ l ∧ ∀ x ∈ l, x.patch ≠ a) ∧
      ∀ e ∈ l, (e.patch ≠ b → e ∈ renameListen b a l) ∧
        (e.patch = b → (∀ x ∈ l, x.patch ≠ a) → ⟨a, e.level⟩ ∈ renameListen b a l) := by
  refine ⟨fun e he => ?_, fun e he => ⟨fun other => mem_renameListen.mpr (.inl ⟨other, he⟩), fun named free => ?_⟩⟩
  · rcases mem_renameListen.mp he with h | ⟨here, found, free⟩
    · exact .inl h
    · refine .inr ⟨here, List.mem_of_find?_eq_some found, fun x hx e => ?_⟩
      by_cases hb : x.patch = b
      · exact hab (e.symm.trans hb)
      · exact free x hx hb e
  · refine mem_renameListen.mpr (.inr ⟨rfl, ?_, fun y hy _ => free y hy⟩)
    subst named
    exact find_listenEntry ascends he

theorem State.joinedBids_sorted {a b : SlotId} (sorted : Sorted s.priority (s.patch a).bids) : Sorted s.priority (s.joinedRecord a b).bids :=
  foldl_insertBid_sorted _ sorted

theorem State.joinedBids_filter {a b : SlotId} (sorted : Sorted s.priority (s.patch a).bids) (k : Nat) :
    (s.joinedRecord a b).bids.filter (fun x => s.priority x == k) =
      (s.patch a).bids.filter (fun x => s.priority x == k) ++ (s.patch b).bids.filter (fun x => s.priority x == k) :=
  foldl_insertBid_filter _ sorted k

/-- The survivor's partner (R59). -/
theorem State.mergedRecord_partner {a b : SlotId} (sorted : Sorted s.priority (s.patch a).bids) :
    s.mergedRecord a b = { s.joinedRecord a b with
      partner := if (s.patch a).style = .mix then (s.patch b).partner.or ((s.promoted a b).or (s.patch a).partner) else (s.patch a).partner
      bids := (s.mergedRecord a b).bids } := by
  rcases State.mergedRecord_cases (b := b) sorted with ⟨d, chosen, e⟩ | ⟨nobody, ⟨d, partner, style, e⟩ | ⟨d, partner, style, e⟩ | ⟨partner, e⟩⟩ <;> rw [e]
  · have mix : (s.patch b).partner = none ∧ (s.patch a).style = .mix := by
      unfold State.promoted at chosen
      split at chosen
      · rename_i h; exact ⟨h.1, h.2.2.1⟩
      · cases chosen
    rw [if_pos mix.2, mix.1, chosen]; rfl
  · rw [if_pos style, partner]; rfl
  · rw [if_neg (by rw [style]; decide)]; rfl
  · rw [partner, nobody, Option.none_or, Option.none_or, ite_self]; rfl

/-- The survivor's list, priority by priority (R59). -/
theorem State.mergedRecord_bids {a b : SlotId} (sorted : Sorted s.priority (s.patch a).bids) : Sorted s.priority (s.mergedRecord a b).bids ∧
    ∀ k, (s.mergedRecord a b).bids.filter (fun x => s.priority x == k) =
      match s.promoted a b, (s.patch a).style, (s.patch b).partner with
      | some d, _, _ => ((s.patch a).bids.filter (fun x => s.priority x == k) ++ (s.patch b).bids.filter (fun x => s.priority x == k)).erase (.console d)
      | none, .preempt, some d =>
        if k = 9 then (s.patch a).bids.filter (fun x => s.priority x == k) ++ (s.patch b).bids.filter (fun x => s.priority x == k) ++ [.console d]
        else (s.patch a).bids.filter (fun x => s.priority x == k) ++ (s.patch b).bids.filter (fun x => s.priority x == k)
      | none, _, _ => (s.patch a).bids.filter (fun x => s.priority x == k) ++ (s.patch b).bids.filter (fun x => s.priority x == k) := by
  have joined := State.joinedBids_sorted (b := b) sorted
  have filters := State.joinedBids_filter (b := b) sorted
  rcases State.mergedRecord_cases (b := b) sorted with ⟨d, chosen, e⟩ | ⟨nobody, ⟨d, partner, style, e⟩ | ⟨d, partner, style, e⟩ | ⟨partner, e⟩⟩ <;> rw [e]
  · refine ⟨joined.sublist List.erase_sublist, fun k => ?_⟩
    rw [chosen, ← List.erase_filter, filters]
  · refine ⟨joined, fun k => ?_⟩
    rw [nobody, style, partner, filters]
  · refine ⟨State.insertBid_sorted _ joined, fun k => ?_⟩
    rw [nobody, style, partner, State.insertBid_filter _ joined, filters]
    dsimp only
    by_cases nine : k = 9
    · rw [if_pos nine, if_pos (show s.priority (.console d) = k from nine.symm)]
    · rw [if_neg nine, if_neg (fun e : s.priority (.console d) = k => nine e.symm), List.append_nil]
  · refine ⟨joined, fun k => ?_⟩
    rw [nobody, partner, filters]
    cases (s.patch a).style <;> rfl

/-! ### The command (R57) -/

theorem mergeChecks_none {c : Console} {a b : SlotId} (hab : a ≠ b) (usedA : (s.patch a).state ≠ .unused) (openA : (s.patch a).state ≠ .closing)
    (usedB : (s.patch b).state ≠ .unused) (openB : (s.patch b).state ≠ .closing) (editA : (s.patch a).owner = some c ∨ (s.patch a).shared = true)
    (editB : (s.patch b).owner = some c ∨ (s.patch b).shared = true) : firstRefusal (s.mergeChecks c a b) =
      if (s.patch a).talker.isSome && (s.patch b).talker.isSome then some (refuse .floorConflict) else none := by
  obtain ⟨inUseA, mineA⟩ := State.inUse_checks usedA editA
  obtain ⟨inUseB, mineB⟩ := State.inUse_checks usedB editB
  have apart : (a == b) = false := beq_eq_false_iff_ne.mpr hab
  unfold State.mergeChecks
  rw [inUseA, inUseB, mineA, mineB, State.isClosing_eq_none.mpr openA, State.isClosing_eq_none.mpr openB, apart]
  cases (s.patch a).talker.isSome && (s.patch b).talker.isSome <;> rfl

theorem exec_mergePatches {c : Console} {a b : SlotId} {t : State} {x : Response} (ready : s.readyFor c)
    (h : (s.heard c).checked ((s.heard c).mergeChecks c a b) (fun t => (t.merge c a b).finished (fun u => ok (u.patchList [a, b]))) = (t, x)) :
    exec (.mergePatches c (slotNumber a) (slotNumber b)) s = .next (t.replied c x) := by
  refine exec_of_ready (q := .mergePatches (slotNumber a) (slotNumber b)) rfl ready ?_
  show doMergePatches c (slotNumber a) (slotNumber b) (s.heard c) = _
  unfold doMergePatches
  rw [State.onPatch_slotNumber, State.onPatch_slotNumber]
  exact h

/-- Settles O43: the survivor is one record, joined list by list, and the consoles are renamed; nothing else follows where no carrier event comes of it. -/
theorem patchesAreMerged : Obligations.PatchesAreMerged := by
  unfold Obligations.PatchesAreMerged
  intro s c a b ready agree hab usedA openA usedB openB editA editB ra rb
  let h := s.heard c
  have checks := mergeChecks_none (s := h) hab usedA openA usedB openB editA editB
  refine ⟨fun talkA talkB => exec_mergePatches ready (State.checked_refused ?_), fun oneTalker => ?_⟩
  · rw [checks, show (h.patch a).talker.isSome = true from talkA, show (h.patch b).talker.isSome = true from talkB]; rfl
  · have passes : firstRefusal (h.mergeChecks c a b) = none := by
      rw [checks]
      rcases oneTalker with e | e
      · rw [show (h.patch a).talker = none from e]; rfl
      · rw [show (h.patch b).talker = none from e, Option.isSome_none, Bool.and_false]; rfl
    let m := h.merge c a b
    have record : m.patch a = h.mergedRecord a b := by rw [State.merge_patch hab, if_pos rfl]
    have settles : Traffic (fun _ => True) m m.settle := traffic_settle m
    have fixed : (m.settle.patch a).fixedPart = { ra.fixedPart with members := ra.members ++ rb.members } := by
      rcases settles.keepsPatches a with ⟨e, -⟩ | ⟨-, e⟩ <;> rw [record] at e
      · exact e.trans (State.mergedRecord_fixed h a b)
      · exact absurd e (State.mergedRecord_open h a b)
    have gone := settles.forgotten (State.merge_forgotten (s := h) c hab)
    have merges : m.membersAgree := ((sound_of_agree (s := h) agree).merge ⟨hab, usedA, usedB, openA, openB, oneTalker⟩ c).agree
    refine ⟨m.settle, (exec_mergePatches ready (State.checked_pass passes)).trans ?_, fixed, gone.unused, fun p hp => ?_,
      fun d => ⟨gone.target d, gone.listen d⟩, settles.offered (State.merge_offered h c a b),
      ((kept_merge h c a b).trans (kept_settle _)).frame, fun none quietA quietB => ?_⟩
    · have image : m.settle.patchList [a, b] = [2#8, byteOf (slotNumber a), byteOf (m.settle.patch a).state.code,
          byteOf (m.settle.patch a).members.length, byteOf (slotNumber b), 0#8, 0#8] := by
        show [2#8, byteOf (slotNumber a), byteOf (m.settle.patch a).state.code, byteOf (m.settle.patch a).members.length, byteOf (slotNumber b),
          byteOf (m.settle.patch b).state.code, byteOf (m.settle.patch b).members.length] = _
        rw [gone.unused]; rfl
      exact congrArg (fun l => Host.Outcome.next (m.settle.replied c ⟨.ok, l⟩)) image
    · refine ((agree_settle merges).1 a p).mp ?_
      rw [show (m.settle.patch a).members = ra.members ++ rb.members from (congrArg PatchRec.members fixed :)]
      exact List.mem_append_right _ hp
    · have settled : m.settle = m := State.settle_of_none ((State.merge_raised (s := h) c hab quietA quietB).trans none)
      rw [settled, record]
      refine ⟨fun d => ?_, fun sorted => ?_⟩
      · have console : m.console d = (h.console d).renamePatch b a := State.merge_console h c a b d
        have listen : (h.console d).listen = (s.console d).listen := by
          by_cases e : d = c
          · subst e; rw [State.heard_console]
          · rw [State.heard_console_of_ne s e]
        have target : (h.console d).target = (s.console d).target := State.heard_target s c d
        rw [console]
        refine ⟨?_, fun ranges => ?_⟩
        · rw [← target]; rfl
        · have ranged : (h.console d).inRange := by
            by_cases e : d = c
            · subst e; rw [State.heard_console]; exact ranges
            · rw [State.heard_console_of_ne s e]; exact ranges
          obtain ⟨-, -, -, ascends, -⟩ := ConsoleRec.renamePatch_inRange b a ranged
          obtain ⟨-, -, -, before, -⟩ := ranges
          have entries := renameListen_entries hab before
          have renamed : ((h.console d).renamePatch b a).listen = renameListen b a (s.console d).listen := congrArg (renameListen b a) listen
          refine ⟨ascends, ?_⟩
          rw [renamed]
          exact entries
      · intro talker hang promoted
        obtain ⟨ordered, filters⟩ := State.mergedRecord_bids (s := h) (b := b) sorted
        refine ⟨(State.mergedRecord_partner (s := h) (b := b) sorted).trans ?_, ordered, filters⟩
        unfold State.joinedRecord
        dsimp only
        cases e : talker with
        | none => rw [show (h.patch a).talker.or (h.patch b).talker = .none from e]; rfl
        | some src => rw [show (h.patch a).talker.or (h.patch b).talker = some src from e]; rfl

end Sys2Proof.Machine

/-! What a good frame carries out leaves the lines as they are, and the receiving half of a link character by character. -/

namespace Sys2Proof.Machine

/-! ### The receivers and the links of the consoles -/

/-- From s to t no receiver moves, and no console's link changes between UP and LOST. -/
def State.sameLines (s t : State) : Prop := ∀ d, (t.link d).rx = (s.link d).rx ∧ (t.console d).link = (s.console d).link

section
variable {s t u : State} {ns : List SlotId} {ps : List PortId} {p : PortId}

theorem State.sameLines.refl (s : State) : s.sameLines s := fun _ => ⟨rfl, rfl⟩

theorem State.sameLines.trans (h : s.sameLines t) (k : t.sameLines u) : s.sameLines u := fun d =>
  ⟨(k d).1.trans (h d).1, (k d).2.trans (h d).2⟩

theorem Kept.sameLines (h : Kept ns ps s t) : s.sameLines t := fun d =>
  have link : ∀ r : ConsoleRec, r.fixedPart.link = r.link := fun _ => rfl
  ⟨LinkUnit.fixedPart_rx (h.links d), by rw [← link, h.consoles d, link]⟩

theorem keptBut.sameLines (h : keptBut p s t) : s.sameLines t :=
  fun d => Kept.sameLines (s := s.setPort p (t.port p)) (ns := []) (ps := []) h d

theorem State.sameLines_modConsole (s : State) (c : Console) {f : ConsoleRec → ConsoleRec} (h : (f (s.console c)).link = (s.console c).link) :
    s.sameLines (s.modConsole c f) := fun d => ⟨rfl, by
  rw [State.modConsole_console]
  split
  · rename_i e; rw [e]; exact h
  · rfl⟩

theorem State.sameLines_modLink (s : State) (c : Console) {f : LinkUnit → LinkUnit} (h : (f (s.link c)).rx = (s.link c).rx) :
    s.sameLines (s.modLink c f) := fun d => ⟨by
  rw [State.modLink_link]
  split
  · rename_i e; rw [e]; exact h
  · rfl, rfl⟩

theorem State.sameLines.settled (h : s.sameLines t) : s.sameLines t.settle := h.trans (kept_settle (ns := []) (ps := []) t).sameLines

theorem State.sameLines_changeRequest (s : State) (c : Console) {f : ConsoleRec → ConsoleRec}
    (h : (f (s.console c)).link = (s.console c).link) : s.sameLines (s.changeRequest c f) :=
  (s.sameLines_modConsole c h).trans (kept_changeRequest s c f).sameLines

/-! ### What the commands do to them: nothing -/

theorem sameLines_restart (c : Console) (s : State) : s.sameLines (doRestart c s).1 := by
  unfold doRestart
  split
  · exact .refl s
  · exact s.sameLines_modLink c (f := fun u => { u with restartPending := true }) rfl

theorem sameLines_setLink (c : Console) (time : Option Nat) (mask : Option Byte) (s : State) : s.sameLines (doSetLink c time mask s).1 :=
  s.sameLines_modConsole c (f := fun r => r.superviseFor time) (by cases time <;> rfl)

theorem sameLines_setTalkTarget (c : Console) (k n : Nat) (s : State) : s.sameLines (doSetTalkTarget c k n s).1 := by
  unfold doSetTalkTarget
  split
  · exact .refl s
  · exact (kept_changeTarget (ns := []) (ps := []) s c _).sameLines.settled

theorem sameLines_setPort (k : Nat) (sel : PortSelection) (s : State) : s.sameLines (doSetPort k sel s).1 :=
  State.onPort_keeps (fun p => State.checked_keeps (fun _ =>
    ((keptBut_updPort s p (fun r => { r with cfg := r.cfg.store sel })).sameLines.trans
      (Resettled.settingsChange p _ _).others.sameLines).settled) (.refl s)) (.refl s)

theorem sameLines_clearPortConditions (k : Nat) (sel : ConditionSelection) (s : State) : s.sameLines (doClearPortConditions k sel s).1 :=
  State.onPort_keeps (fun p => ((keptBut_updPort s p (fun r => r.clearConditions sel)).sameLines.trans
    (kept_conditionsClear _ p _).sameLines).settled) (.refl s)

theorem sameLines_reservePort (c : Console) (k : Nat) (s : State) : s.sameLines (doReservePort c k s).1 := by
  refine State.onPort_keeps (fun p => ?_) (.refl s)
  split
  · exact .refl s
  · split
    · exact .refl s
    · split
      · exact .refl s
      · exact (kept_reserve s c p).1.sameLines.settled

theorem sameLines_releasePort (c : Console) (k : Nat) (s : State) : s.sameLines (doReleasePort c k s).1 := by
  refine State.onPort_keeps (fun p => ?_) (.refl s)
  split
  · exact .refl s
  · split
    · exact (kept_releaseReservation s c p).1.sameLines.settled
    · exact .refl s

theorem sameLines_createPatch (c : Console) (slot : Nat) (label : List Byte) (ports : List Nat) (s : State) :
    s.sameLines (doCreatePatch c slot label ports s).1 := by
  refine State.checked_keeps (fun _ => ?_) (.refl s)
  split
  · rename_i n _
    have taken : Kept [n] [] s (s.setPatch n (PatchRec.created c label)) := kept_setPatch (.inl List.mem_cons_self)
    exact (taken.sameLines.trans (kept_joinAll _ _).sameLines).settled
  · exact .refl s

theorem sameLines_addMembers (c : Console) (k : Nat) (ports : List Nat) (s : State) : s.sameLines (doAddMembers c k ports s).1 :=
  State.onPatch_keeps (fun _ => State.checked_keeps (fun _ => (kept_joinAll _ _).sameLines.settled) (.refl s)) (.refl s)

theorem sameLines_removeMembers (c : Console) (k : Nat) (ports : List Nat) (s : State) : s.sameLines (doRemoveMembers c k ports s).1 :=
  State.onPatch_keeps (fun _ => State.checked_keeps (fun _ =>
    (kept_leaveAll (ns := [_]) (ps := []) List.mem_cons_self s _ c).sameLines.settled) (.refl s)) (.refl s)

theorem sameLines_moveMember (c : Console) (port dest : Nat) (s : State) : s.sameLines (doMoveMember c port dest s).1 := by
  refine State.onPort_keeps (fun p => State.onPatch_keeps (fun d => ?_) (.refl s)) (.refl s)
  split
  · exact .refl s
  · exact State.checked_keeps (fun _ => ((kept_leaveAll (ns := [_]) (ps := []) List.mem_cons_self s _ c).sameLines.trans
      (kept_join (ns := [_]) (ps := [_]) List.mem_cons_self List.mem_cons_self _).sameLines).settled) (.refl s)

theorem sameLines_mergePatches (c : Console) (a b : Nat) (s : State) : s.sameLines (doMergePatches c a b s).1 :=
  State.onPatch_keeps (fun _ => State.onPatch_keeps (fun _ => State.checked_keeps (fun _ =>
    (kept_merge s c _ _).sameLines.settled) (.refl s)) (.refl s)) (.refl s)

theorem sameLines_setPatch (c : Console) (k : Nat) (sel : PatchSelection) (s : State) : s.sameLines (doSetPatch c k sel s).1 :=
  State.onPatch_keeps (fun n => State.checked_keeps (fun _ => (kept_patchStored s n sel).sameLines.settled) (.refl s)) (.refl s)

theorem sameLines_dissolve (c : Console) (k kind : Nat) (s : State) : s.sameLines (doDissolve c k kind s).1 :=
  State.onPatch_keeps (fun n => State.checked_keeps (fun _ =>
    (kept_dissolve (ns := []) (ps := []) s c n kind).sameLines.settled) (.refl s)) (.refl s)

/-- What a good frame asks for leaves every receiver and every console's link as it is. -/
theorem sameLines_runRequest (c : Console) (q : Request) (s : State) : s.sameLines (runRequest c q s).1 := by
  cases q with
  | queryUnit => exact .refl s
  | restart => exact sameLines_restart c s
  | setLink time mask => exact sameLines_setLink c time mask s
  | readNotice => exact .refl s
  | setPort k sel => exact sameLines_setPort k sel s
  | queryPort k => exact State.onPort_keeps (fun _ => .refl s) (.refl s)
  | clearPortConditions k sel => exact sameLines_clearPortConditions k sel s
  | reservePort k => exact sameLines_reservePort c k s
  | releasePort k => exact sameLines_releasePort c k s
  | createPatch slot label ports => exact sameLines_createPatch c slot label ports s
  | addMembers k ports => exact sameLines_addMembers c k ports s
  | removeMembers k ports => exact sameLines_removeMembers c k ports s
  | moveMember port dest => exact sameLines_moveMember c port dest s
  | mergePatches a b => exact sameLines_mergePatches c a b s
  | setPatch k sel => exact sameLines_setPatch c k sel s
  | dissolve k kind => exact sameLines_dissolve c k kind s
  | queryPatch k => exact State.onPatch_keeps (fun _ => State.checked_keeps (fun _ => .refl s) (.refl s)) (.refl s)
  | listPatches => exact .refl s
  | setSharing k v => exact State.onPatch_keeps (fun _ => State.checked_keeps (fun _ => .refl s) (.refl s)) (.refl s)
  | takeOver k => exact State.onPatch_keeps (fun _ => State.checked_keeps (fun _ => .refl s) (.refl s)) (.refl s)
  | setConsole mic side => exact s.sameLines_modConsole c rfl
  | setListen entries => exact State.checked_keeps (fun _ => s.sameLines_modConsole c rfl) (.refl s)
  | setTalkTarget k n => exact sameLines_setTalkTarget c k n s
  | seize => exact (s.sameLines_changeRequest c rfl).settled
  | unseize => exact (s.sameLines_changeRequest c rfl).settled

theorem sameLines_runParsed (c : Console) (x : Parsed) (s : State) : s.sameLines (runParsed c x s).1 := by
  cases x with
  | request q => exact sameLines_runRequest c q s
  | unknown _ => exact .refl s
  | badLength => exact .refl s

/-- A good frame on a link that is ready leaves its receiver outside a frame and its console's link UP (R145, R165). -/
theorem State.goodFrame_lines {s : State} {c : Console} (ready : s.readyFor c) {act : State → State × Response}
    (keeps : (s.heard c).sameLines (act (s.heard c)).1) :
    ((s.goodFrame c act).link c).rx = Receiver.outside ∧ ((s.goodFrame c act).console c).link = .up := by
  rw [State.goodFrame_of_ready (t := (act (s.heard c)).1) (r := (act (s.heard c)).2) ready rfl]
  obtain ⟨rx, link⟩ := (keeps.trans (State.sameLines_modLink _ c (f := fun u => { u with queue := u.queue ++ [(act (s.heard c)).2] }) rfl)) c
  rw [State.heard_link] at rx
  rw [State.heard_console] at link
  exact ⟨rx, link⟩

end

/-! ### The parity of a character (R163) -/

/-- The data bits of a character, in the order in which they are sent. -/
def dataBits (b : Byte) : List Bool := (List.range 8).map b.getLsbD

theorem onesCount_eq (b : Byte) : onesCount b = (dataBits b).count true := by
  unfold onesCount dataBits List.count
  rw [List.countP_map]
  exact List.countP_congr (by simp)

theorem LineChar.bits_count (ch : LineChar) : (dataBits ch.data ++ [ch.parity]).count true = onesCount ch.data + ch.parity.toNat := by
  rw [List.count_append, onesCount_eq]
  cases ch.parity <;> rfl

theorem LineChar.error_iff (ch : LineChar) : ch.error = true ↔ (onesCount ch.data + ch.parity.toNat) % 2 = 1 ∨ ch.stop = false := by
  unfold LineChar.error
  rw [Bool.or_eq_true, bne_iff_ne, Bool.not_eq_true', Nat.mod_two_ne_zero]

/-! ### One character on an open frame -/

/-- A character that neither opens nor closes a frame changes the receiver alone. -/
theorem execCharacter_inside {s : State} {c : Console} {ch : LineChar} {rx : Receiver} (line : s.resetLine = false)
    (opened : (s.link c).rx.isOpen = true) (inside : ch.error = true ∨ ch.data ≠ 0xF3#8 ∧ ch.data ≠ 0xF4#8)
    (takes : (s.link c).rx.take ch = rx) : exec (.characterReceived c ch) s = .next (s.setLink c { s.link c with rx := rx }) := by
  rw [execCharacter_running line, State.hearCharacter_inside opened inside, takes]

/-- A closing byte without error closes the frame. -/
theorem execCharacter_closes {s : State} {c : Console} {ch : LineChar} (line : s.resetLine = false) (opened : (s.link c).rx.isOpen = true)
    (closing : ch.data = 0xF4#8) (good : ch.error = false) : exec (.characterReceived c ch) s = .next (s.frameCloses c) := by
  rw [execCharacter_running line, State.hearCharacter_closes opened closing good]

theorem execCharacter_bad {s : State} {c : Console} {ch : LineChar} {f : FrameFault} (ready : s.readyFor c)
    (opened : (s.link c).rx.isOpen = true) (closing : ch.data = 0xF4#8) (good : ch.error = false)
    (fault : (s.link c).rx.closingFault = some f) :
    exec (.characterReceived c ch) s = .next ((s.closeFrame c).replied c (badFrameResponse f)) := by
  rw [execCharacter_closes ready.1 opened closing good, State.frameCloses_of_fault fault, State.badFrameCloses_of_ready ready]

/-- After the 66th unescaped byte only the time-out and the escape move (R166). -/
theorem Receiver.take_full {rx : Receiver} {ch : LineChar} (full : rx.full = true) (length : rx.stored.length = 65)
    (fault : rx.fault.isSome = true) :
    rx.take ch = { rx with timeLeft := 100, escaped := !ch.error && !rx.escaped && ch.data == 0xF5#8 } := by
  obtain ⟨f, fault⟩ := Option.isSome_iff_exists.mp fault
  have same (b : Byte) : rx.counted.store b = { rx with timeLeft := 100, escaped := false } := by
    rw [Receiver.counted_of_full full, Receiver.store_of_full (by exact length.ge)]
    obtain ⟨⟩ := rx
    cases full; cases fault; rfl
  cases good : ch.error with
  | true =>
    rw [Receiver.take_error good, Receiver.counted_of_full full]
    obtain ⟨⟩ := rx
    cases fault; rfl
  | false =>
    cases escaped : rx.escaped with
    | true => rw [Receiver.take_escaped good escaped, same]; rfl
    | false =>
      by_cases escape : ch.data = 0xF5#8
      · rw [Receiver.take_escape good escaped escape, Receiver.counted_of_full full, escape]; rfl
      · have off : (!false && !false && ch.data == 0xF5#8) = false := by simpa using escape
        rw [off]
        by_cases alert : ch.data = 0xF6#8
        · rw [Receiver.take_alert good escaped alert, Receiver.counted_of_full full]
          obtain ⟨⟩ := rx
          cases escaped
          split <;> rfl
        · rw [Receiver.take_plain good escaped escape alert, same]

/-- Settles O27: the character's clauses one by one; a good frame carries its request out as the command's row does. -/
theorem charactersAreReceived : Obligations.CharactersAreReceived := by
  unfold Obligations.CharactersAreReceived
  refine ⟨fun ch => ?_, fun s c ch line => ?_⟩
  · intro b ones
    refine ⟨?_, sent_error _, rfl, rfl⟩
    rw [LineChar.error_iff, ← LineChar.bits_count]
    rfl
  · intro u rx b good
    have plain (h : isReserved b = false) : b ≠ 0xF3#8 ∧ b ≠ 0xF4#8 ∧ b ≠ 0xF5#8 ∧ b ≠ 0xF6#8 := by
      have no := mt (isReserved_iff b).mpr (by rw [h]; exact Bool.false_ne_true)
      simpa only [not_or] using no
    refine ⟨fun ok opening => ?_, fun shut ignored => ?_, fun ok opened room unescaped fits ordinary => ?_, fun ok opened room unescaped escape => ?_,
      fun ok opened room escaped fits notOpening notClosing => ?_, fun ok opened room unescaped last unfaulted ordinary => ?_,
      fun bad opened room => ?_, fun inside opened full length fault => ?_, fun ok closing => ?_, fun ok closing opened unfaulted ready => ?_,
      fun f fault ok closing opened ready => ?_⟩
    · rw [execCharacter_running line, State.hearCharacter_opens opening ok]; rfl
    · rw [execCharacter_running line, State.hearCharacter_outside shut ignored]
    · obtain ⟨notOpening, notClosing, notEscape, notAlert⟩ := plain ordinary
      refine execCharacter_inside line opened (.inr ⟨notOpening, notClosing⟩) ?_
      rw [Receiver.take_plain ok unescaped notEscape notAlert, Receiver.counted_of_room room, Receiver.store_of_room (by exact fits)]
      exact congrArg (fun e => ({ rx with count := rx.count + 1, timeLeft := 100, stored := rx.stored ++ [b], escaped := e } : Receiver)) unescaped.symm
    · refine execCharacter_inside line opened (.inr ?_) ?_
      · constructor <;> (rw [show ch.data = 0xF5#8 from escape]; decide)
      · rw [Receiver.take_escape ok unescaped escape, Receiver.counted_of_room room]
    · refine execCharacter_inside line opened (.inr ⟨notOpening, notClosing⟩) ?_
      rw [Receiver.take_escaped ok escaped, Receiver.counted_of_room room, Receiver.store_of_room (by exact fits)]
    · obtain ⟨notOpening, notClosing, notEscape, notAlert⟩ := plain ordinary
      refine execCharacter_inside line opened (.inr ⟨notOpening, notClosing⟩) ?_
      rw [Receiver.take_plain ok unescaped notEscape notAlert, Receiver.counted_of_room room, Receiver.store_of_full (by exact last.ge)]
      show ({ rx with count := rx.count + 1, timeLeft := 100, fault := some (rx.fault.getD ⟨.length, rx.count + 1⟩), full := true, escaped := false } : Receiver) = _
      rw [unfaulted, ← unescaped]; rfl
    · refine execCharacter_inside line opened (.inl bad) ?_
      rw [Receiver.take_error bad, Receiver.counted_of_room room]
    · exact execCharacter_inside line opened inside (Receiver.take_full full length fault)
    · split
      · rename_i opened
        have link := s.withReceiver_link c { rx with escaped := false }
        rw [execCharacter_closes line opened closing ok, ← State.frameCloses_unescaped s c line]
        exact (execCharacter_closes (s := s.withReceiver c { rx with escaped := false }) line (by rw [link]; exact opened) closing ok).symm
      · rename_i shut
        rw [execCharacter_running line, State.hearCharacter_outside (Bool.eq_false_iff.mpr shut) (.inl (by rw [show ch.data = 0xF4#8 from closing]; decide))]
    · intro closed
      refine ⟨fun short => ?_, fun long check => ?_, fun long check => ?_⟩
      · exact execCharacter_bad ready opened closing ok (Receiver.closingFault_of_short unfaulted short)
      · exact execCharacter_bad ready opened closing ok (Receiver.closingFault_of_check unfaulted long check)
      · have carried := (execCharacter_closes line opened closing ok).trans
          (congrArg Host.Outcome.next (State.frameCloses_of_good (Receiver.closingFault_of_good unfaulted long check)))
        obtain ⟨outside, up⟩ := State.goodFrame_lines ready (sameLines_runParsed c (parsePayload rx.stored.dropLast) (s.heard c))
        refine ⟨_, carried, outside, up, fun i r hi parsed => ?_⟩
        rw [exec_request hi, show parsePayload (s.link c).rx.stored.dropLast = .request r from parsed]
        rfl
    · exact execCharacter_bad ready opened closing ok (Receiver.closingFault_of_fault fault)

end Sys2Proof.Machine
